-- ==== Sys2Proof/Word.lean ====
section
/-! DEFINITION. The byte of the control line, and `Tab`, a table of fixed length: forty seats, twenty
positions, four links. A `Tab` is a list with the proof of its length, so that reading and writing an
entry is total. -/

namespace Sys2Proof

/-- One byte of the control line (section 10.2). -/
abbrev Byte := BitVec 8

/-- A field of two bytes, high byte first on the line (00_scope, Byte order). -/
abbrev Pair := BitVec 16

/-- A table of `n` like things. -/
structure Tab (n : Nat) (α : Type) where
  toList : List α
  length_toList : toList.length = n
  deriving DecidableEq, Repr

variable {n : Nat} {α β : Type}

/-- The entry at index `i`. -/
def Tab.get (t : Tab n α) (i : Fin n) : α :=
  t.toList[i.val]'(by rw [t.length_toList]; exact i.isLt)

/-- The table with entry `i` replaced. -/
def Tab.set (t : Tab n α) (i : Fin n) (a : α) : Tab n α :=
  ⟨t.toList.set i.val a, by rw [List.length_set, t.length_toList]⟩

/-- The table with entry `i` changed by `f`. -/
def Tab.modify (t : Tab n α) (i : Fin n) (f : α → α) : Tab n α :=
  t.set i (f (t.get i))

/-- The table whose entry `i` is `f i`. -/
def Tab.ofFn (f : Fin n → α) : Tab n α :=
  ⟨List.ofFn f, List.length_ofFn⟩

/-- The table with every entry `a`. -/
def Tab.fill (n : Nat) (a : α) : Tab n α :=
  ⟨List.replicate n a, List.length_replicate⟩

/-- Every entry changed by `f`. -/
def Tab.map (f : α → β) (t : Tab n α) : Tab n β :=
  ⟨t.toList.map f, by rw [List.length_map, t.length_toList]⟩

/-- Two tables taken together, entry by entry. -/
def Tab.zipWith {γ : Type} (f : α → β → γ) (t : Tab n α) (u : Tab n β) : Tab n γ :=
  ⟨List.zipWith f t.toList u.toList, by rw [List.length_zipWith, t.length_toList, u.length_toList, Nat.min_self]⟩

/-- Every entry changed by `f`, which also sees the index. -/
def Tab.mapFin (f : Fin n → α → β) (t : Tab n α) : Tab n β :=
  Tab.ofFn fun i => f i (t.get i)

@[simp] theorem Tab.get_set_self (t : Tab n α) (i : Fin n) (a : α) : (t.set i a).get i = a := by
  simp [Tab.get, Tab.set]

@[simp] theorem Tab.get_set_ne (t : Tab n α) {i j : Fin n} (a : α) (h : i ≠ j) :
    (t.set i a).get j = t.get j := by
  have : i.val ≠ j.val := fun e => h (Fin.ext e)
  simp [Tab.get, Tab.set, this]

theorem Tab.get_set (t : Tab n α) (i j : Fin n) (a : α) :
    (t.set i a).get j = if i = j then a else t.get j := by
  split
  · subst j; simp
  · simp [*]

@[simp] theorem Tab.get_modify_self (t : Tab n α) (i : Fin n) (f : α → α) :
    (t.modify i f).get i = f (t.get i) := by simp [Tab.modify]

@[simp] theorem Tab.get_modify_ne (t : Tab n α) {i j : Fin n} (f : α → α) (h : i ≠ j) :
    (t.modify i f).get j = t.get j := by simp [Tab.modify, h]

theorem Tab.get_modify (t : Tab n α) (i j : Fin n) (f : α → α) :
    (t.modify i f).get j = if i = j then f (t.get i) else t.get j := by
  simp [Tab.modify, Tab.get_set]

@[simp] theorem Tab.get_ofFn (f : Fin n → α) (i : Fin n) : (Tab.ofFn f).get i = f i := by
  simp [Tab.get, Tab.ofFn]

@[simp] theorem Tab.get_fill (a : α) (i : Fin n) : (Tab.fill n a).get i = a := by
  simp [Tab.get, Tab.fill]

@[simp] theorem Tab.get_map (f : α → β) (t : Tab n α) (i : Fin n) :
    (t.map f).get i = f (t.get i) := by simp [Tab.get, Tab.map]

@[simp] theorem Tab.get_zipWith {γ : Type} (f : α → β → γ) (t : Tab n α) (u : Tab n β) (i : Fin n) :
    (t.zipWith f u).get i = f (t.get i) (u.get i) := by simp [Tab.get, Tab.zipWith]

@[simp] theorem Tab.get_mapFin (f : Fin n → α → β) (t : Tab n α) (i : Fin n) :
    (t.mapFin f).get i = f i (t.get i) := by simp [Tab.mapFin]

theorem Tab.ext_get {t u : Tab n α} (h : ∀ i, t.get i = u.get i) : t = u := by
  obtain ⟨l, hl⟩ := t
  obtain ⟨m, hm⟩ := u
  congr
  apply List.ext_getElem (by rw [hl, hm])
  intro i h1 _
  exact h ⟨i, hl ▸ h1⟩

theorem Tab.set_get_self (t : Tab n α) (i : Fin n) : t.set i (t.get i) = t := by
  apply Tab.ext_get
  intro j
  rw [Tab.get_set]
  split <;> simp_all

end Sys2Proof
end

