-- ==== Sys2Proof/Syntax.lean ====
section
/-! DEFINITION. The commands of the SM40: one constructor of `Instr` for each row of the table of operations
and events, with the operands that row carries. A request row carries its tag and the fields of its body as
the control port carries them (R188 to R190), so that a value outside its range can be written down. -/

namespace Sys2Proof

/-- A seat. Seat number n of the manual is index n - 1. -/
abbrev Seat := Fin 40
/-- A far-end link; link number k is index k - 1. -/
abbrev Link := Fin 4
/-- A pod line; line number l is index l - 1. -/
abbrev LineNo := Fin 2
/-- A position on a line, counted outward; position p is index p - 1. -/
abbrev Pos := Fin 20
/-- A group of seats; group g is index g - 1. -/
abbrev Group := Fin 8

/-- The number by which the manual names a thing counted from 1. -/
def numberOf {n : Nat} (i : Fin n) : Nat := i.val + 1

/-- The kind of a pod (R22). -/
inductive PodKind where
  | member | chair
  deriving DecidableEq, Repr

/-- The buttons, in the order in which presses are taken (R32). -/
inductive Button where
  | mic | talk | room | next | clear
  deriving DecidableEq, Repr

/-- A pod's status record (R22): its kind, its privacy switch (true is ON), and the buttons pressed since the
previous record. -/
structure StatusRecord where
  kind : PodKind
  privacy : Bool
  mic : Bool
  talk : Bool
  room : Bool
  next : Bool
  clear : Bool
  deriving DecidableEq, Repr

/-- The 48 samples of one millisecond at 48 kHz (R21, R22), each in units of ten to the power -5 of the part's nominal
level (log 14). -/
abbrev Samples := Tab 48 Int

/-- One slot of an upstream frame (R22): its 48 microphone samples, its status record, and the outcome of its check. -/
structure Slot where
  passes : Bool
  status : StatusRecord
  samples : Samples
  deriving DecidableEq, Repr

/-- The terminator report of an upstream frame (R22), 0 to 20, with the outcome of its own check. -/
structure TermReport where
  value : Nat
  passes : Bool
  deriving DecidableEq, Repr

/-- The answer field of an upstream frame (R22): where the answering pod is, its status record's kind and
privacy switch, and the outcome of the check. -/
structure EnumAnswer where
  pos : Pos
  passes : Bool
  kind : PodKind
  privacy : Bool
  deriving DecidableEq, Repr

/-- The upstream frame of one line in one millisecond (R22). `program` is not on the wire: it is what the two program
inputs carry in the same 1 ms (section 6.1), which no other row brings (log 15). -/
structure UpFrame where
  slots : Tab 20 Slot
  term : TermReport
  answer : Option EnumAnswer
  program : Tab 2 Samples
  deriving DecidableEq, Repr

/-- What a link port brings in 1 ms (R141, R142): the frame rate measured, in frames per second, and the samples of the
inbound data line, at the bridge's rate (log 15). -/
structure PortReading where
  rate : Nat
  inbound : List Int
  deriving DecidableEq, Repr

/-- The three bytes of a seat-map entry (R189). -/
structure RawEntry where
  line : Byte
  position : Byte
  attributes : Byte
  deriving DecidableEq, Repr

/-- How MUTE_LIFT names a claim (R66, R190). -/
inductive ClaimRef where
  | byNumber (number : Byte)
  | byName (cls identity scopeKind scopeIndex direction : Byte)
  deriving DecidableEq, Repr

/-- The causes of a full reset (R184). -/
inductive ResetCause where
  | power | pin | request
  deriving DecidableEq, Repr

/-- A gain component of the Mix Engine (R122): one that moves by its own ramp. `sourceTrim` is indexed S1-S40,
F1-F4, P1, P2 and `busTrim` L1-L40, E1-E4, REC, AST (R188). `classMic bus src` is the class level of the
microphone of seat `src` on bus L of seat `bus`. -/
inductive CompId where
  | gate (seat : Seat)
  | micMute (seat : Seat)
  | returnMute (link : Link)
  | linkState (link : Link)
  | sourceTrim (source : Fin 46)
  | classMic (bus : Seat) (src : Seat)
  | classMicOut
  | classFar
  | classBridge
  | classProgram
  | classAssist
  | toneLevel (seat : Seat)
  | openCount
  | standby
  | envelope (seat : Seat)
  | speakerMute (seat : Seat)
  | feedbackOffset (seat : Seat)
  | sendMute (link : Link)
  | busTrim (bus : Fin 46)
  deriving DecidableEq, Repr

/-- The commands, in the order of the table of operations and events. -/
inductive Instr where
  /-- IDENT (R202). -/
  | ident (tag : Byte)
  /-- EVENT_MASK (R199): with a mask byte, or with an empty body. -/
  | eventMask (tag : Byte) (mask : Option Byte)
  /-- DEVICE_RESET (R201). -/
  | deviceReset (tag : Byte)
  /-- MAP_LOAD (R5). -/
  | mapLoad (tag first count : Byte) (entries : List RawEntry)
  /-- MAP_DUMP (R6). -/
  | mapDump (tag map first count : Byte)
  /-- MAP_SWITCH with when NOW (R11). -/
  | mapSwitchNow (tag locked wait : Byte)
  /-- MAP_SWITCH with when QUIET (R12). -/
  | mapSwitchQuiet (tag locked wait : Byte)
  /-- MAP_SWITCH with when CANCEL (R14). -/
  | mapSwitchCancel (tag locked wait : Byte)
  /-- SEAT_CHECK (R7). -/
  | seatCheck (tag seat : Byte)
  /-- GROUP_SET (R18). -/
  | groupSet (tag group : Byte) (seats : List Byte)
  /-- GROUP_READ (R18). -/
  | groupRead (tag group : Byte)
  /-- LINE_SET (R39). -/
  | lineSet (tag line expected lostLimit : Byte)
  /-- LINE_READ (R41). -/
  | lineRead (tag line : Byte)
  /-- LINE_SCAN (R27). -/
  | lineScan (tag line : Byte)
  /-- LINE_REHEARSE (R40). -/
  | lineRehearse (tag line position mode : Byte) (duration : Pair)
  /-- DETECT_SET (R52). -/
  | detectSet (tag seat onsetMargin echoMargin onsetTime : Byte) (endTime riseBlank fallGuard : Pair)
  /-- DETECT_READ (R53). -/
  | detectRead (tag seat : Byte)
  /-- MUTE_PLACE (R62). -/
  | mutePlace (tag cls identity scopeKind scopeIndex direction : Byte) (expiry : Pair)
  /-- MUTE_LIFT (R66). -/
  | muteLift (tag cls identity force : Byte) (claim : ClaimRef)
  /-- MUTE_LIST (R83). -/
  | muteList (tag start : Byte)
  /-- MUTE_READ (R84): first byte 0 for a seat, 1 for a link. -/
  | muteRead (tag which number : Byte)
  /-- FLOOR_SET (R113). -/
  | floorSet (tag mode limit : Byte) (hold : Pair) (lastMic autoGrant chairFree : Byte) (idle : Pair) (attack : Byte) (release : Pair)
  /-- FLOOR_GRANT (R104). -/
  | floorGrant (tag seat bump : Byte)
  /-- FLOOR_QUEUE (R111). -/
  | floorQueue (tag seat : Byte)
  /-- FLOOR_DROP (R112). -/
  | floorDrop (tag seat : Byte)
  /-- FLOOR_CLEAR (R107). -/
  | floorClear (tag : Byte)
  /-- FLOOR_READ (R116). -/
  | floorRead (tag first : Byte)
  /-- MIX_SET (R136). -/
  | mixSet (tag item index value : Byte) (ramp : Pair)
  /-- TONE_SET (R135). -/
  | toneSet (tag enabled level : Byte)
  /-- MIX_READ (R139). -/
  | mixRead (tag bus : Byte)
  /-- LINK_JOIN (R144). -/
  | linkJoin (tag link : Byte)
  /-- LINK_LEAVE (R148). -/
  | linkLeave (tag link : Byte)
  /-- LINK_HOLD (R146). -/
  | linkHold (tag link : Byte)
  /-- LINK_RESUME (R147). -/
  | linkResume (tag link : Byte)
  /-- LINK_READ (R151). -/
  | linkRead (tag link : Byte)
  /-- CALL_SET (R156). -/
  | callSet (tag delay : Byte)
  /-- CALL_WAKE (R157). -/
  | callWake (tag : Byte)
  /-- FEEDBACK_SET (R169). -/
  | feedbackSet (tag mode window ratio filter retry : Byte)
  /-- FEEDBACK_RELEASE (R168). -/
  | feedbackRelease (tag seat : Byte)
  /-- FEEDBACK_READ (R171). -/
  | feedbackRead (tag seat : Byte)
  /-- FEEDBACK_REHEARSE (R170). -/
  | feedbackRehearse (tag seat : Byte)
  /-- SCENE_SAVE (R176). -/
  | sceneSave (tag slot : Byte) (name : List Byte)
  /-- SCENE_RECALL (R179). -/
  | sceneRecall (tag slot : Byte)
  /-- SCENE_ERASE (R178). -/
  | sceneErase (tag slot : Byte)
  /-- SCENE_VERIFY (R181). -/
  | sceneVerify (tag first count : Byte)
  /-- SCENE_START (R183). -/
  | sceneStart (tag slot : Byte)
  /-- SCENE_LIST (R182). -/
  | sceneList (tag : Byte)
  /-- UNKNOWN (R195): a request whose kind is not in the table of request kinds. -/
  | unknown (tag kind : Byte) (body : List Byte)
  /-- RECEIVE_FRAME (R192): these bytes arrive on the control line, in order. -/
  | receiveFrame (bytes : List Byte)
  /-- GAP (R193). -/
  | gap
  /-- FRAMING (R193). -/
  | framing
  /-- TRANSMIT_FRAME_DONE (R197). -/
  | transmitFrameDone
  /-- BREAK (R200). -/
  | breakLine
  /-- PORT_READY (R200). -/
  | portReady
  /-- RESET_INPUT_ASSERTED (R184). -/
  | resetInputAsserted
  /-- FULL_RESET (R185): its cause, and the levels of the two straps (true is high). -/
  | fullReset (cause : ResetCause) (strapA strapB : Bool)
  /-- UPSTREAM_FRAME (R24). -/
  | upstreamFrame (line : LineNo) (frame : UpFrame)
  /-- ENUMERATION_TIMEOUT (R28, R29). -/
  | enumerationTimeout (line : LineNo)
  /-- PROBE_TIMER_EXPIRY (R29). -/
  | probeTimerExpiry (line : LineNo)
  /-- REHEARSAL_END (R40). -/
  | rehearsalEnd (line : LineNo)
  /-- ROOM_LAMP_BLINK_END (R37). -/
  | roomLampBlinkEnd (line : LineNo) (pos : Pos)
  /-- RISE_BLANK_EXPIRY (R48). -/
  | riseBlankExpiry (seat : Seat)
  /-- FALL_GUARD_EXPIRY (R49). -/
  | fallGuardExpiry (seat : Seat)
  /-- SEED_TIMER_EXPIRY (R50). -/
  | seedTimerExpiry (seat : Seat)
  /-- CLAIM_EXPIRY (R68): the claim is named by its number. -/
  | claimExpiry (number : Fin 48)
  /-- HOLD_TIMER_EXPIRY (R97, R98). -/
  | holdTimerExpiry (seat : Seat)
  /-- IDLE_TIMER_EXPIRY (R105). -/
  | idleTimerExpiry (seat : Seat)
  /-- WAIT_TIMER_EXPIRY (R15). -/
  | waitTimerExpiry
  /-- RAMP_COMPLETE (R130). -/
  | rampComplete (comp : CompId)
  /-- TONE_FADE (R133). -/
  | toneFade (seat : Seat)
  /-- CLOCK_MEASUREMENT (R142): what the port's clock brought in the last 1 ms, or none when no frame clock edge arrived
  in it. -/
  | clockMeasurement (link : Link) (reading : Option PortReading)
  /-- LOCK_NOTICE (R145, R149). -/
  | lockNotice (link : Link)
  /-- LOSS_NOTICE (R149). -/
  | lossNotice (link : Link)
  /-- JOIN_TIMER_EXPIRY (R145). -/
  | joinTimerExpiry (link : Link)
  /-- STANDBY_TIMER_EXPIRY (R154). -/
  | standbyTimerExpiry
  /-- WINDOW_END (R161): the strongest band one-twelfth of an octave wide in the window, by its centre in Hz and its
  level in half-decibels, which are free (log 46). -/
  | windowEnd (seat : Seat) (centre : Nat) (peak : Int)
  /-- RETRY_TIMER_EXPIRY (R165). -/
  | retryTimerExpiry (seat : Seat)
  /-- SAVE_DONE (R177): whether the slot reads back as it was programmed. -/
  | saveDone (good : Bool)
  /-- ERASE_DONE (R178): whether the slot reads erased throughout. -/
  | eraseDone (erased : Bool)
  /-- START_DONE (R183): whether the value reads back as written. -/
  | startDone (good : Bool)
  deriving DecidableEq, Repr

end Sys2Proof
end

