-- ==== Sys2Proof/Config.lean ====
section
/-! DEFINITION. What the spec leaves to the part: the free values. Each is opaque, so that no proof can see a
value of it and every claim holds whatever it is. -/

namespace Sys2Proof

/-- FREE VALUE (log 14). R118 multiplies a sample by a gain and states no sample format: whether a product that is no
whole number goes to the whole number above it, for a gain of so many thousandths of a dB (first argument) and a sample
(second argument). -/
opaque Config.roundsUp : Int → Int → Bool

/-- FREE VALUE (log 14). R118 limits a bus sum to full scale and states no value for it. -/
opaque Config.fullScale : Nat

/-- FREE VALUE (log 64). R118 converts a return from the bridge's frame rate to 48 kHz and a send back, and states no
arithmetic for it: samples converted from one rate (first argument) to another (second argument). -/
opaque Config.convert : Nat → Nat → List Int → List Int

/-- FREE VALUE (log 65). R133 gives the tones their lengths and no sound: a sample of a tone (first argument, numbered
MUTED 0, LIVE 1, HELD 2, GRANTED 3) after so many ms (second argument), at an index of the 1 ms (third argument). -/
opaque Config.tone : Nat → Nat → Nat → Int

/-- FREE VALUE (log 46). R161 takes the level of the strongest band one-twelfth of an octave wide and states no filter for
it: the centre of that band in Hz, and its level in half-decibels, in a window of these samples, newest first. -/
opaque Config.strongest : List Samples → Nat × Int

end Sys2Proof
end

