-- ==== Sys2Proof/Machine/Types.lean ====
section
/-! DEFINITION. The plain data the ten blocks of the SM40 hold (00_scope, Blocks), one structure for each block,
and the event records. Times are in ms unless a field says otherwise; component values and noise floors are in
thousandths of a dB, levels, trims and offsets in half-decibels (log 30). -/

namespace Sys2Proof.Machine

open Sys2Proof

/-! ## Seat Map unit (chapter 1) -/

/-- The role of a map entry (section 1.1). -/
inductive Role where
  | member | chair
  deriving DecidableEq, Repr

/-- Presence (section 1.2). -/
inductive Presence where
  | present | absent | vacant
  deriving DecidableEq, Repr

/-- A pod position: where a pod sits on a chain. -/
structure PodPos where
  line : LineNo
  pos : Pos
  deriving DecidableEq, Repr

/-- A map entry (section 1.1); no place is UNASSIGNED. -/
structure Entry where
  place : Option PodPos
  role : Role
  locked : Bool
  deriving DecidableEq, Repr

/-- The lock handling of a switch (section 1.5). -/
inductive LockMode where
  | keep | take
  deriving DecidableEq, Repr

/-- The pending-switch record: its lock handling and its remaining wait, or none when it waits indefinitely. -/
structure Switch where
  lock : LockMode
  timer : Option Nat
  deriving DecidableEq, Repr

/-- The state of the Seat Map unit (R1, R8, R9, R18). `waitLimit` is in seconds. -/
structure SeatMapUnit where
  running : Tab 40 Entry
  staged : Tab 40 Entry
  groups : Tab 8 (Tab 40 Bool)
  quiet : Bool
  switch : Option Switch
  waitLimit : Nat
  deriving DecidableEq, Repr

/-! ## Pod Line controllers (chapter 2) -/

/-- The line states (R23). -/
inductive LineState where
  | scanning | up | down
  deriving DecidableEq, Repr

/-- The mic ring (section 2.2). -/
inductive Ring where
  | off | green | amber | red | blinkRed
  deriving DecidableEq, Repr

/-- A lamp (section 2.2). -/
inductive Lamp where
  | off | steady | blink
  deriving DecidableEq, Repr

/-- The gate states (section 5.2), in the order of R188. -/
inductive GateState where
  | closed | waiting | opened | hold | queued | granted
  deriving DecidableEq, Repr

/-- The mic mute kinds (R70); `free` is NONE. -/
inductive MuteKind where
  | standing | placed | free
  deriving DecidableEq, Repr

/-- A Pod Line controller's view of a seat (section 2.7). -/
structure View where
  floor : GateState
  mic : MuteKind
  talking : Bool
  roomClaim : Bool
  deriving DecidableEq, Repr

/-- A pod record (section 2.2), with the view of the seat it serves and the time left of a room lamp blink
(R37). -/
structure Pod where
  present : Bool
  kind : PodKind
  privacy : Bool
  bad : Nat
  ring : Ring
  talk : Lamp
  room : Lamp
  view : View
  blink : Option Nat
  deriving DecidableEq, Repr

/-- An enumeration command in flight: the position addressed and the time left for its answer (R28, R29). -/
structure Enumeration where
  pos : Pos
  left : Nat
  deriving DecidableEq, Repr

/-- The rehearsal modes (R40). -/
inductive RehearseMode where
  | drop | brk
  deriving DecidableEq, Repr

/-- A rehearsal running on a line (R40). -/
structure Rehearsal where
  mode : RehearseMode
  pos : Pos
  left : Nat
  deriving DecidableEq, Repr

/-- The state of one Pod Line controller (section 2.2). `dark` is the standby state as the Link Controller's
notices left it (R34); `audio` is the microphone audio of each position in the line's last frame, silence where the
slot was bad (R24). -/
structure Line where
  lstate : LineState
  pods : Tab 20 Pod
  expected : Nat
  lostLimit : Nat
  scan : Option Enumeration
  probe : Option Enumeration
  probeTimer : Option Nat
  rehearsal : Option Rehearsal
  termReported : Nat
  dark : Bool
  audio : Tab 20 Samples
  deriving DecidableEq, Repr

/-- The causes of a loss (R26). -/
inductive LossCause where
  | scan | slot | brk
  deriving DecidableEq, Repr

/-! ## Talk Detectors (chapter 3) -/

/-- The detector states (R45). -/
inductive DetState where
  | silent | rising | speech | falling
  deriving DecidableEq, Repr

/-- The six settings of a detector (section 3.6): margins in dB, times in ms. -/
structure DetSettings where
  onsetMargin : Nat
  echoMargin : Nat
  onsetTime : Nat
  endTime : Nat
  riseBlank : Nat
  fallGuard : Nat
  deriving DecidableEq, Repr

/-- A Talk Detector (section 3.1). `energies` are the sums of the squares of the samples of each of the last 10 ms of the
microphone and `refEnergies` of the bus, newest first; `refLevels` the reference values of the last 30 ms. `acc`,
`endTimer`, `seed`, `rise` and `fall` are in ms; `seedLow` is the lowest level measured since the restart (R50). -/
structure Detector where
  level : Int
  energies : List Nat
  noiseFloor : Int
  reference : Int
  refEnergies : List Nat
  refLevels : List Int
  dstate : DetState
  held : Bool
  acc : Nat
  due : Bool
  endTimer : Nat
  seed : Option Nat
  seedLow : Option Int
  rise : Option Nat
  fall : Option Nat
  settings : DetSettings
  deriving DecidableEq, Repr

/-! ## Mute Arbiter (chapter 4) -/

/-- The causes of a mute, in the order of authority (R55); `free` is NONE. -/
inductive Cause where
  | free | privacy | feedback | room | chair | far | self
  deriving DecidableEq, Repr

/-- Who placed a claim: its class with its identity (section 4.3). -/
inductive Claimant where
  | room | chair (seat : Seat) | far (link : Link)
  deriving DecidableEq, Repr

/-- What a placed claim covers (R61). -/
inductive Scope where
  | seat (n : Seat) | group (g : Group) | members | everyone | link (k : Link)
  deriving DecidableEq, Repr

/-- Which way a placed claim silences (section 4.3); `ret` is RETURN. -/
inductive Dir where
  | mic | speaker | send | ret
  deriving DecidableEq, Repr

/-- A record of the Placed Claim Table (section 4.3). `expiry` is the time remaining in ms. -/
structure Claim where
  number : Fin 48
  who : Claimant
  scope : Scope
  dir : Dir
  expiry : Option Nat
  stamp : Nat
  deriving DecidableEq, Repr

/-- The effective mute of a seat (R70), with the flags its derivation reports (R71). -/
structure Eff where
  micMuted : Bool
  micCause : Cause
  kind : MuteKind
  privacy : Bool
  self : Bool
  spkMuted : Bool
  spkCause : Cause
  feedback : Bool
  deriving DecidableEq, Repr

/-- What the Arbiter keeps of a seat: the standing flags (section 4.2), the marks of R79 and the spell they
make, and the seat's presence as the notices gave it. -/
structure MuteSeat where
  privacy : Bool
  self : Bool
  feedback : Bool
  speaking : Bool
  reported : Bool
  spell : Bool
  presence : Presence
  deriving DecidableEq, Repr

/-- The effective mute of a link (R70). -/
structure LinkEff where
  send : Bool
  ret : Bool
  deriving DecidableEq, Repr

/-- The state of the Mute Arbiter. `table` is in placement order; `eff` and `links` are the values last derived
(R71); `linkIdle` is the view of R63. -/
structure Mute where
  seats : Tab 40 MuteSeat
  eff : Tab 40 Eff
  links : Tab 4 LinkEff
  linkIdle : Tab 4 Bool
  table : List Claim
  stamp : Nat
  deriving DecidableEq, Repr

/-! ## Floor Controller (chapter 5) -/

/-- The floor modes (section 5.1). -/
inductive FloorMode where
  | opened | auto | request
  deriving DecidableEq, Repr

/-- The nine settings of the floor (section 5.1); `idle` is in seconds. -/
structure FloorSettings where
  mode : FloorMode
  limit : Nat
  hold : Nat
  lastMic : Bool
  autoGrant : Bool
  chairFree : Bool
  idle : Nat
  attack : Nat
  release : Nat
  deriving DecidableEq, Repr

/-- A seat's timer (R86), with the ms remaining. -/
inductive SeatTimer where
  | off | hold (left : Nat) | idle (left : Nat)
  deriving DecidableEq, Repr

/-- The floor's record of a seat (R86). -/
structure FloorSeat where
  gate : GateState
  kept : Bool
  speaking : Bool
  stamp : Nat
  timer : SeatTimer
  presence : Presence
  muted : Bool
  deriving DecidableEq, Repr

/-- The reasons of CLOSED and DEQUEUED, in the order of R88. -/
inductive Reason where
  | admitted | ended | takenOver | cancelled | done | bumped | idle | muted | absent | reseated
  | standby | mode | limit | cleared | dropped
  deriving DecidableEq, Repr

/-- The reasons of REFUSED (R88). -/
inductive RefuseReason where
  | waitFull | queueFull | noSlot | noRequest
  deriving DecidableEq, Repr

/-- The two lists QUEUED and DEQUEUED name (R88). -/
inductive FloorList where
  | wait | request
  deriving DecidableEq, Repr

/-- The state of the Floor Controller. `quietSaid` is the quiet condition as it was last judged (R108). -/
structure Floor where
  settings : FloorSettings
  seats : Tab 40 FloorSeat
  openList : List Seat
  waitList : List Seat
  queue : List Seat
  stamp : Nat
  standby : Bool
  lastCount : Nat
  quietSaid : Bool
  deriving DecidableEq, Repr

/-! ## Mix Engine (chapter 6) -/

/-- A gain: off, or a value in thousandths of a dB. -/
inductive Gain where
  | off | db (mdb : Int)
  deriving DecidableEq, Repr

/-- A ramp in flight (R130): the value it began at, whether the component stood at off then, its time and the
time it has run. -/
structure Ramp where
  start : Int
  fromOff : Bool
  total : Nat
  elapsed : Nat
  deriving DecidableEq, Repr

/-- A gain component (R122, R130). -/
structure Comp where
  target : Gain
  ramp : Option Ramp
  deriving DecidableEq, Repr

/-- The settings of section 6.7 and section 6.6: trims and levels in half-decibels, none for off. -/
structure MixSettings where
  srcTrim : Tab 46 Int
  busTrim : Tab 46 Int
  reinforcement : Option Int
  program : Option Int
  assist : Option Int
  near : Nat
  bridging : Bool
  muteRamp : Nat
  tonesOn : Bool
  toneLevel : Int
  deriving DecidableEq, Repr

/-- The tones (section 6.6). -/
inductive Tone where
  | muted | live | held | granted
  deriving DecidableEq, Repr

/-- A tone player that is PLAYING (R133). -/
structure Playing where
  tone : Tone
  elapsed : Nat
  deriving DecidableEq, Repr

/-- The state of the Mix Engine. Components whose value is one for several terms are held once (log 29). `program` is
what the two program inputs carried in the last 1 ms. -/
structure Mix where
  settings : MixSettings
  gate : Tab 40 Comp
  micMute : Tab 40 Comp
  returnMute : Tab 4 Comp
  linkState : Tab 4 Comp
  srcTrim : Tab 46 Comp
  classMic : Tab 40 (Tab 40 Comp)
  classMicOut : Comp
  classFar : Comp
  classBridge : Comp
  classProgram : Comp
  classAssist : Comp
  toneLevel : Tab 40 Comp
  openCount : Comp
  standbyComp : Comp
  envelope : Tab 40 Comp
  speakerMute : Tab 40 Comp
  fbOffset : Tab 40 Comp
  sendMute : Tab 4 Comp
  busTrim : Tab 46 Comp
  players : Tab 40 (Option Playing)
  program : Tab 2 Samples
  countIn : Nat
  standby : Bool
  deriving DecidableEq, Repr

/-- A source (section 6.1), as R188 indexes it: 0 to 45 for S1-S40, F1-F4, P1, P2. -/
inductive Source where
  | mic (n : Seat) | far (k : Link) | program (second : Bool) | tone (n : Seat)
  deriving DecidableEq, Repr

/-- A bus (section 6.1). -/
inductive Bus where
  | loud (n : Seat) | send (k : Link) | recorder | assist
  deriving DecidableEq, Repr

/-! ## Link Controller (chapter 7) -/

/-- The link states (section 7.2). -/
inductive LinkSt where
  | idle | joining | joined | held | leaving | fault
  deriving DecidableEq, Repr

/-- The phases of JOINING (section 7.2). -/
inductive Phase where
  | wait | ramp
  deriving DecidableEq, Repr

/-- The call states (R152). -/
inductive CallSt where
  | idle | live | standby
  deriving DecidableEq, Repr

/-- A link record (section 7.2) with its port's clock monitor (R142). `up` is the link-state target, true for
0 dB; `qual`, `noEdge` and `outBand` count ms; `rate` is the latest measured rate in frames per second; `inbound` is
what the port's inbound data line brought in the last 1 ms measured. -/
structure LinkRec where
  st : LinkSt
  phase : Option Phase
  joinTimer : Option Nat
  up : Bool
  outstanding : Bool
  locked : Bool
  qual : Nat
  noEdge : Nat
  outBand : Nat
  rate : Option Nat
  inbound : List Int
  deriving DecidableEq, Repr

/-- The reasons of LINK_STATE (R150). -/
inductive LinkReason where
  | request | rampDone | lock | clockLost | noLock
  deriving DecidableEq, Repr

/-- The causes of CALL_STATE (R152). -/
inductive CallCause where
  | link | delay | press | join | request
  deriving DecidableEq, Repr

/-- The state of the Link Controller: the links, the call, the standby delay in minutes and the standby timer in
ms. -/
structure LinkUnit where
  links : Tab 4 LinkRec
  call : CallSt
  delay : Nat
  timer : Option Nat
  deriving DecidableEq, Repr

/-! ## Feedback Monitor (chapter 8) -/

/-- The modes of the monitor (section 8.1). -/
inductive FbMode where
  | report | latch | retry
  deriving DecidableEq, Repr

/-- The five settings of the monitor (section 8.1): ms, dB, windows, s. -/
structure FbSettings where
  mode : FbMode
  window : Nat
  ratio : Nat
  filter : Nat
  retry : Nat
  deriving DecidableEq, Repr

/-- A window in progress (R159), with the frames of the seat's microphone audio it has measured, newest first (R161). -/
structure Window where
  elapsed : Nat
  length : Nat
  frames : List Samples
  deriving DecidableEq, Repr

/-- The monitor's record of a seat (R159). `live` is the speaker mark, `tripRetry` is in seconds, `retryTimer` in
ms, `offset` in half-decibels. -/
structure FbSeat where
  live : Bool
  presence : Presence
  window : Option Window
  consecutive : Nat
  trips : Nat
  tripMode : Option FbMode
  tripRetry : Option Nat
  flag : Bool
  retryTimer : Option Nat
  offset : Int
  deriving DecidableEq, Repr

/-- The state of the Feedback Monitor. -/
structure Feedback where
  settings : FbSettings
  seats : Tab 40 FbSeat
  deriving DecidableEq, Repr

/-- The actions of a trip (R167, R170). -/
inductive TripAction where
  | report | latch | retry | latched
  deriving DecidableEq, Repr

/-- The causes of RELEASE (R167). -/
inductive ReleaseCause where
  | retry | request | absent
  deriving DecidableEq, Repr

/-! ## Scene Store (chapter 9) -/

/-- The two line settings a scene holds (R39). -/
structure LineSettings where
  expected : Nat
  lostLimit : Nat
  deriving DecidableEq, Repr

/-- A scene: its name and the settings of six blocks (R174). -/
structure Scene where
  name : List Byte
  running : Tab 40 Entry
  staged : Tab 40 Entry
  groups : Tab 8 (Tab 40 Bool)
  waitLimit : Nat
  lines : Tab 2 LineSettings
  detectors : Tab 40 DetSettings
  floor : FloorSettings
  mix : MixSettings
  feedback : FbSettings
  delay : Nat
  deriving DecidableEq, Repr

/-- A scene as a slot stores it, with its check (R174). -/
structure Image where
  scene : Scene
  check : Pair
  deriving DecidableEq, Repr

/-- The slot states (R173). -/
inductive SlotState where
  | empty | valid | bad
  deriving DecidableEq, Repr

/-- A user slot (R173). -/
structure UserSlot where
  state : SlotState
  image : Option Image
  deriving DecidableEq, Repr

/-- The store operation in flight (R175): a save with its snapshot, an erase, or a write of the start slot. -/
inductive StoreOp where
  | saving (slot : Fin 12) (image : Image)
  | erasing (slot : Fin 12)
  | settingStart (slot : Fin 13)
  deriving DecidableEq, Repr

/-- The state of the Scene Store. Slot s of the manual, 1 to 12, is index s - 1; slot 0 is hard-wired (R173).
`op` is none for IDLE. -/
structure Store where
  slots : Tab 12 UserSlot
  start : Fin 13
  op : Option StoreOp
  deriving DecidableEq, Repr

/-! ## Control Port (chapter 10) -/

/-- The reasons of FRAME_BAD, numbered as R191 says. -/
inductive BadReason where
  | check | length | gap | framing
  deriving DecidableEq, Repr

/-- The rates of R187. -/
inductive Rate where
  | baud115200 | baud460800 | baud921600
  deriving DecidableEq, Repr

/-- The reasons of CLAIM_GONE (R69). -/
inductive GoneReason where
  | lifted | expired | roleLost | linkEnded
  deriving DecidableEq, Repr

/-- The event records of R191, each with its subject and details. -/
inductive Event where
  | podFound (at_ : PodPos) (kind : PodKind) (privacy : Bool) (seat : Option Seat)
  | podLost (at_ : PodPos) (cause : LossCause) (seat : Option Seat)
  | lineState (line : LineNo) (state : LineState)
  | roleMismatch (seat : Seat) (button : Button) (at_ : PodPos)
  | mapSwitched (quiet : Bool) (reseated displaced : Nat)
  | mapSwitchCancelled
  | micState (seat : Seat) (muted : Bool) (cause : Cause) (privacy self : Bool)
  | speakerState (seat : Seat) (muted : Bool) (cause : Cause) (feedback : Bool)
  | linkMute (link : Link) (dir : Dir) (muted : Bool) (cause : Cause)
  | claimGone (claim : Claim) (reason : GoneReason)
  | claimRefused (seat : Seat)
  | heldPress (seat : Seat) (button : Button) (cause : Cause)
  | talkWhileMuted (seat : Seat) (cause : Cause)
  | openedEv (seat : Seat) (state : GateState) (place : Nat)
  | closedEv (seat : Seat) (prior : GateState) (reason : Reason)
  | queuedEv (seat : Seat) (list : FloorList) (place : Nat)
  | dequeuedEv (seat : Seat) (list : FloorList) (reason : Reason)
  | refusedEv (seat : Seat) (reason : RefuseReason)
  | linkStateEv (link : Link) (new previous : LinkSt) (reason : LinkReason)
  | callStateEv (subject : Nat) (new previous : CallSt) (cause : CallCause)
  | trip (seat : Seat) (trips : Nat) (action : TripAction) (offset : Int) (retry : Nat) (rehearsed : Bool)
  | releaseEv (seat : Seat) (cause : ReleaseCause) (trips : Nat) (offset : Int)
  | latchedEv (seat : Seat) (trips : Nat) (offset : Int) (rehearsed : Bool)
  | saveDone (slot : Nat) (good : Bool) (check : Pair)
  | eraseDone (slot : Nat) (good : Bool)
  | startDone (slot : Nat) (good : Bool)
  | scanDone (line : LineNo) (count : Nat)
  | resetDone (cause : ResetCause) (slot : Nat) (fallback : Bool)
  | portReady (rate : Rate)
  | frameBad (reason : BadReason)
  | overrun (kind tag : Byte)
  deriving DecidableEq, Repr

/-- A frame of the control line without its START, LEN and CHECK (section 10.2). -/
structure Frame where
  kind : Byte
  tag : Byte
  body : List Byte
  deriving DecidableEq, Repr

/-- What the transmitter is sending (R197): a reply, or an event record with its lost mark. -/
inductive Sent where
  | reply (f : Frame)
  | event (e : Event) (lost : Bool)
  deriving DecidableEq, Repr

/-- The state of the Control Port (R192 to R201). `rx` holds the bytes of the frame in progress from its START:
none in HUNT, one in LENGTH, more in COLLECT. `taken` says that the head of `rxq` is the request in progress.
`resetDue` says that a DEVICE_RESET has been answered and its reset has not come. -/
structure Port where
  rate : Rate
  rx : List Byte
  gapTime : Nat
  rxq : List Frame
  taken : Bool
  reply : Option Frame
  tx : Option Sent
  lastWasReply : Bool
  events : List Event
  lost : Bool
  mask : BitVec 7
  lineLow : Bool
  resetDue : Bool
  deriving DecidableEq, Repr

/-- The nine blocks other than the Control Port, with the notices under way inside one command: `out`, events
not yet handed to the port; `box`, QUIET (true) and BUSY notices not yet taken (log 5); `begun`, components
whose ramps began in the event being taken (R132, log 6). All three are empty between commands. -/
structure Room where
  map : SeatMapUnit
  lines : Tab 2 Line
  det : Tab 40 Detector
  mute : Mute
  floor : Floor
  mix : Mix
  link : LinkUnit
  fb : Feedback
  store : Store
  out : List Event
  box : List Bool
  begun : List CompId
  deriving DecidableEq, Repr

end Sys2Proof.Machine
end

