-- ==== Sys2Proof/Machine/Operands.lean ====
section
/-! DEFINITION. How the fields of requests, replies and events are carried on the control line (section 10.2, R188
to R191), and the 16-bit cyclic check of R174. -/

namespace Sys2Proof.Machine

open Sys2Proof

/-! ## Fields read (R188 to R190) -/

/-- A thing counted from 1 to `n`: seat, line, position, link or group. -/
def numbered (n : Nat) (b : Byte) : Option (Fin n) :=
  if h : 1 ≤ b.toNat ∧ b.toNat ≤ n then some ⟨b.toNat - 1, by omega⟩ else none

/-- A thing counted from 0 to `n - 1`: scene slot, claim number. -/
def counted (n : Nat) (b : Byte) : Option (Fin n) :=
  if h : b.toNat < n then some ⟨b.toNat, h⟩ else none

/-- A yes or no, on or off (R188). -/
def boolOf (b : Byte) : Option Bool :=
  match b.toNat with
  | 0 => some false
  | 1 => some true
  | _ => none

/-- The two bytes of a field of two bytes, high byte first, as a number. -/
def pairOf (hi lo : Byte) : Nat := hi.toNat * 256 + lo.toNat

/-- A number within a range, both ends included. -/
def within (lo hi v : Nat) : Option Nat := if lo ≤ v ∧ v ≤ hi then some v else none

/-- A gain in half-decibels within a range (R188). -/
def levelOf (lo hi : Int) (b : Byte) : Option Int :=
  if lo ≤ b.toInt ∧ b.toInt ≤ hi then some b.toInt else none

/-- A level that may be off, which is carried as -128 (R188): the outer none is out of range. -/
def offLevelOf (lo hi : Int) (b : Byte) : Option (Option Int) :=
  if b.toInt = -128 then some none else (levelOf lo hi b).map some

/-- The lock handling of MAP_SWITCH (section 1.5). -/
def lockOf (b : Byte) : Option LockMode :=
  match b.toNat with
  | 0 => some .keep
  | 1 => some .take
  | _ => none

/-- A seat-map entry (R189); none is a range fault. -/
def entryOf (e : RawEntry) : Option Entry :=
  if 4 ≤ e.attributes.toNat then none
  else
    let role := if e.attributes.getLsbD 0 then Role.chair else Role.member
    let locked := e.attributes.getLsbD 1
    if e.line.toNat = 0 then
      if e.position.toNat = 0 then some ⟨none, role, locked⟩ else none
    else
      match numbered 2 e.line, numbered 20 e.position with
      | some l, some p => some ⟨some ⟨l, p⟩, role, locked⟩
      | _, _ => none

/-- The class and identity of a claim (R190). -/
def claimantOf (cls identity : Byte) : Option Claimant :=
  match cls.toNat with
  | 3 => if identity.toNat = 0 then some .room else none
  | 4 => (numbered 40 identity).map .chair
  | 5 => (numbered 4 identity).map .far
  | _ => none

/-- The scope of a claim (R190). -/
def scopeOf (kind index : Byte) : Option Scope :=
  match kind.toNat with
  | 1 => (numbered 40 index).map .seat
  | 2 => (numbered 8 index).map .group
  | 3 => if index.toNat = 0 then some .members else none
  | 4 => if index.toNat = 0 then some .everyone else none
  | 5 => (numbered 4 index).map .link
  | _ => none

/-- The direction of a claim (R190). -/
def dirOf (b : Byte) : Option Dir :=
  match b.toNat with
  | 1 => some .mic
  | 2 => some .speaker
  | 3 => some .send
  | 4 => some .ret
  | _ => none

/-- The floor mode (section 5.1). -/
def floorModeOf (b : Byte) : Option FloorMode :=
  match b.toNat with
  | 0 => some .opened
  | 1 => some .auto
  | 2 => some .request
  | _ => none

/-- The feedback mode (section 8.1). -/
def fbModeOf (b : Byte) : Option FbMode :=
  match b.toNat with
  | 0 => some .report
  | 1 => some .latch
  | 2 => some .retry
  | _ => none

/-- The rehearsal mode (R40). -/
def rehearseModeOf (b : Byte) : Option RehearseMode :=
  match b.toNat with
  | 0 => some .drop
  | 1 => some .brk
  | _ => none

/-- The bus index of MIX_READ (R188): 1 to 40, 41 to 44, 45 and 46. -/
def busOf (b : Byte) : Option Bus :=
  match numbered 40 b with
  | some n => some (.loud n)
  | none =>
    match b.toNat with
    | 41 => some (.send 0)
    | 42 => some (.send 1)
    | 43 => some (.send 2)
    | 44 => some (.send 3)
    | 45 => some .recorder
    | 46 => some .assist
    | _ => none

/-! ## Fields written (R188 to R190) -/

/-- A number in one byte. -/
def byteOf (n : Nat) : Byte := BitVec.ofNat 8 n

/-- A number in two bytes, high byte first. -/
def bytes2 (n : Nat) : List Byte := [byteOf (n / 256), byteOf n]

/-- A signed count in one byte. -/
def signedByte (i : Int) : Byte := BitVec.ofInt 8 i

/-- A signed count in two bytes, high byte first. -/
def signed2 (i : Int) : List Byte :=
  let p := BitVec.ofInt 16 i
  [p.extractLsb' 8 8, p.extractLsb' 0 8]

/-- Yes 1, no 0 (R188); a flag of the Mute Arbiter goes as 1 for set, 0 for clear, which no rule states (log 61). -/
def boolByte (b : Bool) : Byte := if b then 1 else 0

/-- A thing counted from 1. -/
def numByte {n : Nat} (i : Fin n) : Byte := byteOf (numberOf i)

/-- A thing counted from 1, or 0 for none. -/
def optNum {n : Nat} : Option (Fin n) → Byte
  | none => 0
  | some i => numByte i

/-- A level, none for off (R188). -/
def levelByte : Option Int → Byte
  | none => signedByte (-128)
  | some v => signedByte v

/-- A gain in the half-decibel steps of the wire (R122): nearest step, a tie upward (log 19), held within -60.0 to
+12.0 dB; off is -128. -/
def gainByte : Gain → Byte
  | .off => signedByte (-128)
  | .db m => signedByte (max (-120) (min 24 ((m + 250) / 500)))

/-- Whole units of `unit` ms, rounded up. -/
def ceilDiv (ms unit : Nat) : Nat := (ms + (unit - 1)) / unit

/-- The time left of a timer in ms, 0 when it does not run. -/
def leftOf (t : Option Nat) : Nat := t.getD 0

def podKindByte : PodKind → Byte
  | .member => 0
  | .chair => 1

def buttonByte : Button → Byte
  | .mic => 0
  | .talk => 1
  | .room => 2
  | .next => 3
  | .clear => 4

def Role.byte : Role → Byte
  | .member => 0
  | .chair => 1

def Presence.byte : Presence → Byte
  | .present => 0
  | .absent => 1
  | .vacant => 2

def LockMode.byte : LockMode → Byte
  | .keep => 0
  | .take => 1

def LineState.byte : LineState → Byte
  | .scanning => 0
  | .up => 1
  | .down => 2

def Ring.byte : Ring → Byte
  | .off => 0
  | .green => 1
  | .amber => 2
  | .red => 3
  | .blinkRed => 4

def Lamp.byte : Lamp → Byte
  | .off => 0
  | .steady => 1
  | .blink => 2

def RehearseMode.byte : RehearseMode → Byte
  | .drop => 0
  | .brk => 1

def LossCause.byte : LossCause → Byte
  | .scan => 0
  | .slot => 1
  | .brk => 2

def DetState.byte : DetState → Byte
  | .silent => 0
  | .rising => 1
  | .speech => 2
  | .falling => 3

def GateState.byte : GateState → Byte
  | .closed => 0
  | .waiting => 1
  | .opened => 2
  | .hold => 3
  | .queued => 4
  | .granted => 5

def MuteKind.byte : MuteKind → Byte
  | .standing => 0
  | .placed => 1
  | .free => 2

/-- The codes of R188's table of causes and classes. -/
def Cause.byte : Cause → Byte
  | .free => 0
  | .privacy => 1
  | .feedback => 2
  | .room => 3
  | .chair => 4
  | .far => 5
  | .self => 6

def Claimant.cls : Claimant → Cause
  | .room => .room
  | .chair _ => .chair
  | .far _ => .far

def Claimant.identity : Claimant → Byte
  | .room => 0
  | .chair n => numByte n
  | .far k => numByte k

def Scope.kindByte : Scope → Byte
  | .seat _ => 1
  | .group _ => 2
  | .members => 3
  | .everyone => 4
  | .link _ => 5

def Scope.indexByte : Scope → Byte
  | .seat n => numByte n
  | .group g => numByte g
  | .members => 0
  | .everyone => 0
  | .link k => numByte k

/-- A direction in a claim record (R190). -/
def Dir.byte : Dir → Byte
  | .mic => 1
  | .speaker => 2
  | .send => 3
  | .ret => 4

/-- A direction anywhere else, by its place in the list MIC, SPEAKER, SEND, RETURN (R188). -/
def Dir.place : Dir → Byte
  | .mic => 0
  | .speaker => 1
  | .send => 2
  | .ret => 3

def GoneReason.byte : GoneReason → Byte
  | .lifted => 0
  | .expired => 1
  | .roleLost => 2
  | .linkEnded => 3

def FloorMode.byte : FloorMode → Byte
  | .opened => 0
  | .auto => 1
  | .request => 2

def Reason.byte : Reason → Byte
  | .admitted => 0
  | .ended => 1
  | .takenOver => 2
  | .cancelled => 3
  | .done => 4
  | .bumped => 5
  | .idle => 6
  | .muted => 7
  | .absent => 8
  | .reseated => 9
  | .standby => 10
  | .mode => 11
  | .limit => 12
  | .cleared => 13
  | .dropped => 14

def RefuseReason.byte : RefuseReason → Byte
  | .waitFull => 0
  | .queueFull => 1
  | .noSlot => 2
  | .noRequest => 3

def FloorList.byte : FloorList → Byte
  | .wait => 0
  | .request => 1

def LinkSt.byte : LinkSt → Byte
  | .idle => 0
  | .joining => 1
  | .joined => 2
  | .held => 3
  | .leaving => 4
  | .fault => 5

def Phase.byte : Phase → Byte
  | .wait => 0
  | .ramp => 1

def CallSt.byte : CallSt → Byte
  | .idle => 0
  | .live => 1
  | .standby => 2

def LinkReason.byte : LinkReason → Byte
  | .request => 0
  | .rampDone => 1
  | .lock => 2
  | .clockLost => 3
  | .noLock => 4

def CallCause.byte : CallCause → Byte
  | .link => 0
  | .delay => 1
  | .press => 2
  | .join => 3
  | .request => 4

def FbMode.byte : FbMode → Byte
  | .report => 0
  | .latch => 1
  | .retry => 2

/-- The trip mode of R159, whose list begins with NONE. -/
def tripModeByte : Option FbMode → Byte
  | none => 0
  | some .report => 1
  | some .latch => 2
  | some .retry => 3

def TripAction.byte : TripAction → Byte
  | .report => 0
  | .latch => 1
  | .retry => 2
  | .latched => 3

def ReleaseCause.byte : ReleaseCause → Byte
  | .retry => 0
  | .request => 1
  | .absent => 2

def SlotState.byte : SlotState → Byte
  | .empty => 0
  | .valid => 1
  | .bad => 2

def BadReason.byte : BadReason → Byte
  | .check => 0
  | .length => 1
  | .gap => 2
  | .framing => 3

/-- The bits per second of a rate (R187). -/
def Rate.baud : Rate → Nat
  | .baud115200 => 115200
  | .baud460800 => 460800
  | .baud921600 => 921600

def Rate.byte : Rate → Byte
  | .baud115200 => 0
  | .baud460800 => 1
  | .baud921600 => 2

def resetCauseByte : ResetCause → Byte
  | .power => 0
  | .pin => 1
  | .request => 2

/-- A result, OK or FAILED. -/
def resultByte (good : Bool) : Byte := if good then 0 else 1

/-- A seat-map entry in its three bytes (R189). -/
def Entry.bytes (e : Entry) : List Byte :=
  (match e.place with
    | none => [0, 0]
    | some p => [numByte p.line, numByte p.pos])
  ++ [(if e.role = .chair then 1 else 0) ||| (if e.locked then 2 else 0)]

/-- A list of varying length: a count byte, then the items (R188). -/
def counting (items : List Byte) : List Byte := byteOf items.length :: items

/-- The seats of a set in ascending order. -/
def seatsOf (g : Tab 40 Bool) : List Seat := (List.finRange 40).filter fun n => g.get n

/-- A placed claim in the five bytes that name it (R190). -/
def Claim.nameBytes (c : Claim) : List Byte :=
  [c.who.cls.byte, c.who.identity, c.scope.kindByte, c.scope.indexByte, c.dir.byte]

/-- A placed claim in its eight bytes (R190): the expiry in whole seconds, rounded up. A record whose time has reached
zero, its expiry not yet taken, gives 0, which reads as NONE: the model's choice (log 71). -/
def Claim.bytes (c : Claim) : List Byte :=
  byteOf c.number.val :: c.nameBytes ++ bytes2 (ceilDiv (leftOf c.expiry) 1000)

/-! ## Settings as requests carry them (R174, R188) -/

def DetSettings.bytes (d : DetSettings) : List Byte :=
  [byteOf d.onsetMargin, byteOf d.echoMargin, byteOf d.onsetTime] ++ bytes2 d.endTime
    ++ bytes2 d.riseBlank ++ bytes2 d.fallGuard

def FloorSettings.bytes (f : FloorSettings) : List Byte :=
  [f.mode.byte, byteOf f.limit] ++ bytes2 f.hold ++ [boolByte f.lastMic, boolByte f.autoGrant, boolByte f.chairFree]
    ++ bytes2 f.idle ++ [byteOf f.attack] ++ bytes2 f.release

/-- The mix and tone settings in the order of section 6.7. -/
def MixSettings.bytes (m : MixSettings) : List Byte :=
  m.srcTrim.toList.map signedByte ++ m.busTrim.toList.map signedByte
    ++ [levelByte m.reinforcement, levelByte m.program, levelByte m.assist, byteOf m.near, boolByte m.bridging,
        byteOf m.muteRamp, boolByte m.tonesOn, signedByte m.toneLevel]

def FbSettings.bytes (f : FbSettings) : List Byte :=
  [f.mode.byte, byteOf f.window, byteOf f.ratio, byteOf f.filter, byteOf f.retry]

/-- The bytes the check of a scene is computed over (R174). That they take all of the running map and then all of the
staged one, and not the two entries of each seat, is the model's choice (log 78). -/
def Scene.bytes (c : Scene) : List Byte :=
  counting c.name
    ++ c.running.toList.flatMap Entry.bytes ++ c.staged.toList.flatMap Entry.bytes
    ++ c.groups.toList.flatMap (fun g => counting ((seatsOf g).map numByte))
    ++ [byteOf c.waitLimit]
    ++ c.lines.toList.flatMap (fun l => [byteOf l.expected, byteOf l.lostLimit])
    ++ c.detectors.toList.flatMap DetSettings.bytes
    ++ c.floor.bytes ++ c.mix.bytes ++ c.feedback.bytes ++ [byteOf c.delay]

/-! ## The cyclic check (R174) -/

/-- One bit shifted out of the check register, polynomial x^16 + x^15 + x^2 + 1. -/
def crcBit (c : BitVec 16) : BitVec 16 := if c.msb then (c <<< 1) ^^^ 0x8005#16 else c <<< 1

/-- One byte taken into the check, most significant bit first. -/
def crcByte (c : BitVec 16) (b : Byte) : BitVec 16 :=
  let c := c ^^^ ((b.setWidth 16) <<< 8)
  crcBit (crcBit (crcBit (crcBit (crcBit (crcBit (crcBit (crcBit c)))))))

/-- The check over some bytes: initial value all ones, no final inversion. -/
def crc (bs : List Byte) : BitVec 16 := bs.foldl crcByte 0xFFFF#16

/-- A check in its two bytes, high byte first. -/
def checkBytes (c : Pair) : List Byte := [c.extractLsb' 8 8, c.extractLsb' 0 8]

/-! ## Frames and event records (section 10.2, R191) -/

/-- The bytes of a frame on the line, from START to CHECK. -/
def Frame.bytes (f : Frame) : List Byte :=
  let covered := byteOf (f.body.length + 2) :: f.kind :: f.tag :: f.body
  0xC5#8 :: covered ++ checkBytes (crc covered)

/-- The class of an event, as the number of its bit in the mask (R199). -/
def Event.cls : Event → Fin 7
  | .podFound .. | .podLost .. | .lineState .. | .roleMismatch .. | .mapSwitched .. | .mapSwitchCancelled => 0
  | .micState .. | .speakerState .. | .linkMute .. | .claimGone .. | .claimRefused .. | .heldPress ..
  | .talkWhileMuted .. => 1
  | .openedEv .. | .closedEv .. | .queuedEv .. | .dequeuedEv .. | .refusedEv .. => 2
  | .linkStateEv .. | .callStateEv .. => 3
  | .trip .. | .releaseEv .. | .latchedEv .. => 4
  | .saveDone .. | .eraseDone .. | .startDone .. | .scanDone .. => 5
  | .resetDone .. | .portReady .. | .frameBad .. | .overrun .. => 6

/-- The code of an event within its class (R191). -/
def Event.code : Event → Byte
  | .podFound .. => 1
  | .podLost .. => 2
  | .lineState .. => 3
  | .roleMismatch .. => 4
  | .mapSwitched .. => 5
  | .mapSwitchCancelled => 6
  | .micState .. => 1
  | .speakerState .. => 2
  | .linkMute .. => 3
  | .claimGone .. => 4
  | .claimRefused .. => 5
  | .heldPress .. => 6
  | .talkWhileMuted .. => 7
  | .openedEv .. => 1
  | .closedEv .. => 2
  | .queuedEv .. => 3
  | .dequeuedEv .. => 4
  | .refusedEv .. => 5
  | .linkStateEv .. => 1
  | .callStateEv .. => 2
  | .trip .. => 1
  | .releaseEv .. => 2
  | .latchedEv .. => 3
  | .saveDone .. => 1
  | .eraseDone .. => 2
  | .startDone .. => 3
  | .scanDone .. => 4
  | .resetDone .. => 1
  | .portReady .. => 2
  | .frameBad .. => 3
  | .overrun .. => 4

/-- The subject of an event in its two bytes (R191). -/
def Event.subject : Event → List Byte
  | .podFound p .. | .podLost p .. => [numByte p.line, numByte p.pos]
  | .lineState l _ | .scanDone l _ => [0, numByte l]
  | .roleMismatch n .. | .micState n .. | .speakerState n .. | .claimRefused n | .heldPress n .. | .talkWhileMuted n _
  | .openedEv n .. | .closedEv n .. | .queuedEv n .. | .dequeuedEv n .. | .refusedEv n _
  | .trip n .. | .releaseEv n .. | .latchedEv n .. => [0, numByte n]
  | .linkMute k .. | .linkStateEv k .. => [0, numByte k]
  | .claimGone c _ => [0, byteOf c.number.val]
  | .callStateEv subject .. => [0, byteOf subject]
  | .saveDone slot .. | .eraseDone slot _ | .startDone slot _ => [0, byteOf slot]
  | .mapSwitched .. | .mapSwitchCancelled | .resetDone .. | .portReady _ | .frameBad _ | .overrun .. => [0, 0]

/-- The detail bytes of an event (R191). -/
def Event.detail : Event → List Byte
  | .podFound _ kind privacy seat => [podKindByte kind, boolByte privacy, optNum seat]
  | .podLost _ cause seat => [cause.byte, optNum seat]
  | .lineState _ st => [st.byte]
  | .roleMismatch _ button p => [buttonByte button, numByte p.line, numByte p.pos]
  | .mapSwitched quiet reseated displaced => [if quiet then 0 else 1, byteOf reseated, byteOf displaced]
  | .mapSwitchCancelled => [0]
  | .micState _ muted cause privacy self => [boolByte muted, cause.byte, boolByte privacy, boolByte self]
  | .speakerState _ muted cause feedback => [boolByte muted, cause.byte, boolByte feedback]
  | .linkMute _ dir muted cause => [dir.place, boolByte muted, cause.byte]
  | .claimGone c reason => c.nameBytes ++ [reason.byte]
  | .claimRefused _ => [0]
  | .heldPress _ button cause => [buttonByte button, cause.byte]
  | .talkWhileMuted _ cause => [cause.byte]
  | .openedEv _ state place => [state.byte, byteOf place]
  | .closedEv _ prior reason => [prior.byte, reason.byte]
  | .queuedEv _ list place => [list.byte, byteOf place]
  | .dequeuedEv _ list reason => [list.byte, reason.byte]
  | .refusedEv _ reason => [reason.byte]
  | .linkStateEv _ new previous reason => [new.byte, previous.byte, reason.byte]
  | .callStateEv _ new previous cause => [new.byte, previous.byte, cause.byte]
  | .trip _ trips action offset retry rehearsed =>
    [byteOf trips, action.byte, signedByte offset, byteOf retry, boolByte rehearsed]
  | .releaseEv _ cause trips offset => [cause.byte, byteOf trips, signedByte offset]
  | .latchedEv _ trips offset rehearsed => [byteOf trips, signedByte offset, boolByte rehearsed]
  | .saveDone _ good check => resultByte good :: checkBytes check
  | .eraseDone _ good => [resultByte good]
  | .startDone _ good => [resultByte good]
  | .scanDone _ count => [byteOf count]
  | .resetDone cause slot fallback => [resetCauseByte cause, byteOf slot, boolByte fallback]
  | .portReady rate => [rate.byte]
  | .frameBad reason => [reason.byte]
  | .overrun kind tag => [kind, tag]

/-- The frame of an event record: KIND 0xF0, TAG 0, with the lost mark in its flags (R191, R198). -/
def Event.frame (e : Event) (lost : Bool) : Frame :=
  ⟨0xF0#8, 0#8, [byteOf (e.cls.val + 1), boolByte lost, e.code] ++ e.subject ++ e.detail⟩

/-- The bytes the transmitter puts on the line for what it is sending. -/
def Sent.bytes : Sent → List Byte
  | .reply f => f.bytes
  | .event e lost => (e.frame lost).bytes

/-! ## Characters on the line (R187) -/

/-- The character of a byte, as the line's levels in order, high as true: the start bit, eight data bits, least
significant first, no parity bit, one stop bit (R187). -/
def charBits (b : Byte) : List Bool := false :: (List.range 8).map b.getLsbD ++ [true]

/-- The byte of eight data bits, least significant first (R187). -/
def byteOfBits (bits : List Bool) : Byte := BitVec.ofNat 8 (bits.foldr (fun b n => 2 * n + b.toNat) 0)

/-- What the receiver makes of a character's levels after its start bit: a byte, or none where the stop bit is sampled
low, a framing error (R187). -/
def charRead (bits : List Bool) : Option Byte := if bits.getD 8 false then some (byteOfBits (bits.take 8)) else none

/-! ## Statuses and request kinds (section 10.2) -/

/-- The statuses of a reply. -/
inductive Status where
  | ok | unknown | length | range | state | full | held | absent | busy | store | guarded | conflict
  deriving DecidableEq, Repr

/-- The code of a status; `guarded` is PROTECTED. -/
def Status.byte : Status → Byte
  | .ok => 0x00
  | .unknown => 0x01
  | .length => 0x02
  | .range => 0x03
  | .state => 0x04
  | .full => 0x05
  | .held => 0x06
  | .absent => 0x07
  | .busy => 0x08
  | .store => 0x09
  | .guarded => 0x0A
  | .conflict => 0x0B

/-- What an owning block answers to a request (R195). -/
structure Answer where
  status : Status
  data : List Byte
  deriving DecidableEq, Repr

/-- The request kinds. -/
inductive ReqKind where
  | ident | eventMask | deviceReset | mapLoad | mapDump | mapSwitch | seatCheck | groupSet | groupRead
  | lineSet | lineRead | lineScan | lineRehearse | detectSet | detectRead
  | mutePlace | muteLift | muteList | muteRead
  | floorSet | floorGrant | floorQueue | floorDrop | floorClear | floorRead
  | mixSet | toneSet | mixRead
  | linkJoin | linkLeave | linkHold | linkResume | linkRead | callSet | callWake
  | feedbackSet | feedbackRelease | feedbackRead | feedbackRehearse
  | sceneSave | sceneRecall | sceneErase | sceneVerify | sceneStart | sceneList
  deriving DecidableEq, Repr

/-- The code of a request kind. -/
def ReqKind.code : ReqKind → Nat
  | .ident => 0x01
  | .eventMask => 0x02
  | .deviceReset => 0x03
  | .mapLoad => 0x10
  | .mapDump => 0x11
  | .mapSwitch => 0x12
  | .seatCheck => 0x13
  | .groupSet => 0x14
  | .groupRead => 0x15
  | .lineSet => 0x18
  | .lineRead => 0x19
  | .lineScan => 0x1A
  | .lineRehearse => 0x1B
  | .detectSet => 0x20
  | .detectRead => 0x21
  | .mutePlace => 0x28
  | .muteLift => 0x29
  | .muteList => 0x2A
  | .muteRead => 0x2B
  | .floorSet => 0x30
  | .floorGrant => 0x31
  | .floorQueue => 0x32
  | .floorDrop => 0x33
  | .floorClear => 0x34
  | .floorRead => 0x35
  | .mixSet => 0x38
  | .toneSet => 0x39
  | .mixRead => 0x3A
  | .linkJoin => 0x40
  | .linkLeave => 0x41
  | .linkHold => 0x42
  | .linkResume => 0x43
  | .linkRead => 0x44
  | .callSet => 0x45
  | .callWake => 0x46
  | .feedbackSet => 0x48
  | .feedbackRelease => 0x49
  | .feedbackRead => 0x4A
  | .feedbackRehearse => 0x4B
  | .sceneSave => 0x50
  | .sceneRecall => 0x51
  | .sceneErase => 0x52
  | .sceneVerify => 0x53
  | .sceneStart => 0x54
  | .sceneList => 0x55

/-- The byte of a request kind. -/
def ReqKind.byte (k : ReqKind) : Byte := byteOf k.code

/-- The request kinds, in the order of the table. -/
def ReqKind.all : List ReqKind :=
  [[.ident, .eventMask, .deviceReset, .mapLoad, .mapDump, .mapSwitch, .seatCheck, .groupSet, .groupRead,
    .lineSet, .lineRead, .lineScan, .lineRehearse, .detectSet, .detectRead],
   [.mutePlace, .muteLift, .muteList, .muteRead, .floorSet, .floorGrant, .floorQueue, .floorDrop, .floorClear,
    .floorRead, .mixSet, .toneSet, .mixRead],
   [.linkJoin, .linkLeave, .linkHold, .linkResume, .linkRead, .callSet, .callWake, .feedbackSet, .feedbackRelease,
    .feedbackRead, .feedbackRehearse, .sceneSave, .sceneRecall, .sceneErase, .sceneVerify, .sceneStart,
    .sceneList]].flatten

/-- The request kind a KIND byte names, or none. -/
def ReqKind.ofByte (b : Byte) : Option ReqKind := ReqKind.all.find? fun k => k.code = b.toNat

end Sys2Proof.Machine
end

