-- ==== Sys2Proof/Machine/ResetValues.lean ====
section
/-! DEFINITION. The factory scene (section 9.10), and the values a full reset leaves in each block with the settings
of the scene it uses (R20, R42, R54, R85, R117, R140, R158, R172, R203). -/

namespace Sys2Proof.Machine

open Sys2Proof

/-! ## The factory scene (section 9.10) -/

/-- Seats 1-20 on line 1 and 21-40 on line 2, positions in order, all MEMBER and unlocked (R20). -/
def factoryMap : Tab 40 Entry :=
  Tab.ofFn fun n => ⟨some ⟨⟨n.val / 20, by omega⟩, ⟨n.val % 20, by omega⟩⟩, .member, false⟩

/-- Groups 1-8 empty (R20). -/
def emptyGroups : Tab 8 (Tab 40 Bool) := Tab.fill 8 (Tab.fill 40 false)

/-- The factory detector settings (section 3.6). -/
def factoryDetector : DetSettings := ⟨9, 6, 40, 250, 120, 60⟩

/-- The factory floor settings (section 5.1). -/
def factoryFloor : FloorSettings := ⟨.auto, 3, 500, true, false, true, 0, 10, 300⟩

/-- The factory mix and tone settings (sections 6.6, 6.7). -/
def factoryMix : MixSettings :=
  ⟨Tab.fill 46 0, Tab.fill 46 0, some (-36), some (-24), some (-24), 1, true, 20, true, -24⟩

/-- The factory feedback settings (section 8.1). -/
def factoryFeedback : FbSettings := ⟨.retry, 50, 12, 4, 5⟩

/-- FACTORY, the name of slot 0 (R182). -/
def factoryName : List Byte := [0x46, 0x41, 0x43, 0x54, 0x4F, 0x52, 0x59]

/-- The scene in slot 0. -/
def factoryScene : Scene where
  name := factoryName
  running := factoryMap
  staged := factoryMap
  groups := emptyGroups
  waitLimit := 10
  lines := Tab.fill 2 ⟨20, 8⟩
  detectors := Tab.fill 40 factoryDetector
  floor := factoryFloor
  mix := factoryMix
  feedback := factoryFeedback
  delay := 30

/-- A scene with the check over it (R174). -/
def Scene.image (c : Scene) : Image := ⟨c, crc c.bytes⟩

/-- The check of a stored scene passes (R174). -/
def Image.passes (i : Image) : Bool := crc i.scene.bytes = i.check

/-! ## Reset values of the blocks -/

/-- A half-decibel setting as a gain. -/
def halfDb (v : Int) : Gain := .db (v * 500)

/-- A level that may be off as a gain. -/
def levelGain : Option Int → Gain
  | none => .off
  | some v => halfDb v

/-- A component at off that takes a target: where the target is above off it ramps up from off (R140). -/
def Comp.fresh (g : Gain) (ms : Nat) : Comp :=
  match g with
  | .off => ⟨.off, none⟩
  | .db v => ⟨.db v, some ⟨-80000, true, max 1 ms, 0⟩⟩

/-- A component at off. -/
def Comp.atOff : Comp := ⟨.off, none⟩

/-- Seat m is near seat n (R120): both have a position, on one line, and the positions differ by no more than the
near distance. With a distance of 0 no seat is near another. -/
def nearIn (map : Tab 40 Entry) (distance : Nat) (m n : Seat) : Bool :=
  match (map.get m).place, (map.get n).place with
  | some p, some q =>
    distance ≠ 0 && m ≠ n && p.line = q.line && p.pos.val ≤ q.pos.val + distance && q.pos.val ≤ p.pos.val + distance
  | _, _ => false

/-- The class level target of Sm on Ln (R120). -/
def micLevel (map : Tab 40 Entry) (s : MixSettings) (n m : Seat) : Gain :=
  if nearIn map s.near m n then .off else levelGain s.reinforcement

/-- A millisecond of silence. -/
def silence : Samples := Tab.fill 48 0

/-- The Mix Engine after a full reset (R140): every component at off with no ramp in flight. -/
def Mix.afterReset (c : Scene) : Mix where
  settings := c.mix
  gate := Tab.fill 40 .atOff
  micMute := Tab.fill 40 .atOff
  returnMute := Tab.fill 4 .atOff
  linkState := Tab.fill 4 .atOff
  srcTrim := Tab.fill 46 .atOff
  classMic := Tab.fill 40 (Tab.fill 40 .atOff)
  classMicOut := .atOff
  classFar := .atOff
  classBridge := .atOff
  classProgram := .atOff
  classAssist := .atOff
  toneLevel := Tab.fill 40 .atOff
  openCount := .atOff
  standbyComp := .atOff
  envelope := Tab.fill 40 .atOff
  speakerMute := Tab.fill 40 .atOff
  fbOffset := Tab.fill 40 .atOff
  sendMute := Tab.fill 4 .atOff
  busTrim := Tab.fill 46 .atOff
  players := Tab.fill 40 none
  program := Tab.fill 2 silence
  countIn := 0
  standby := false

/-- The Mix Engine as it then takes the targets that the start scene and the other blocks' reset values give (R140): each
component whose target is above off ramps up from off. -/
def Mix.started (c : Scene) : Mix :=
  let s := c.mix
  let r := s.muteRamp
  { Mix.afterReset c with
    returnMute := Tab.fill 4 (.fresh (.db 0) r)
    srcTrim := s.srcTrim.map fun v => .fresh (halfDb v) r
    classMic := Tab.ofFn fun n => Tab.ofFn fun m => .fresh (micLevel c.running s n m) r
    classMicOut := .fresh (.db 0) r
    classFar := .fresh (.db 0) r
    classBridge := .fresh (if s.bridging then .db 0 else .off) r
    classProgram := .fresh (levelGain s.program) r
    classAssist := .fresh (levelGain s.assist) r
    toneLevel := Tab.fill 40 (.fresh (halfDb s.toneLevel) r)
    openCount := .fresh (.db 0) 50
    standbyComp := .fresh (.db 0) r
    speakerMute := Tab.fill 40 (.fresh (.db 0) r)
    fbOffset := Tab.fill 40 (.fresh (.db 0) 50)
    sendMute := Tab.fill 4 (.fresh (.db 0) r)
    busTrim := s.busTrim.map fun v => .fresh (halfDb v) r }

/-- The presence of a seat whose pod record is not present (section 1.2). -/
def Entry.absence (e : Entry) : Presence := if e.place.isSome then .absent else .vacant

/-- The Seat Map unit after a full reset (R20). -/
def SeatMapUnit.afterReset (c : Scene) : SeatMapUnit := ⟨c.running, c.staged, c.groups, true, none, c.waitLimit⟩

/-- The view of a seat that is CLOSED and muted by its privacy flag (R117, R85). -/
def View.afterReset : View := ⟨.closed, .standing, false, false⟩

/-- A pod record of a pod never found (R42). -/
def Pod.afterReset : Pod := ⟨false, .member, true, 0, .off, .off, .off, View.afterReset, none⟩

/-- A Pod Line controller after a full reset, its scan begun at position 1 (R42, R27). -/
def Line.afterReset (s : LineSettings) : Line where
  lstate := .scanning
  pods := Tab.fill 20 Pod.afterReset
  expected := s.expected
  lostLimit := s.lostLimit
  scan := some ⟨0, 20⟩
  probe := none
  probeTimer := none
  rehearsal := none
  termReported := 0
  dark := false
  audio := Tab.fill 20 silence

/-- Ten milliseconds of silence, and thirty milliseconds of silent reference values (R43). -/
def silentEnergies : List Nat := List.replicate 10 0
def silentLevels : List Int := List.replicate 30 (-200)

/-- A Talk Detector after a full reset (R54). -/
def Detector.afterReset (s : DetSettings) : Detector where
  level := -200
  energies := silentEnergies
  noiseFloor := -100000
  reference := -200
  refEnergies := silentEnergies
  refLevels := silentLevels
  dstate := .silent
  held := true
  acc := 0
  due := false
  endTimer := 0
  seed := none
  seedLow := none
  rise := none
  fall := none
  settings := s

/-- The effective mute of a seat with its privacy flag set and nothing else (R85). -/
def Eff.afterReset : Eff := ⟨true, .privacy, .standing, true, false, false, .free, false⟩

/-- The Mute Arbiter after a full reset (R85). -/
def Mute.afterReset (c : Scene) : Mute where
  seats := c.running.map fun e => ⟨true, false, false, false, false, false, e.absence⟩
  eff := Tab.fill 40 Eff.afterReset
  links := Tab.fill 4 ⟨false, false⟩
  linkIdle := Tab.fill 4 true
  table := []
  stamp := 0

/-- The Floor Controller after a full reset (R117). -/
def Floor.afterReset (c : Scene) : Floor where
  settings := c.floor
  seats := c.running.map fun e => ⟨.closed, false, false, 0, .off, e.absence, true⟩
  openList := []
  waitList := []
  queue := []
  stamp := 0
  standby := false
  lastCount := 0
  quietSaid := true

/-- A link after a full reset (R158). -/
def LinkRec.afterReset : LinkRec := ⟨.idle, none, none, false, false, false, 0, 0, 0, none, []⟩

/-- The standby timer started at a delay in minutes, or stopped for 0 (R153). -/
def delayTimer (delay : Nat) : Option Nat := if delay = 0 then none else some (delay * 60000)

/-- The Link Controller after a full reset (R158). -/
def LinkUnit.afterReset (c : Scene) : LinkUnit := ⟨Tab.fill 4 LinkRec.afterReset, .idle, c.delay, delayTimer c.delay⟩

/-- The Feedback Monitor after a full reset (R172): every speaker mark OFF. Each is set by its LIVE notice, as the ramp
begins to run (R160; log 9). -/
def Feedback.afterReset (c : Scene) : Feedback where
  settings := c.feedback
  seats := c.running.map fun e => ⟨false, e.absence, none, 0, 0, none, none, false, none, 0⟩

/-- The blocks' reset values with the settings of a scene (R185 step 2), over a Scene Store. -/
def Room.afterReset (c : Scene) (store : Store) : Room where
  map := .afterReset c
  lines := c.lines.map .afterReset
  det := c.detectors.map .afterReset
  mute := .afterReset c
  floor := .afterReset c
  mix := .afterReset c
  link := .afterReset c
  fb := .afterReset c
  store := store
  out := []
  box := []
  begun := []

/-- The blocks as they run on from their reset values: the Mix Engine's ramps have begun, and the LIVE notice of each
speaker mute ramp is still to come (R140, R172; log 9). -/
def Room.started (c : Scene) (store : Store) : Room := { Room.afterReset c store with mix := .started c }

/-- The rate the straps select, true being high (R187). -/
def strapRate (a b : Bool) : Rate :=
  match a, b with
  | true, false => .baud460800
  | false, true => .baud921600
  | _, _ => .baud115200

/-- The Control Port after a full reset (R203), holding what R185 steps 3 and 4 queue: RESET_DONE, then the
LINE_STATE of each scan begun. That line 1's LINE_STATE comes before line 2's, of which R42 and R185 give no order, is
the model's choice (log 75). That its line is not held low, and so sends no PORT_READY, where the reset comes while a
break holds the line low, is the model's choice, whatever the cause of the reset (log 12). -/
def Port.afterReset (rate : Rate) (cause : ResetCause) (slot : Nat) (fallback : Bool) : Port where
  rate := rate
  rx := []
  gapTime := 0
  rxq := []
  taken := false
  reply := none
  tx := none
  lastWasReply := false
  events := [.resetDone cause slot fallback, .lineState 0 .scanning, .lineState 1 .scanning]
  lost := false
  mask := 0x7F#7
  lineLow := false
  resetDue := false

/-- The Scene Store as it leaves the factory: slots 1-12 EMPTY, the start slot 0 (R173, R183). -/
def Store.factory : Store := ⟨Tab.fill 12 ⟨.empty, none⟩, 0, none⟩

end Sys2Proof.Machine
end

