-- ==== Sys2Proof/Machine/State.lean ====
section
/-! DEFINITION. The state of the SM40, the reasons a step can stop, and the state after a full reset. -/

namespace Sys2Proof.Machine

open Sys2Proof

/-- The state of the part. `pending` is the queue of commands waiting, first in, first out. `held` says that the
reset input is asserted, `powerSeen` that power was applied meanwhile (R184). The straps are true for high
(R187). -/
structure State where
  pending : List Instr
  held : Bool
  powerSeen : Bool
  strapA : Bool
  strapB : Bool
  port : Port
  room : Room
  deriving DecidableEq, Repr

/-- The spec gives the part no way to stop, so there is no fault and no command raises one (safe). -/
inductive Fault where
  deriving DecidableEq, Repr

/-- The reasons a command has no meaning. -/
inductive Refusal where
  /-- Raised by an arm of `exec` whose command has no meaning yet; safe: nothing is claimed of the command. -/
  | notModelled (mnemonic : String)
  deriving DecidableEq, Repr

/-- The part right after a full reset with cause POWER, the straps low, the store as it leaves the factory (log 8):
RESET_DONE and the LINE_STATE of both scans stand in the event queue and the transmitter is about to begin. -/
def State.reset : State where
  pending := []
  held := false
  powerSeen := false
  strapA := false
  strapB := false
  port := .afterReset (strapRate false false) .power 0 false
  room := .started factoryScene .factory

end Sys2Proof.Machine
end

