-- ==== Sys2Proof/Machine/Flags.lean ====
section
/-! DEFINITION. The conditions the blocks derive from what they hold: who serves a seat, presence, coverage and
effective mute, admissibility and the quiet condition, gains, the monitor's status, the probe condition. -/

namespace Sys2Proof.Machine

open Sys2Proof

/-- Every seat, in ascending order. -/
def allSeats : List Seat := List.finRange 40

/-- Every position of a line, outward. -/
def allPositions : List Pos := List.finRange 20

/-- Every link, in ascending order. -/
def allLinks : List Link := List.finRange 4

/-! ## Seats and pods (R2, section 1.2) -/

/-- The seat whose entry of a map names a position (R2). -/
def seatAt (map : Tab 40 Entry) (p : PodPos) : Option Seat :=
  allSeats.find? fun n => (map.get n).place = some p

/-- The pod record at a position. -/
def Room.podAt (r : Room) (p : PodPos) : Pod := (r.lines.get p.line).pods.get p.pos

/-- The running entry of a seat. -/
def Room.entry (r : Room) (n : Seat) : Entry := r.map.running.get n

/-- The position that serves a seat. -/
def Room.placeOf (r : Room) (n : Seat) : Option PodPos := (r.entry n).place

/-- The presence of a seat (section 1.2). -/
def Room.presence (r : Room) (n : Seat) : Presence :=
  match r.placeOf n with
  | none => .vacant
  | some p => if (r.podAt p).present then .present else .absent

/-- The running role of a seat is CHAIR. -/
def Room.isChair (r : Room) (n : Seat) : Bool := (r.entry n).role = .chair

/-! ## Pod lines -/

/-- The count of present records of a line. -/
def Line.count (l : Line) : Nat := l.pods.toList.countP (·.present)

/-- The effective terminator (R25): position p of a BREAK rehearsal holds it no higher than p - 1. -/
def Line.effTerm (l : Line) : Nat :=
  match l.rehearsal with
  | some ⟨.brk, p, _⟩ => min l.termReported p.val
  | _ => l.termReported

/-- The probe condition (R29): outside a scan, fewer records present than expected. -/
def Line.probing (l : Line) : Bool := l.lstate ≠ .scanning && l.count < l.expected

/-- The probe target (R29): the first absent position. -/
def Line.probeTarget (l : Line) : Option Pos := allPositions.find? fun p => !(l.pods.get p).present

/-- A rehearsal makes a position's slot fail (R40 DROP). -/
def Line.dropped (l : Line) (p : Pos) : Bool :=
  match l.rehearsal with
  | some ⟨.drop, q, _⟩ => p = q
  | _ => false

/-- A rehearsal makes enumeration commands for a position go unanswered (R40). -/
def Line.deaf (l : Line) (p : Pos) : Bool :=
  match l.rehearsal with
  | some ⟨.drop, q, _⟩ => p = q
  | some ⟨.brk, q, _⟩ => q.val ≤ p.val
  | none => false

/-! ## Mute claims (section 4.4) -/

/-- A scope covers a seat (R61). -/
def Room.scopeCovers (r : Room) (sc : Scope) (n : Seat) : Bool :=
  match sc with
  | .seat m => m = n
  | .group g => (r.map.groups.get g).get n
  | .members => !r.isChair n
  | .everyone => true
  | .link _ => false

/-- The placed claims of a direction that cover a seat, in placement order. -/
def Room.claimsOver (r : Room) (n : Seat) (d : Dir) : List Claim :=
  r.mute.table.filter fun c => c.dir = d && r.scopeCovers c.scope n

/-- The placed claims of a link and direction, in placement order (R61). -/
def Room.linkClaims (r : Room) (k : Link) (d : Dir) : List Claim :=
  r.mute.table.filter fun c => c.dir = d && c.scope = .link k

/-- Some claim of a list has a class. -/
def anyOf (cs : List Claim) (c : Cause) : Bool := cs.any fun x => x.who.cls = c

/-- The cause of a seat's mic mute: the highest class covering it (R55). -/
def micCauseOf (privacy self : Bool) (cs : List Claim) : Cause :=
  if privacy then .privacy
  else if anyOf cs .room then .room
  else if anyOf cs .chair then .chair
  else if anyOf cs .far then .far
  else if self then .self
  else .free

/-- The cause of a seat's speaker mute (R55). -/
def speakerCauseOf (feedback : Bool) (cs : List Claim) : Cause :=
  if feedback then .feedback else if cs.isEmpty then .free else .room

/-- The mic mute kind (R70). -/
def muteKindOf (privacy self : Bool) (cs : List Claim) : MuteKind :=
  if privacy || self then .standing else if cs.isEmpty then .free else .placed

/-- The effective mute of a seat, derived afresh (R70). -/
def Room.effOf (r : Room) (n : Seat) : Eff :=
  let s := r.mute.seats.get n
  let mics := r.claimsOver n .mic
  let spks := r.claimsOver n .speaker
  { micMuted := s.privacy || s.self || !mics.isEmpty
    micCause := micCauseOf s.privacy s.self mics
    kind := muteKindOf s.privacy s.self mics
    privacy := s.privacy
    self := s.self
    spkMuted := s.feedback || !spks.isEmpty
    spkCause := speakerCauseOf s.feedback spks
    feedback := s.feedback }

/-- The effective mute of a link, derived afresh (R70). -/
def Room.linkEffOf (r : Room) (k : Link) : LinkEff :=
  ⟨!(r.linkClaims k .send).isEmpty, !(r.linkClaims k .ret).isEmpty⟩

/-- The cause of a link's mute in a direction: ROOM or NONE (R55). -/
def linkCause (muted : Bool) : Cause := if muted then .room else .free

/-- A chair seat's own MEMBERS/MIC claim stands (R64, R74). -/
def Room.hasChairClaim (r : Room) (n : Seat) : Bool :=
  r.mute.table.any fun c => c.who = .chair n && c.scope = .members && c.dir = .mic

/-- The view of a seat read afresh from the Floor Controller and the Mute Arbiter (R35, R74; log 39). -/
def Room.freshView (r : Room) (n : Seat) : View :=
  ⟨(r.floor.seats.get n).gate, (r.mute.eff.get n).kind, (r.mute.seats.get n).spell,
   r.isChair n && r.hasChairClaim n⟩

/-! ## The floor -/

/-- A seat is open (R86). -/
def GateState.isOpen : GateState → Bool
  | .opened | .hold | .granted => true
  | .closed | .waiting | .queued => false

/-- A chair-free seat (R106). -/
def Room.chairFree (r : Room) (n : Seat) : Bool :=
  r.floor.settings.chairFree && r.floor.settings.mode ≠ .opened && r.isChair n

/-- A seat is admissible (R86). -/
def Floor.admissible (f : Floor) (n : Seat) : Bool :=
  let s := f.seats.get n
  s.presence = .present && !s.muted && !f.standby

/-- There is room in the Open List (R90). -/
def Floor.hasRoom (f : Floor) : Bool := f.openList.length < f.settings.limit

/-- A QUEUED seat that is mic-muted is held (R86). -/
def FloorSeat.held (s : FloorSeat) : Bool := s.gate = .queued && s.muted

/-- The oldest grantable seat (R103). -/
def Floor.grantable (f : Floor) : Option Seat := f.queue.find? fun n => !(f.seats.get n).muted

/-- The open count (R87). -/
def Floor.count (f : Floor) : Nat := allSeats.countP fun n => (f.seats.get n).gate.isOpen

/-- The quiet condition (R108). -/
def Room.quietNow (r : Room) : Bool :=
  r.floor.openList.isEmpty && r.floor.waitList.isEmpty
    && allSeats.all fun n =>
      !(r.chairFree n && ((r.floor.seats.get n).gate = .opened || (r.floor.seats.get n).gate = .hold))

/-- The place of a seat in a list, counted from 1, or 0 outside it. -/
def placeIn (l : List Seat) (n : Seat) : Nat :=
  match l.findIdx? (· = n) with
  | some i => i + 1
  | none => 0

/-! ## Gains (R122, R130) -/

/-- A sum of gains, off when either is off. -/
def Gain.add : Gain → Gain → Gain
  | .db a, .db b => .db (a + b)
  | _, _ => .off

/-- The sum of some gains. -/
def sumGains (gs : List Gain) : Gain := gs.foldl Gain.add (.db 0)

/-- The value a ramp moves toward: off is approached as -80.0 dB (R130). -/
def Gain.rampEnd : Gain → Int
  | .off => -80000
  | .db v => v

/-- The current value of a component (R130). -/
def Comp.current (c : Comp) : Gain :=
  match c.ramp with
  | none => c.target
  | some r => .db (r.start + (c.target.rampEnd - r.start) * r.elapsed / r.total)

/-- A component stands at off, with no ramp in flight. -/
def Comp.isOff (c : Comp) : Bool := c.target = .off && c.ramp.isNone

/-- The ms a component's ramp has still to run, 0 when none is in flight. -/
def Comp.left (c : Comp) : Nat :=
  match c.ramp with
  | none => 0
  | some r => r.total - r.elapsed

/-- A component reads a component. -/
def Mix.comp (m : Mix) : CompId → Comp
  | .gate n => m.gate.get n
  | .micMute n => m.micMute.get n
  | .returnMute k => m.returnMute.get k
  | .linkState k => m.linkState.get k
  | .sourceTrim i => m.srcTrim.get i
  | .classMic n s => (m.classMic.get n).get s
  | .classMicOut => m.classMicOut
  | .classFar => m.classFar
  | .classBridge => m.classBridge
  | .classProgram => m.classProgram
  | .classAssist => m.classAssist
  | .toneLevel n => m.toneLevel.get n
  | .openCount => m.openCount
  | .standby => m.standbyComp
  | .envelope n => m.envelope.get n
  | .speakerMute n => m.speakerMute.get n
  | .feedbackOffset n => m.fbOffset.get n
  | .sendMute k => m.sendMute.get k
  | .busTrim i => m.busTrim.get i

/-- The index of a source among the source trims (R188), none for a tone. -/
def Source.index : Source → Option (Fin 46)
  | .mic n => some ⟨n.val, by omega⟩
  | .far k => some ⟨40 + k.val, by omega⟩
  | .program false => some 44
  | .program true => some 45
  | .tone _ => none

/-- The index of a source in a term list (R188). -/
def Source.number (s : Source) : Nat :=
  match s.index with
  | some i => i.val + 1
  | none => 47

/-- The index of a bus among the bus trims (R188). -/
def Bus.index : Bus → Fin 46
  | .loud n => ⟨n.val, by omega⟩
  | .send k => ⟨40 + k.val, by omega⟩
  | .recorder => 44
  | .assist => 45

/-- The terms of a bus, in the order of R119. -/
def Bus.terms : Bus → List Source
  | .loud n =>
    (allSeats.filter (· ≠ n)).map .mic ++ allLinks.map .far ++ [.program false, .program true, .tone n]
  | .send k =>
    allSeats.map .mic ++ [.program false, .program true] ++ (allLinks.filter (· ≠ k)).map .far
  | .recorder => allSeats.map .mic ++ allLinks.map .far ++ [.program false, .program true]
  | .assist => allSeats.map .mic ++ allLinks.map .far ++ [.program false, .program true]

/-- The class level component of a term (R120). -/
def classComp : Bus → Source → CompId
  | .loud n, .mic m => .classMic n m
  | _, .mic _ => .classMicOut
  | .send _, .far _ => .classBridge
  | _, .far _ => .classFar
  | .assist, .program _ => .classAssist
  | _, .program _ => .classProgram
  | _, .tone n => .toneLevel n

/-- The components of a term (R122). -/
def termComps (b : Bus) (s : Source) : List CompId :=
  (match s with
    | .mic n => [.gate n, .micMute n]
    | .far k => [.returnMute k, .linkState k]
    | .program _ => []
    | .tone n => [.envelope n])
  ++ (match s.index with
    | some i => [.sourceTrim i]
    | none => [])
  ++ [classComp b s]
  ++ (match b, s with
    | .loud _, _ => [.standby]
    | _, .mic _ => [.openCount]
    | _, _ => [])

/-- The terms of Ln that a component stands in (R122). -/
def CompId.termsOn (n : Seat) : CompId → List Source
  | .gate m | .micMute m => if m = n then [] else [.mic m]
  | .returnMute k | .linkState k => [.far k]
  | .sourceTrim i => (Bus.loud n).terms.filter fun s => s.index = some i
  | .classMic b m => if b = n ∧ m ≠ n then [.mic m] else []
  | .classFar => allLinks.map .far
  | .classProgram => [.program false, .program true]
  | .toneLevel m | .envelope m => if m = n then [.tone n] else []
  | .standby => (Bus.loud n).terms
  | .classMicOut | .classBridge | .classAssist | .openCount | .speakerMute _ | .feedbackOffset _ | .sendMute _
  | .busTrim _ => []

/-- The whole-bus components of a bus, in the order of R122. -/
def busComps : Bus → List CompId
  | .loud n => [.speakerMute n, .feedbackOffset n, .busTrim (Bus.loud n).index]
  | .send k => [.sendMute k, .linkState k, .busTrim (Bus.send k).index]
  | .recorder => [.busTrim Bus.recorder.index]
  | .assist => [.busTrim Bus.assist.index]

/-- The current gain of some components together. -/
def Mix.currentOf (m : Mix) (ids : List CompId) : Gain := sumGains (ids.map fun i => (m.comp i).current)

/-- The target gain of some components together. -/
def Mix.targetOf (m : Mix) (ids : List CompId) : Gain := sumGains (ids.map fun i => (m.comp i).target)

/-- The longest time left among some components. -/
def Mix.leftOf (m : Mix) (ids : List CompId) : Nat := (ids.map fun i => (m.comp i).left).foldl max 0

/-- A term is carried while its current or its target gain is above off (R119). -/
def Mix.carried (m : Mix) (b : Bus) : List Source :=
  b.terms.filter fun s => m.currentOf (termComps b s) ≠ .off || m.targetOf (termComps b s) ≠ .off

/-- Bus Ln is silence: its whole-bus gain is off, or every term is (R43, R118). -/
def Mix.silentBus (m : Mix) (n : Seat) : Bool :=
  m.currentOf (busComps (.loud n)) = .off
    || (Bus.loud n).terms.all fun s => m.currentOf (termComps (.loud n) s) = .off

/-! ## The feedback monitor (section 8.1) -/

/-- A seat is WATCHING: its windows are evaluated (R160). -/
def FbSeat.watching (s : FbSeat) : Bool := s.presence = .present && !s.flag && s.live

/-- A seat is tripped (R159). -/
def FbSeat.tripped (s : FbSeat) : Bool := s.trips ≠ 0

/-- The status of a seat, numbered as section 8.1 lists it: IDLE, WATCHING, SUSPENDED, RESTING, LATCHED. -/
def FbSeat.status (s : FbSeat) : Byte :=
  if s.presence ≠ .present then 0
  else if s.flag then (if s.retryTimer.isSome then 3 else 4)
  else if s.live then 1 else 2

end Sys2Proof.Machine
end

