-- ==== Sys2Proof/Machine/Ops.lean ====
section
/-! DEFINITION. The operations the blocks share: queueing an event, moving a gain component, keeping a pod's view and
indications, restarting a monitored window, judging loudspeaker steps, and floor activity. -/

namespace Sys2Proof.Machine

open Sys2Proof

/-- A block queues an event; the port takes it when the command is done (log 4). -/
def Room.emit (r : Room) (e : Event) : Room := { r with out := r.out ++ [e] }

/-! ## Gain components (R130, R131) -/

/-- A component writes a component. -/
def Mix.setComp (m : Mix) (id : CompId) (c : Comp) : Mix :=
  match id with
  | .gate n => { m with gate := m.gate.set n c }
  | .micMute n => { m with micMute := m.micMute.set n c }
  | .returnMute k => { m with returnMute := m.returnMute.set k c }
  | .linkState k => { m with linkState := m.linkState.set k c }
  | .sourceTrim i => { m with srcTrim := m.srcTrim.set i c }
  | .classMic n s => { m with classMic := m.classMic.modify n fun t => t.set s c }
  | .classMicOut => { m with classMicOut := c }
  | .classFar => { m with classFar := c }
  | .classBridge => { m with classBridge := c }
  | .classProgram => { m with classProgram := c }
  | .classAssist => { m with classAssist := c }
  | .toneLevel n => { m with toneLevel := m.toneLevel.set n c }
  | .openCount => { m with openCount := c }
  | .standby => { m with standbyComp := c }
  | .envelope n => { m with envelope := m.envelope.set n c }
  | .speakerMute n => { m with speakerMute := m.speakerMute.set n c }
  | .feedbackOffset n => { m with fbOffset := m.fbOffset.set n c }
  | .sendMute k => { m with sendMute := m.sendMute.set k c }
  | .busTrim i => { m with busTrim := m.busTrim.set i c }

/-- A component with a new target (R131): a fresh ramp from the current value over the full time, a time of 0 ms made
as 1 ms (R130). -/
def Comp.moved (c : Comp) (g : Gain) (ms : Nat) : Comp :=
  ⟨g, some ⟨c.current.rampEnd, c.isOff, max 1 ms, 0⟩⟩

/-- A component's owner sets its target; a target already in force starts no ramp (R131). -/
def Room.move (r : Room) (id : CompId) (g : Gain) (ms : Nat) : Room :=
  let c := r.mix.comp id
  if c.target = g then r
  else { r with mix := r.mix.setComp id (c.moved g ms), begun := r.begun ++ [id] }

/-- The same target for several components. -/
def Room.moveAll (r : Room) (ids : List CompId) (g : Gain) (ms : Nat) : Room :=
  ids.foldl (fun r id => r.move id g ms) r

/-- 0 dB for true, off for false. -/
def upGain (up : Bool) : Gain := if up then .db 0 else .off

/-! ## Loudspeaker step notices (R47, R132) -/

/-- A detector takes a rise notice (R48). -/
def Detector.riseNotice (d : Detector) : Detector :=
  if d.held || d.settings.riseBlank = 0 then d else { d with rise := some d.settings.riseBlank }

/-- A detector takes a fall notice (R49). -/
def Detector.fallNotice (d : Detector) : Detector :=
  if d.held || d.settings.fallGuard = 0 then d else { d with fall := some d.settings.fallGuard }

/-- The value a component had as this event's ramps began: a component whose ramp began from off in this event stood
at off (R132). -/
def Room.before (r : Room) (id : CompId) : Gain :=
  let c := r.mix.comp id
  match c.ramp with
  | some p => if p.fromOff && p.elapsed = 0 && r.begun.contains id then .off else c.current
  | none => c.current

/-- A step upward (R132). -/
def risesTo (old target : Gain) : Bool :=
  match old, target with
  | .off, .db _ => true
  | .db a, .db b => 6000 ≤ b - a
  | _, .off => false

/-- A step downward (R132). -/
def fallsTo (old target : Gain) : Bool :=
  match old, target with
  | .db _, .off => true
  | .db a, .db b => 6000 ≤ a - b
  | .off, _ => false

/-- A ramp begun in this event opens the gate of a source, as an admission does (R132). -/
def Room.admits (r : Room) : Source → Bool
  | .mic m => r.begun.contains (.gate m) && decide ((r.mix.gate.get m).target ≠ .off)
  | _ => false

/-- A term of Ln gives no rise notice: an admission where the speaker mute component of Ln stands at off (R132; log 66). -/
def Room.mutedAdmission (r : Room) (n : Seat) (s : Source) : Bool :=
  r.admits s && decide ((r.mix.speakerMute.get n).current = .off)

/-- The old and the target gain of each whole-bus component of Ln, and of each term of Ln taken into account, that a ramp
begun in this event moves (R132). -/
def Room.steps (r : Room) (n : Seat) (counts : Source → Bool) : List (Gain × Gain) :=
  ((busComps (.loud n)).filter fun id => r.begun.contains id).map
      (fun id => (r.before id, (r.mix.comp id).target))
  ++ ((r.begun.flatMap (CompId.termsOn n)).filter counts).map
      (fun s => (sumGains ((termComps (.loud n) s).map r.before), r.mix.targetOf (termComps (.loud n) s)))

/-- The step notices of the ramps begun in this event reach the detectors, as the ramps begin (R47, R132; log 6). The
proviso on an admission is of its rise notice alone. -/
def Room.judge (r : Room) : Room :=
  if r.begun.isEmpty then r
  else
    { r with
      det := r.det.mapFin fun n d =>
        let rises := (r.steps n fun s => !r.mutedAdmission n s).any fun p => risesTo p.1 p.2
        let falls := (r.steps n fun _ => true).any fun p => fallsTo p.1 p.2
        let d := if rises then d.riseNotice else d
        if falls then d.fallNotice else d
      begun := [] }

/-- A notice that moves one component: its ramp begins, and the detectors get its step notices (R131, R132). -/
def Room.ramp (r : Room) (id : CompId) (g : Gain) (ms : Nat) : Room := (r.move id g ms).judge

/-! ## Pod records and indications (section 2.7) -/

/-- One pod record changed. -/
def Room.setPod (r : Room) (p : PodPos) (f : Pod → Pod) : Room :=
  { r with lines := r.lines.modify p.line fun l => { l with pods := l.pods.modify p.pos f } }

/-- The mic ring a view calls for (R36). -/
def View.ring (v : View) : Ring :=
  if v.talking then .blinkRed
  else
    match v.mic with
    | .standing => .red
    | .placed => .amber
    | .free => if v.floor.isOpen then .green else .off

/-- The talk lamp a view calls for (R37). -/
def View.talkLamp (v : View) : Lamp :=
  match v.floor with
  | .queued => .blink
  | .granted => .steady
  | _ => .off

/-- The room lamp a record calls for (R37). -/
def Pod.roomLamp (p : Pod) : Lamp :=
  match p.kind with
  | .member => .off
  | .chair => if p.blink.isSome then .blink else if p.view.roomClaim then .steady else .off

/-- The record with its indications composed, or OFF where it is not lit (R35 to R37). -/
def Pod.composed (p : Pod) (lit : Bool) : Pod :=
  if lit then { p with ring := p.view.ring, talk := p.view.talkLamp, room := p.roomLamp }
  else { p with ring := .off, talk := .off, room := .off }

/-- A record's indications recomposed: OFF at a position that is not present or serves no seat, and in standby
(R35, R38). -/
def Room.compose (r : Room) (p : PodPos) : Room :=
  let lit := (seatAt r.map.running p).isSome && !(r.lines.get p.line).dark
  r.setPod p fun pod => pod.composed (lit && pod.present)

/-- A record's view read afresh and its indications recomposed (R35). -/
def Room.refresh (r : Room) (p : PodPos) : Room :=
  match seatAt r.map.running p with
  | some n => (r.setPod p fun pod => { pod with view := r.freshView n }).compose p
  | none => r.compose p

/-- A notice for a seat updates the view of the position that serves it; with no present position it is dropped
(R35). -/
def Room.tell (r : Room) (n : Seat) (f : View → View) : Room :=
  match r.placeOf n with
  | none => r
  | some p =>
    if (r.podAt p).present then (r.setPod p fun pod => { pod with view := f pod.view }).compose p else r

/-- A refusal notice for a chair seat: the room lamp blinks for 2000 ms (R37). -/
def Room.refuseLamp (r : Room) (n : Seat) : Room :=
  match r.placeOf n with
  | none => r
  | some p =>
    let pod := r.podAt p
    if pod.present && pod.kind = .chair && !(r.lines.get p.line).dark then
      (r.setPod p fun pod => { pod with blink := some 2000 }).compose p
    else r

/-! ## The monitor's window, floor activity -/

/-- Evaluation begins or stops as the three conditions of R160 now hold: a new window when it begins, none and no
count when it stops. -/
def FbSeat.settled (s : FbSeat) (length : Nat) : FbSeat :=
  if s.watching then
    if s.window.isSome then s else { s with window := some ⟨0, length, []⟩, consecutive := 0 }
  else { s with window := none, consecutive := 0 }

/-- The monitor's record of a seat changes, and evaluation follows (R160). -/
def Room.setFb (r : Room) (n : Seat) (f : FbSeat → FbSeat) : Room :=
  { r with fb := { r.fb with seats := r.fb.seats.modify n fun s => (f s).settled r.fb.settings.window } }

/-- A floor activity report to the Link Controller (R153). -/
def Room.activity (r : Room) : Room :=
  if r.link.call = .idle then { r with link := { r.link with timer := delayTimer r.link.delay } } else r

end Sys2Proof.Machine
end

