-- ==== Sys2Proof/Machine/Buses.lean ====
section
/-! DEFINITION. The samples of one millisecond: what each source carries, what each bus is the sum of (section 6.1, R118,
R133), and their levels. How a product is rounded, where full scale lies, how a rate is converted and how a tone sounds are
free (log 14, 64, 65). -/

namespace Sys2Proof.Machine

open Sys2Proof

/-! ## Sources (section 6.1) -/

/-- The samples of a list at 48 kHz, silence where there are none. -/
def samplesOf (xs : List Int) : Samples := Tab.ofFn fun i => xs.getD i.val 0

/-- Samples converted from one rate to another (R118; log 64); silence stays silence. -/
def converted (from_ to_ : Nat) (xs : List Int) : List Int :=
  if xs.all (· = 0) then xs else Config.convert from_ to_ xs

/-- S: the microphone audio of the pod serving a seat (R2); silence where no present pod serves it, and for a frame whose
slot was bad (R24). -/
def Room.micFrame (r : Room) (n : Seat) : Samples :=
  match r.placeOf n with
  | none => silence
  | some p => if (r.podAt p).present then (r.lines.get p.line).audio.get p.pos else silence

/-- F: the audio received on a link's port, converted to 48 kHz; silence while the port is UNLOCKED (R118, R141). -/
def LinkRec.frame (l : LinkRec) : Samples :=
  match l.locked, l.rate with
  | true, some rate => samplesOf (converted rate 48000 l.inbound)
  | _, _ => silence

/-- The number by which `Config.tone` knows a tone. -/
def Tone.number : Tone → Nat
  | .muted => 0
  | .live => 1
  | .held => 2
  | .granted => 3

/-- The tone player of a seat (R133; log 65). -/
def Mix.toneFrame (m : Mix) (n : Seat) : Samples :=
  match m.players.get n with
  | none => silence
  | some p => Tab.ofFn fun i => Config.tone p.tone.number p.elapsed i.val

/-- What a source carries in the last 1 ms. -/
def Room.sourceFrame (r : Room) : Source → Samples
  | .mic n => r.micFrame n
  | .far k => (r.link.links.get k).frame
  | .program second => r.mix.program.get (if second then 1 else 0)
  | .tone n => r.mix.toneFrame n

/-! ## Buses (R118) -/

/-- The factors of 0 to 19 dB, in units of 10^-18. -/
def wholeFactors : List Nat :=
  [1000000000000000000, 1122018454301963436, 1258925411794167210, 1412537544622754302, 1584893192461113485,
   1778279410038922801, 1995262314968879601, 2238721138568339612, 2511886431509580111, 2818382931264453819,
   3162277660168379332, 3548133892335754584, 3981071705534972508, 4466835921509631186, 5011872336272722850,
   5623413251903490804, 6309573444801932494, 7079457843841379108, 7943282347242815021, 8912509381337455300]

/-- The factors of 0 to 9 tenths of a dB, in units of 10^-18. -/
def tenthFactors : List Nat :=
  [1000000000000000000, 1011579454259898524, 1023292992280754131, 1035142166679343817, 1047128548050899533,
   1059253725177288879, 1071519305237606417, 1083926914021203526, 1096478196143185013, 1109174815262401067]

/-- The factors of 0 to 9 hundredths of a dB, in units of 10^-18. -/
def hundredthFactors : List Nat :=
  [1000000000000000000, 1001151955538168877, 1002305238077899672, 1003459849147839183, 1004615790278395142,
   1005773063001738243, 1006931668851804170, 1008091609364295635, 1009252886076684412, 1010415500528213371]

/-- The factors of 0 to 9 thousandths of a dB, in units of 10^-18. -/
def thousandthFactors : List Nat :=
  [1000000000000000000, 1000115135882276683, 1000230285020824753, 1000345447417170483, 1000460623072840322,
   1000575811989360893, 1000691014168258996, 1000806229611061606, 1000921458319295876, 1001036700294489132]

/-- The factor of a gain of `m` thousandths of a dB, 10^(m/20000), as a numerator and a denominator (R118; log 14). -/
def gainFactor (m : Int) : Nat × Nat :=
  let tens := m / 20000
  let rest := (m % 20000).toNat
  let digits := wholeFactors.getD (rest / 1000) 0 * tenthFactors.getD (rest / 100 % 10) 0
    * hundredthFactors.getD (rest / 10 % 10) 0 * thousandthFactors.getD (rest % 10) 0
  (digits * 10 ^ tens.toNat, 10 ^ 72 * 10 ^ (-tens).toNat)

/-- A sample multiplied by a gain (R118, R122): off gives silence, 0 dB the sample itself, and a gain of `m` thousandths
of a dB its product with 10^(m/20000); a product that is no whole number is the whole number below it or above it, as
the part rounds (log 14). -/
def Gain.scale (g : Gain) (x : Int) : Int :=
  match g with
  | .off => 0
  | .db m =>
    let (num, den) := gainFactor m
    let below := x * num / den
    if x * num % den = 0 then below else if Config.roundsUp m x then below + 1 else below

/-- A sum limited to full scale (R118; log 14). -/
def limited (x : Int) : Int := if x = 0 then 0 else max (-Config.fullScale) (min Config.fullScale x)

/-- The terms of a bus whose gain stands above off, each with its gain. -/
def Mix.heard (m : Mix) (b : Bus) : List (Source × Int) :=
  b.terms.filterMap fun s =>
    match m.currentOf (termComps b s) with
    | .off => none
    | .db g => some (s, g)

/-- The sum of the terms of a bus, each source's samples multiplied by the term's gain (R118). All 48 samples of
the 1 ms take one gain, also while a ramp runs: how finely a ramp moves within 1 ms is the model's choice (log 73). -/
def Room.busSum (r : Room) (b : Bus) : Samples :=
  (r.mix.heard b).foldl (fun sum s => sum.zipWith (· + ·) ((r.sourceFrame s.1).map (Gain.db s.2).scale)) silence

/-- A bus in the last 1 ms (R118): the sum of its terms multiplied by the whole-bus gain. That it is the product which is
limited to full scale, not the sum before it, is the model's reading (log 68). -/
def Room.busFrame (r : Room) (b : Bus) : Samples :=
  match r.mix.currentOf (busComps b) with
  | .off => silence
  | g => (r.busSum b).map fun x => limited (g.scale x)

/-! ## Levels (R43, R161) -/

/-- The energy of a frame: the sum of the squares of its samples. -/
def energyOf (s : Samples) : Nat := (s.toList.map fun x => x.natAbs * x.natAbs).sum

/-- The number of decimal digits after the first, found within `fuel` digits. -/
def log10 : Nat → Nat → Nat
  | 0, _ => 0
  | fuel + 1, n => if n < 10 then 0 else log10 fuel (n / 10) + 1

/-- The mean-square level, in half-decibels, of `count` samples whose squares sum to `energy`, in the unit of `Samples`:
20 log10(energy / count) - 200 to the nearest half-decibel, within -100.0 to +20.0 dB (log 14, 20). -/
def levelOfMean (energy count : Nat) : Int :=
  if energy < count then -200
  else max (-200) (min 40 ((log10 600 ((min energy (count * 10 ^ 13)) ^ 40 * 10 / count ^ 40) / 2 : Nat) - 200))

end Sys2Proof.Machine
end

