-- ==== Sys2Proof/Machine/Mix.lean ====
section
/-! DEFINITION. The Mix Engine (chapter 6): the notices it takes, the tone players, its settings and its requests. -/

namespace Sys2Proof.Machine

open Sys2Proof

/-- An answer of OK with data. -/
def okWith (data : List Byte) : Answer := ⟨.ok, data⟩

/-- A refusal, or an OK, that carries its status alone (R195). -/
def bare (s : Status) : Answer := ⟨s, []⟩

/-- The mute ramp in force. -/
def Room.muteRamp (r : Room) : Nat := r.mix.settings.muteRamp

/-! ## Notices (R124 to R129) -/

/-- A mic mute notice (R124). -/
def Room.mixMic (r : Room) (n : Seat) (muted : Bool) : Room := r.ramp (.micMute n) (upGain (!muted)) r.muteRamp

/-- The LIVE notice: a ramp of the speaker mute component of Ln begins from off (R160). -/
def Room.fbLive (r : Room) (n : Seat) : Room := r.setFb n fun s => { s with live := true }

/-- The OFF notice: a ramp of that component toward off completes (R160). -/
def Room.fbOff (r : Room) (n : Seat) : Room := r.setFb n fun s => { s with live := false }

/-- A speaker mute notice (R126): 10 ms toward off for cause FEEDBACK, the mute ramp otherwise. -/
def Room.mixSpeaker (r : Room) (n : Seat) (muted : Bool) (cause : Cause) : Room :=
  let rising := (r.mix.speakerMute.get n).isOff && !muted
  let r := r.ramp (.speakerMute n) (upGain (!muted)) (if muted && cause = .feedback then 10 else r.muteRamp)
  if rising then r.fbLive n else r

/-- A link mute notice (R125). -/
def Room.mixLink (r : Room) (k : Link) (d : Dir) (muted : Bool) : Room :=
  match d with
  | .send => r.ramp (.sendMute k) (upGain (!muted)) r.muteRamp
  | .ret => r.ramp (.returnMute k) (upGain (!muted)) r.muteRamp
  | _ => r

/-- A gate notice (R123): the attack ramp toward 0 dB, the release ramp toward off. -/
def Room.mixGate (r : Room) (n : Seat) (up : Bool) : Room :=
  r.ramp (.gate n) (upGain up) (if up then r.floor.settings.attack else r.floor.settings.release)

/-- -10 log10(N) in thousandths of a dB, N taken as 1 when it is 0 (R128). -/
def openCountLoss (n : Nat) : Int :=
  -(([0, 0, 3010, 4771, 6021, 6990, 7782, 8451, 9031, 9542, 10000, 10414, 10792, 11139, 11461, 11761, 12041, 12304,
      12553, 12788, 13010] ++
     [13222, 13424, 13617, 13802, 13979, 14150, 14314, 14472, 14624, 14771, 14914, 15051, 15185, 15315, 15441, 15563,
      15682, 15798, 15911, 16021]).getD n 16021)

/-- The open count from the Floor Controller (R128). -/
def Room.mixCount (r : Room) (n : Nat) : Room :=
  { r with mix := { r.mix with countIn := n } }.ramp .openCount (.db (openCountLoss n)) 50

/-- A new feedback offset for Ln, in half-decibels (R126). -/
def Room.mixOffset (r : Room) (n : Seat) (offset : Int) : Room := r.ramp (.feedbackOffset n) (halfDb offset) 50

/-! ## Tone players (R133, R134) -/

/-- The length of a tone. -/
def Tone.length : Tone → Nat
  | .muted => 250
  | .live => 250
  | .held => 150
  | .granted => 150

/-- A tone request (R133). -/
def Room.tone (r : Room) (n : Seat) (t : Tone) : Room :=
  if !r.mix.settings.tonesOn || r.mix.standby || (r.mix.speakerMute.get n).target = .off then r
  else { r with mix := { r.mix with players := r.mix.players.set n (some ⟨t, 0⟩) } }.ramp (.envelope n) (.db 0) 5

/-- A playing tone starts to end: its envelope ramps toward off over 5 ms. The step notices are the caller's. -/
def Room.fadeTone (r : Room) (n : Seat) : Room :=
  if (r.mix.players.get n).isSome then r.move (.envelope n) .off 5 else r

/-- Every playing tone starts to end (R134). -/
def Room.fadeTones (r : Room) : Room := allSeats.foldl Room.fadeTone r

/-- The standby entry notice (R129, R134). -/
def Room.mixRest (r : Room) : Room :=
  (({ r with mix := { r.mix with standby := true } }.move .standby .off r.muteRamp).fadeTones).judge

/-- The standby exit notice (R129). -/
def Room.mixWake (r : Room) : Room :=
  { r with mix := { r.mix with standby := false } }.ramp .standby (.db 0) r.muteRamp

/-! ## Settings (R121, R135 to R138) -/

/-- The class levels of the microphones on the loudspeaker buses take the targets that the settings and the running
map give (R120, R121). -/
def Room.aimMics (r : Room) (ms : Nat) : Room :=
  allSeats.foldl (fun r n => allSeats.foldl (fun r m =>
    if n = m then r else r.move (.classMic n m) (micLevel r.map.running r.mix.settings n m) ms) r) r

/-- The index of every source trim and of every bus trim (R188). -/
def allTrims : List (Fin 46) := List.finRange 46

/-- The source trims take the targets that the settings give (R137). -/
def Room.aimSources (r : Room) (ms : Nat) : Room :=
  allTrims.foldl (fun r i => r.move (.sourceTrim i) (halfDb (r.mix.settings.srcTrim.get i)) ms) r

/-- The bus trims take the targets that the settings give (R137). -/
def Room.aimBuses (r : Room) (ms : Nat) : Room :=
  allTrims.foldl (fun r i => r.move (.busTrim i) (halfDb (r.mix.settings.busTrim.get i)) ms) r

/-- Every trim and level takes the target that the settings give (R137, R138). -/
def Room.aimAll (r : Room) (ms : Nat) : Room :=
  let s := r.mix.settings
  let r := ((r.aimSources ms).aimBuses ms).aimMics ms
  let r := r.move .classProgram (levelGain s.program) ms
  let r := r.move .classAssist (levelGain s.assist) ms
  r.move .classBridge (upGain s.bridging) ms

/-- A new tone level at one seat (R135): a playing seat takes it by a ramp over 20 ms, an idle one holds it for its next
tone. -/
def Room.aimTone (r : Room) (level : Int) (n : Seat) : Room :=
  if (r.mix.players.get n).isSome then r.move (.toneLevel n) (halfDb level) 20
  else if (r.mix.toneLevel.get n).target = halfDb level then r
  else { r with mix := r.mix.setComp (.toneLevel n) ⟨halfDb level, none⟩ }

/-- The tone settings (R135): every seat takes the level; tones turned off end every playing tone. -/
def Room.setTones (r : Room) (on : Bool) (level : Int) : Room :=
  let was := r.mix.settings.tonesOn
  let r := { r with mix := { r.mix with settings := { r.mix.settings with tonesOn := on, toneLevel := level } } }
  let r := allSeats.foldl (fun r n => r.aimTone level n) r
  if was && !on then r.fadeTones else r

/-- The mix settings of a scene, tones apart, with the ramps they start. -/
def Room.setMix (r : Room) (s : MixSettings) (ms : Nat) : Room :=
  let old := r.mix.settings
  { r with mix := { r.mix with settings := { s with tonesOn := old.tonesOn, toneLevel := old.toneLevel } } }.aimAll ms

/-- A recall's mix and tone settings (section 6.8): ramps over the mute ramp of the recalled scene, one event of the
engine (R132). -/
def Room.recallMix (r : Room) (s : MixSettings) : Room := ((r.setMix s s.muteRamp).setTones s.tonesOn s.toneLevel).judge

/-- A trim's or level's index among 46 (R188). -/
def trimIndex (b : Byte) : Option (Fin 46) := numbered 46 b

/-- The settings after one MIX_SET, or none for a range fault (R136). -/
def mixChange (s : MixSettings) (item index value : Byte) : Option MixSettings :=
  match item.toNat with
  | 0 =>
    match trimIndex index, levelOf (-60) 24 value with
    | some i, some v => some { s with srcTrim := s.srcTrim.set i v }
    | _, _ => none
  | 1 =>
    match trimIndex index, levelOf (-60) 24 value with
    | some i, some v => some { s with busTrim := s.busTrim.set i v }
    | _, _ => none
  | 2 => if index = 0 then (offLevelOf (-80) 0 value).map fun v => { s with reinforcement := v } else none
  | 3 => if index = 0 then (offLevelOf (-80) 0 value).map fun v => { s with program := v } else none
  | 4 => if index = 0 then (offLevelOf (-80) 0 value).map fun v => { s with assist := v } else none
  | 5 => if index = 0 then (within 0 3 value.toNat).map fun v => { s with near := v } else none
  | 6 => if index = 0 then (boolOf value).map fun v => { s with bridging := v } else none
  | 7 => if index = 0 then (within 5 200 value.toNat).map fun v => { s with muteRamp := v } else none
  | _ => none

/-- MIX_SET (R136): a value equal to the setting in force changes nothing. -/
def reqMixSet (body : List Byte) (r : Room) : Room × Answer :=
  match body with
  | [item, index, value, hi, lo] =>
    match mixChange r.mix.settings item index value, within 0 2000 (pairOf hi lo) with
    | some s, some ms =>
      (if s = r.mix.settings then r else (r.setMix s ms).judge, okWith [item, index, value])
    | _, _ => (r, bare .range)
  | _ => (r, bare .length)

/-- TONE_SET (R135). -/
def reqToneSet (body : List Byte) (r : Room) : Room × Answer :=
  match body with
  | [on, level] =>
    match boolOf on, levelOf (-60) 0 level with
    | some on, some level => ((r.setTones on level).judge, bare .ok)
    | _, _ => (r, bare .range)
  | _ => (r, bare .length)

/-- A carried term as MIX_READ gives it: source, current gain, target gain, remaining time. -/
def Mix.termBytes (m : Mix) (b : Bus) (s : Source) : List Byte :=
  let ids := termComps b s
  [byteOf s.number, gainByte (m.currentOf ids), gainByte (m.targetOf ids)] ++ bytes2 (m.leftOf ids)

/-- A whole-bus component as MIX_READ gives it: current value, target, remaining time. -/
def Mix.compBytes (m : Mix) (id : CompId) : List Byte :=
  let c := m.comp id
  [gainByte c.current, gainByte c.target] ++ bytes2 c.left

/-- What MIX_READ carries of a bus (R139). -/
def Mix.busBytes (m : Mix) (b : Bus) : List Byte :=
  let carried := m.carried b
  [byteOf (b.index.val + 1)] ++ (busComps b).flatMap m.compBytes
    ++ [byteOf carried.length] ++ carried.flatMap (m.termBytes b)

/-- MIX_READ (R139; the code of standby is log 72). -/
def reqMixRead (body : List Byte) (r : Room) : Room × Answer :=
  match body with
  | [b] =>
    if b = 0 then
      (r, okWith (r.mix.settings.bytes ++ [byteOf r.mix.countIn, boolByte r.mix.standby]))
    else
      match busOf b with
      | some bus => (r, okWith (r.mix.busBytes bus))
      | none => (r, bare .range)
  | _ => (r, bare .length)

/-- A tone has played for its length less 5 ms (R133): its envelope starts toward off. -/
def Room.toneFade (r : Room) (n : Seat) : Room := (r.fadeTone n).judge

end Sys2Proof.Machine
end

