-- ==== Sys2Proof/Machine/Floor.lean ====
section
/-! DEFINITION. The Floor Controller (chapter 5), apart from the presses and requests that call on the Mute Arbiter
(FloorRequest.lean): gates and collections, speech reports, mute, presence and re-seated notices, standby,
settings, timers. -/

namespace Sys2Proof.Machine

open Sys2Proof

/-- The floor's record of a seat changed. -/
def Room.setSeat (r : Room) (n : Seat) (f : FloorSeat → FloorSeat) : Room :=
  { r with floor := { r.floor with seats := r.floor.seats.modify n f } }

/-- The floor's record of a seat. -/
def Room.fseat (r : Room) (n : Seat) : FloorSeat := r.floor.seats.get n

/-- A seat leaves the collection it is in (R91). -/
def Room.unlist (r : Room) (n : Seat) : Room :=
  { r with
    floor := { r.floor with
      openList := r.floor.openList.filter (· ≠ n)
      waitList := r.floor.waitList.filter (· ≠ n)
      queue := r.floor.queue.filter (· ≠ n) } }

/-- A floor state notice to the Pod Line controller (R87 step 2). -/
def Room.floorView (r : Room) (n : Seat) (g : GateState) : Room := r.tell n fun v => { v with floor := g }

/-- A seat goes to CLOSED from whatever state it is in, with CLOSED or DEQUEUED and a reason; a CLOSED seat stays as it
is and queues nothing (R87, R88). -/
def Room.closeSeat (r : Room) (n : Seat) (reason : Reason) : Room :=
  let prior := (r.fseat n).gate
  if prior = .closed then r
  else
    let r := (r.unlist n).setSeat n fun s => { s with gate := .closed, kept := false, timer := .off }
    let r := if prior.isOpen then r.mixGate n false else r
    let r := r.floorView n .closed
    match prior with
    | .waiting => r.emit (.dequeuedEv n .wait reason)
    | .queued => r.emit (.dequeuedEv n .request reason)
    | _ => r.emit (.closedEv n prior reason)

/-- Some seats go to CLOSED with one reason, in the order given. -/
def Room.closeAll (r : Room) (seats : List Seat) (reason : Reason) : Room :=
  seats.foldl (fun r n => r.closeSeat n reason) r

/-- The timer a seat entering GRANTED starts: the idle timer, with its speaking field clear (R105). -/
def idleTimer (limit : Nat) (speaking : Bool) : SeatTimer :=
  if limit = 0 || speaking then .off else .idle (limit * 1000)

/-- The event of a seat leaving the Wait List or the Request Queue to be opened. -/
def Room.emitAdmitted (r : Room) (n : Seat) (prior : GateState) : Room :=
  match prior with
  | .waiting => r.emit (.dequeuedEv n .wait .admitted)
  | .queued => r.emit (.dequeuedEv n .request .admitted)
  | _ => r

/-- A seat is admitted to OPEN or GRANTED (R86, R90, R103): at the tail of the Open List, or outside it in OPEN mode
and for a chair-free seat. -/
def Room.admitSeat (r : Room) (n : Seat) (goal : GateState) : Room :=
  let prior := (r.fseat n).gate
  let listed := r.floor.settings.mode ≠ .opened && !r.chairFree n
  let r := r.unlist n
  let stamp := r.floor.stamp + 1
  let r := { r with
    floor := { r.floor with
      stamp := stamp
      openList := if listed then r.floor.openList ++ [n] else r.floor.openList } }
  let limit := r.floor.settings.idle
  let r := r.setSeat n fun s =>
    { s with gate := goal, kept := false, stamp := stamp,
             timer := if goal = .granted then idleTimer limit s.speaking else .off }
  let r := (r.mixGate n true).floorView n goal
  let r := if goal = .granted then r.tone n .granted else r
  let r := r.emitAdmitted n prior
  (r.emit (.openedEv n goal (placeIn r.floor.openList n))).activity

/-- A seat becomes WAITING at the tail of the Wait List (R95). -/
def Room.waitSeat (r : Room) (n : Seat) : Room :=
  let r := { r with floor := { r.floor with waitList := r.floor.waitList ++ [n] } }
  let r := (r.setSeat n fun s => { s with gate := .waiting }).floorView n .waiting
  r.emit (.queuedEv n .wait (placeIn r.floor.waitList n))

/-- A seat becomes QUEUED at the tail of the Request Queue (R101). -/
def Room.queueSeat (r : Room) (n : Seat) : Room :=
  let r := { r with floor := { r.floor with queue := r.floor.queue ++ [n] } }
  let r := (r.setSeat n fun s => { s with gate := .queued }).floorView n .queued
  r.emit (.queuedEv n .request (placeIn r.floor.queue n))

/-! ## Fills and the end of an event (R87, R99, R103, R108) -/

/-- The oldest WAITING seat is admitted if there is room (R99). -/
def Room.fillWaitOne (r : Room) : Room :=
  match r.floor.waitList with
  | [] => r
  | n :: _ => if r.floor.hasRoom then r.admitSeat n .opened else r

/-- WAITING seats are admitted, oldest first, while there is room (R99). -/
def Room.fillWait (r : Room) : Room := r.floor.waitList.foldl (fun r _ => r.fillWaitOne) r

/-- The oldest grantable seat is granted if there is room (R103). -/
def Room.fillQueueOne (r : Room) : Room :=
  match r.floor.grantable with
  | none => r
  | some n => if r.floor.hasRoom then r.admitSeat n .granted else r

/-- Grantable seats are granted, oldest first, while there is room (R103). -/
def Room.fillQueue (r : Room) : Room := r.floor.queue.foldl (fun r _ => r.fillQueueOne) r

/-- Freed slots are filled as the mode provides (R99, R103). -/
def Room.floorFill (r : Room) : Room :=
  if r.floor.standby then r
  else
    match r.floor.settings.mode with
    | .opened => r
    | .auto => r.fillWait
    | .request => if r.floor.settings.autoGrant then r.fillQueue else r

/-- The end of a floor event (R87): the open count if it differs from the last sent, then QUIET or BUSY if the
judgement differs (R108; log 22). -/
def Room.floorFinish (r : Room) : Room :=
  let count := r.floor.count
  let r := if count = r.floor.lastCount then r
    else { r with floor := { r.floor with lastCount := count } }.mixCount count
  let quiet := r.quietNow
  if quiet = r.floor.quietSaid then r
  else { r with floor := { r.floor with quietSaid := quiet }, box := r.box ++ [quiet] }

/-- One event at the Floor Controller: its transitions, the fills, its last notices. -/
def Room.floorEvent (r : Room) (f : Room → Room) : Room := (f r).floorFill.floorFinish

/-! ## Speech (R89, R95, R96, R98, R105) -/

/-- An onset for an admissible CLOSED seat in AUTO mode (R95, R98). -/
def Room.onsetClosed (r : Room) (n : Seat) : Room :=
  if r.chairFree n then r.admitSeat n .opened
  else
    match r.floor.openList.find? fun m => (r.fseat m).kept with
    | some m => (r.closeSeat m .takenOver).admitSeat n .opened
    | none =>
      if r.floor.hasRoom then r.admitSeat n .opened
      else
        match r.floor.openList.find? fun m => (r.fseat m).gate = .hold with
        | some m => (r.closeSeat m .takenOver).admitSeat n .opened
        | none =>
          if r.floor.waitList.length < 8 then r.waitSeat n
          else r.emit (.refusedEv n .waitFull)

/-- An onset for an admissible seat, by the mode (R95, R96, R98, R105). -/
def Room.onsetAct (r : Room) (n : Seat) : Room :=
  match r.floor.settings.mode with
  | .opened => r
  | .auto =>
    match (r.fseat n).gate with
    | .closed => r.onsetClosed n
    | .hold =>
      (r.setSeat n fun s => { s with gate := .opened, kept := false, timer := .off }).floorView n .opened
    | _ => r
  | .request =>
    if (r.fseat n).gate = .granted then r.setSeat n fun s => { s with timer := .off } else r

/-- An end for an admissible seat, by the mode (R96, R98, R105). -/
def Room.endAct (r : Room) (n : Seat) : Room :=
  match r.floor.settings.mode with
  | .opened => r
  | .auto =>
    match (r.fseat n).gate with
    | .opened =>
      let ms := r.floor.settings.hold
      (r.setSeat n fun s => { s with gate := .hold, timer := .hold ms }).floorView n .hold
    | .waiting => r.closeSeat n .ended
    | _ => r
  | .request =>
    if (r.fseat n).gate = .granted then
      let limit := r.floor.settings.idle
      r.setSeat n fun s => { s with timer := idleTimer limit false }
    else r

/-- A speech report reaches the Floor Controller (R89); in OPEN mode onsets and ends are floor activity (R93; log 21). -/
def Room.floorSpeech (r : Room) (n : Seat) (onset : Bool) : Room :=
  r.floorEvent fun r =>
    let r := r.setSeat n fun s => { s with speaking := onset }
    let r := if !r.floor.admissible n then r else if onset then r.onsetAct n else r.endAct n
    if r.floor.settings.mode = .opened then r.activity else r

/-! ## Mute, presence and seating (R92, R93, R100, R109) -/

/-- A seat becomes admissible (R93, R100): opened in OPEN mode, taken as an onset in AUTO mode if it is speaking. -/
def Room.becomeAdmissible (r : Room) (n : Seat) : Room :=
  if !r.floor.admissible n || (r.fseat n).gate ≠ .closed then r
  else
    match r.floor.settings.mode with
    | .opened => r.admitSeat n .opened
    | .auto => if (r.fseat n).speaking then r.onsetClosed n else r
    | .request => r

/-- A mic notice (R92). -/
def Room.floorMic (r : Room) (n : Seat) (muted : Bool) : Room :=
  r.floorEvent fun r =>
    let r := r.setSeat n fun s => { s with muted := muted }
    if muted then
      if (r.fseat n).gate = .queued then r else r.closeSeat n .muted
    else r.becomeAdmissible n

/-- A presence notice (R109). -/
def Room.floorPresence (r : Room) (n : Seat) (p : Presence) : Room :=
  r.floorEvent fun r =>
    let r := r.setSeat n fun s => { s with presence := p, speaking := false }
    if p = .present then r.becomeAdmissible n else r.closeSeat n .absent

/-- A re-seated notice (R109): in OPEN mode a seat still admissible is opened again at once (log 32). -/
def Room.floorReseated (r : Room) (n : Seat) : Room :=
  r.floorEvent fun r =>
    let r := (r.setSeat n fun s => { s with speaking := false }).closeSeat n .reseated
    if r.floor.settings.mode = .opened && r.presence n = .present then r.becomeAdmissible n else r

/-! ## Standby (R110) -/

/-- The standby entry notice: every seat is closed with reason STANDBY, in ascending order. -/
def Room.floorRest (r : Room) : Room :=
  { r with floor := { r.floor with standby := true } }.floorEvent fun r =>
    r.closeAll allSeats .standby

/-- The standby exit notice: seats become admissible, in ascending order. -/
def Room.floorWake (r : Room) : Room :=
  { r with floor := { r.floor with standby := false } }.floorEvent fun r =>
    allSeats.foldl Room.becomeAdmissible r

/-! ## Settings (R113 to R115) -/

/-- A floor reset (R113): every seat is closed with reason MODE, and outside standby the mode then starts. -/
def Room.floorReset (r : Room) : Room :=
  allSeats.foldl Room.becomeAdmissible (r.closeAll allSeats .mode)

/-- A seat goes from the Open List back to index `i` of the Request Queue (R114). -/
def Room.requeue (r : Room) (n : Seat) (i : Nat) : Room :=
  let prior := (r.fseat n).gate
  let r := r.unlist n
  let r := { r with floor := { r.floor with queue := r.floor.queue.take i ++ n :: r.floor.queue.drop i } }
  let r := r.setSeat n fun s => { s with gate := .queued, kept := false, timer := .off }
  let r := (r.mixGate n false).floorView n .queued
  (r.emit (.closedEv n prior .limit)).emit (.queuedEv n .request (placeIn r.floor.queue n))

/-- The open limit lowered below the seats in the Open List (R114). In REQUEST mode the order of the transitions is the
model's choice: the seats that the queue has no place for, oldest first, then the others, oldest first (log 59). -/
def Room.lowerLimit (r : Room) : Room :=
  let beyond := r.floor.openList.drop r.floor.settings.limit
  match r.floor.settings.mode with
  | .opened => r
  | .auto => r.closeAll beyond.reverse .limit
  | .request =>
    let excess := (beyond.length + r.floor.queue.length) - 16
    let r := r.closeAll (beyond.take excess) .limit
    ((beyond.drop excess).foldl (fun (a : Room × Nat) n => (a.1.requeue n a.2, a.2 + 1)) (r, 0)).1

/-- A kept seat is closed (R115). -/
def Room.closeIfKept (r : Room) (n : Seat) : Room := if (r.fseat n).kept then r.closeSeat n .ended else r

/-- Last-mic hold turned off closes a kept seat (R115). -/
def Room.closeKept (r : Room) : Room := allSeats.foldl Room.closeIfKept r

/-- The idle timer of a GRANTED seat that is not speaking starts at the idle limit (R115). -/
def Room.restartIdleAt (r : Room) (n : Seat) : Room :=
  let limit := r.floor.settings.idle
  if (r.fseat n).gate = .granted && !(r.fseat n).speaking then
    r.setSeat n fun s => { s with timer := idleTimer limit false }
  else r

/-- A new idle limit restarts the timer of each GRANTED seat that is not speaking (R115). -/
def Room.restartIdle (r : Room) : Room := allSeats.foldl Room.restartIdleAt r

/-- The nine settings replaced, with a floor reset where the mode or chair-free changes or a recall calls for one
(R113, R117), then the open limit (R114) and the rest (R115). -/
def Room.setFloor (r : Room) (s : FloorSettings) (forced : Bool) : Room :=
  let old := r.floor.settings
  { r with floor := { r.floor with settings := s } }.floorEvent fun r =>
    let r := if forced || old.mode ≠ s.mode || old.chairFree ≠ s.chairFree then r.floorReset else r
    let r := if s.limit < old.limit then r.lowerLimit else r
    let r := if old.lastMic && !s.lastMic then r.closeKept else r
    if old.idle ≠ s.idle then r.restartIdle else r

/-- The nine settings as FLOOR_SET carries them, or none for a range fault (R113). -/
def floorSettingsOf (mode limit holdHi holdLo lastMic autoGrant chairFree idleHi idleLo attack relHi relLo : Byte) :
    Option FloorSettings := do
  let mode ← floorModeOf mode
  let limit ← within 1 6 limit.toNat
  let hold ← within 100 5000 (pairOf holdHi holdLo)
  let lastMic ← boolOf lastMic
  let autoGrant ← boolOf autoGrant
  let chairFree ← boolOf chairFree
  let idle ← within 0 600 (pairOf idleHi idleLo)
  let attack ← within 5 50 attack.toNat
  let release ← within 50 1000 (pairOf relHi relLo)
  if hold % 50 = 0 && (idle = 0 || 10 ≤ idle) then
    some ⟨mode, limit, hold, lastMic, autoGrant, chairFree, idle, attack, release⟩
  else none

/-- FLOOR_SET (R113). -/
def reqFloorSet (body : List Byte) (r : Room) : Room × Answer :=
  match body with
  | [mode, limit, holdHi, holdLo, lastMic, autoGrant, chairFree, idleHi, idleLo, attack, relHi, relLo] =>
    match floorSettingsOf mode limit holdHi holdLo lastMic autoGrant chairFree idleHi idleLo attack relHi relLo with
    | some s => (r.setFloor s false, bare .ok)
    | none => (r, bare .range)
  | _ => (r, bare .length)

/-! ## Timers (R97, R98, R105) -/

/-- The expiry of a seat's hold timer (R97, R98). -/
def Room.holdExpiry (r : Room) (n : Seat) : Room :=
  match (r.fseat n).timer with
  | .hold _ =>
    r.floorEvent fun r =>
      if r.floor.settings.lastMic && r.floor.openList = [n] && r.floor.waitList.isEmpty then
        r.setSeat n fun s => { s with kept := true, timer := .off }
      else r.closeSeat n .ended
  | _ => r

/-- The expiry of a seat's idle timer (R105). -/
def Room.idleExpiry (r : Room) (n : Seat) : Room :=
  match (r.fseat n).timer with
  | .idle _ => r.floorEvent fun r => r.closeSeat n .idle
  | _ => r

end Sys2Proof.Machine
end

