-- ==== Sys2Proof/Machine/Mute.lean ====
section
/-! DEFINITION. The Mute Arbiter (chapter 4): the derivation and its notices, the standing flags, the Placed Claim
Table, presses and reports that reach it, and its requests. -/

namespace Sys2Proof.Machine

open Sys2Proof

/-- The Arbiter's record of a seat changed. -/
def Room.setMuteSeat (r : Room) (n : Seat) (f : MuteSeat → MuteSeat) : Room :=
  { r with mute := { r.mute with seats := r.mute.seats.modify n f } }

/-- The Arbiter's record of a seat. -/
def Room.mseat (r : Room) (n : Seat) : MuteSeat := r.mute.seats.get n

/-- The effective mute of a seat as last derived. -/
def Room.eff (r : Room) (n : Seat) : Eff := r.mute.eff.get n

/-- A tone for a seat that is PRESENT; none otherwise (R76). The presence is the seat's own, by the running map (log 41). -/
def Room.seatTone (r : Room) (n : Seat) (t : Tone) : Room :=
  if r.presence n = .present then r.tone n t else r

/-! ## Talking while muted (R79) -/

/-- The spell of a seat begins or ends as its speaking mark and its mic mute now stand: the notice, and at the start,
once for each onset, the event. -/
def Room.spellUpdate (r : Room) (n : Seat) : Room :=
  let s := r.mseat n
  let now := s.speaking && (r.eff n).micMuted
  if now = s.spell then r
  else
    let r := (r.setMuteSeat n fun s => { s with spell := now }).tell n fun v => { v with talking := now }
    if now && !s.reported then
      (r.setMuteSeat n fun s => { s with reported := true }).emit (.talkWhileMuted n (r.eff n).micCause)
    else r

/-! ## The derivation (R71 to R76) -/

/-- The mic mute notices of a changed seat, to the Mix Engine (R72). -/
def Room.micTurned (r : Room) (n : Seat) (old new : Eff) : Room :=
  if old.micMuted = new.micMuted then r else r.mixMic n new.micMuted

/-- The speaker mute notice of a changed seat, to the Mix Engine (R72). -/
def Room.speakerTurned (r : Room) (n : Seat) (old new : Eff) : Room :=
  if old.spkMuted = new.spkMuted then r else r.mixSpeaker n new.spkMuted new.spkCause

/-- The mic notice of a changed seat, to the Floor Controller (R73). -/
def Room.floorTold (r : Room) (n : Seat) (old new : Eff) : Room :=
  if old.micMuted = new.micMuted then r else r.floorMic n new.micMuted

/-- The mic mute notice of a changed seat, to its Pod Line controller (R74). -/
def Room.ringTold (r : Room) (n : Seat) (old new : Eff) : Room :=
  if old.kind = new.kind then r else r.tell n fun v => { v with mic := new.kind }

/-- The tone of a changed seat (R76). -/
def Room.toneTold (r : Room) (n : Seat) (old new : Eff) : Room :=
  if old.micMuted = new.micMuted then r else r.seatTone n (if new.micMuted then .muted else .live)

/-- MIC_STATE and SPEAKER_STATE of a changed seat (R75). -/
def Room.stateTold (r : Room) (n : Seat) (old new : Eff) : Room :=
  let mic := old.micMuted ≠ new.micMuted || old.micCause ≠ new.micCause || old.privacy ≠ new.privacy
    || old.self ≠ new.self
  let spk := old.spkMuted ≠ new.spkMuted || old.spkCause ≠ new.spkCause || old.feedback ≠ new.feedback
  let r := if mic then r.emit (.micState n new.micMuted new.micCause new.privacy new.self) else r
  if spk then r.emit (.speakerState n new.spkMuted new.spkCause new.feedback) else r

/-- The notices, tone and events of one seat whose effective mute changed from `old` to `new` (R72 to R76). -/
def Room.seatChanged (r : Room) (n : Seat) (old new : Eff) : Room :=
  (((((r.micTurned n old new).speakerTurned n old new).floorTold n old new).ringTold n old new).toneTold n old
    new).stateTold n old new

/-- The derivation of one seat: nothing where nothing changed. -/
def Room.deriveSeat (r : Room) (n : Seat) : Room :=
  let old := r.eff n
  let new := r.effOf n
  if old = new then r
  else
    let r := { r with mute := { r.mute with eff := r.mute.eff.set n new } }
    (r.seatChanged n old new).spellUpdate n

/-- The derivation of one direction of one link (R72, R75). -/
def Room.deriveWay (r : Room) (k : Link) (d : Dir) (old new : Bool) : Room :=
  if old = new then r else (r.mixLink k d new).emit (.linkMute k d new (linkCause new))

/-- The derivation of one link. -/
def Room.deriveLink (r : Room) (k : Link) : Room :=
  let old := r.mute.links.get k
  let new := r.linkEffOf k
  let r := { r with mute := { r.mute with links := r.mute.links.set k new } }
  (r.deriveWay k .send old.send new.send).deriveWay k .ret old.ret new.ret

/-- Effective mute derived afresh: seats in ascending order, then links (R71). -/
def Room.derive (r : Room) : Room := allLinks.foldl Room.deriveLink (allSeats.foldl Room.deriveSeat r)

/-! ## The Placed Claim Table (R60) -/

/-- The lowest claim number not in use. -/
def Mute.freeNumber (m : Mute) : Option (Fin 48) :=
  (List.finRange 48).find? fun i => m.table.all fun c => c.number ≠ i

/-- The record with a claimant, scope and direction. -/
def Mute.matching (m : Mute) (who : Claimant) (scope : Scope) (dir : Dir) : Option Claim :=
  m.table.find? fun c => c.who = who && c.scope = scope && c.dir = dir

/-- A new record at the end of the list (R60). -/
def Room.addClaim (r : Room) (number : Fin 48) (who : Claimant) (scope : Scope) (dir : Dir) (expiry : Option Nat) :
    Room :=
  { r with mute := { r.mute with
      table := r.mute.table ++ [⟨number, who, scope, dir, expiry, r.mute.stamp⟩]
      stamp := r.mute.stamp + 1 } }

/-- The record with a number leaves the table. -/
def Room.dropClaim (r : Room) (number : Fin 48) : Room :=
  { r with mute := { r.mute with table := r.mute.table.filter fun c => c.number ≠ number } }

/-- A room claim notice for a chair seat (R74). -/
def Room.roomView (r : Room) (n : Seat) (on : Bool) : Room := r.tell n fun v => { v with roomClaim := on }

/-- The records of a list leave the table, each with CLAIM_GONE, in placement order (R69). -/
def Room.goneAll (r : Room) (cs : List Claim) (reason : GoneReason) : Room :=
  cs.foldl (fun r c => (r.dropClaim c.number).emit (.claimGone c reason)) r

/-! ## What reaches the Arbiter -/

/-- A held press: the HELD tone and HELD_PRESS (R78). -/
def Room.heldPress (r : Room) (n : Seat) (button : Button) : Room :=
  (r.seatTone n .held).emit (.heldPress n button (r.eff n).micCause)

/-- A MIC press delivered for a seat (R57, R77). -/
def Room.micPress (r : Room) (n : Seat) : Room :=
  let was := (r.mseat n).self
  let r := (r.setMuteSeat n fun s => { s with self := !was }).derive
  if was && (r.eff n).micMuted then r.heldPress n .mic else r

/-- A talk release (R58): none for FREE, the cause for HELD. -/
def Room.talkRelease (r : Room) (n : Seat) : Room × Option Cause :=
  let r := (r.setMuteSeat n fun s => { s with self := false }).derive
  if (r.eff n).micMuted then (r.heldPress n .talk, some (r.eff n).micCause) else (r, none)

/-- A ROOM press delivered for a chair seat (R64, R65). -/
def Room.roomPress (r : Room) (n : Seat) : Room :=
  match r.mute.matching (.chair n) .members .mic with
  | some c => ((r.goneAll [c] .lifted).derive).roomView n false
  | none =>
    match r.mute.freeNumber with
    | some i => ((r.addClaim i (.chair n) .members .mic none).derive).roomView n true
    | none => (r.refuseLamp n).emit (.claimRefused n)

/-- A raise notice from the Feedback Monitor (R59). -/
def Room.fbRaise (r : Room) (n : Seat) : Room :=
  if (r.mseat n).presence = .present then (r.setMuteSeat n fun s => { s with feedback := true }).derive else r

/-- A clear notice from the Feedback Monitor (R59). -/
def Room.fbClear (r : Room) (n : Seat) : Room := (r.setMuteSeat n fun s => { s with feedback := false }).derive

/-- A privacy report (R56): ignored for a seat the Arbiter holds not PRESENT. -/
def Room.privacyReport (r : Room) (n : Seat) (on : Bool) : Room :=
  if (r.mseat n).presence = .present then (r.setMuteSeat n fun s => { s with privacy := on }).derive else r

/-- The privacy field of the record at a seat's running position, ON where there is none. -/
def Room.podPrivacy (r : Room) (n : Seat) : Bool :=
  match r.placeOf n with
  | none => true
  | some p => (r.podAt p).privacy

/-- The speaking and reported marks are cleared, and any spell ends, as R80 says of a re-seating. -/
def Room.clearMarks (r : Room) (n : Seat) : Room :=
  (r.setMuteSeat n fun s => { s with speaking := false, reported := false }).spellUpdate n

/-- A presence notice (R56, R59, R79). That it clears the reported mark with the speaking mark, of which R79 names the
speaking mark alone, is the model's choice (log 76). -/
def Room.mutePresence (r : Room) (n : Seat) (p : Presence) : Room :=
  let open_ := p = .present && !r.podPrivacy n
  let r := r.setMuteSeat n fun s =>
    if p = .present then { s with presence := p, privacy := if open_ then false else s.privacy }
    else { s with presence := p, privacy := true, feedback := false }
  (r.clearMarks n).derive

/-- A CHAIR claim whose chair seat no longer has role CHAIR (R81). -/
def Room.roleLost (r : Room) (c : Claim) : Bool :=
  match c.who with
  | .chair m => !r.isChair m
  | _ => false

/-- The check of R81 at the re-seated notice of a seat: the CHAIR claims of that seat (log 23). -/
def Room.checkChair (r : Room) (n : Seat) : Room :=
  match r.mute.table.filter fun c => c.who = .chair n && r.roleLost c with
  | [] => r
  | cs => (r.goneAll cs .roleLost).roomView n false

/-- A re-seated notice (R80). -/
def Room.muteReseated (r : Room) (n : Seat) : Room :=
  let privacy := r.presence n ≠ .present || r.podPrivacy n
  let r := r.setMuteSeat n fun s => { s with self := false, privacy := privacy }
  ((r.clearMarks n).checkChair n).derive

/-- A speech report (R79). -/
def Room.muteSpeech (r : Room) (n : Seat) (onset : Bool) : Room :=
  (r.setMuteSeat n fun s =>
    if onset then { s with speaking := true, reported := false } else { s with speaking := false }).spellUpdate n

/-- A link has left IDLE (R63). -/
def Room.linkLeftIdle (r : Room) (k : Link) : Room :=
  { r with mute := { r.mute with linkIdle := r.mute.linkIdle.set k false } }

/-- A link has entered IDLE: its FAR claims are removed (R63). -/
def Room.linkEnteredIdle (r : Room) (k : Link) : Room :=
  let r := { r with mute := { r.mute with linkIdle := r.mute.linkIdle.set k true } }
  (r.goneAll (r.mute.table.filter fun c => c.who = .far k) .linkEnded).derive

/-- A record's expiry reaches zero (R68); a record without an expiry, or no record, changes nothing. -/
def Room.claimExpiry (r : Room) (number : Fin 48) : Room :=
  match r.mute.table.find? fun c => c.number = number && c.expiry.isSome with
  | some c => (r.goneAll [c] .expired).derive
  | none => r

/-! ## Requests -/

/-- The scope and direction go together, and the class may have them (R61). -/
def permitted (who : Claimant) (scope : Scope) (dir : Dir) : Bool :=
  match who, scope, dir with
  | .room, .link _, .send => true
  | .room, .link _, .ret => true
  | .room, .link _, _ => false
  | .room, _, .mic => true
  | .room, _, .speaker => true
  | .far _, .seat _, .mic => true
  | .far _, .members, .mic => true
  | .chair _, .members, .mic => true
  | _, _, _ => false

/-- An expiry in seconds, 0 for NONE, as ms; the outer none is a range fault (R190). -/
def expiryOf (hi lo : Byte) : Option (Option Nat) :=
  let s := pairOf hi lo
  if s = 0 then some none else if s ≤ 3600 then some (some (s * 1000)) else none

/-- The claimant of a host request: ROOM or FAR (R62, R66). -/
def hostClaimant (cls identity : Byte) : Option Claimant :=
  match claimantOf cls identity with
  | some (.chair _) => none
  | w => w

/-- The link of a FAR claimant is IDLE as the Arbiter views it (R63). -/
def Mute.farIdle (m : Mute) : Claimant → Bool
  | .far k => m.linkIdle.get k
  | _ => false

/-- The expiry of the record with a number replaced (R62). -/
def Room.setExpiry (r : Room) (number : Fin 48) (expiry : Option Nat) : Room :=
  { r with mute := { r.mute with
      table := r.mute.table.map fun c => if c.number = number then { c with expiry := expiry } else c } }

/-- MUTE_PLACE once its fields are read (R62); the reply's second byte is 0 for existing, 1 for new (log 27). -/
def Room.placeClaim (r : Room) (who : Claimant) (scope : Scope) (dir : Dir) (expiry : Option Nat) : Room × Answer :=
  if r.mute.farIdle who then (r, bare .state)
  else
    match r.mute.matching who scope dir with
    | some c => (r.setExpiry c.number expiry, okWith [byteOf c.number.val, 0])
    | none =>
      match r.mute.freeNumber with
      | none => (r, bare .full)
      | some i => ((r.addClaim i who scope dir expiry).derive, okWith [byteOf i.val, 1])

/-- MUTE_PLACE (R62). -/
def reqMutePlace (body : List Byte) (r : Room) : Room × Answer :=
  match body with
  | [cls, identity, kind, index, dir, hi, lo] =>
    match hostClaimant cls identity, scopeOf kind index, dirOf dir, expiryOf hi lo with
    | some who, some scope, some dir, some expiry =>
      if permitted who scope dir then r.placeClaim who scope dir expiry else (r, bare .range)
    | _, _, _, _ => (r, bare .range)
  | _ => (r, bare .length)

/-- The place of a class in the order of authority among those that place claims (R55). -/
def Claimant.rank : Claimant → Nat
  | .room => 3
  | .chair _ => 2
  | .far _ => 1

/-- The chair seat of a CHAIR claim gets a room claim notice of no (R66). -/
def Room.liftView (r : Room) (who : Claimant) : Room :=
  match who with
  | .chair m => r.roomView m false
  | _ => r

/-- MUTE_LIFT once its fields are read and the record is looked up (R66). -/
def Room.liftClaim (r : Room) (lifter : Claimant) (force : Bool) (found : Option Claim) : Room × Answer :=
  match found with
  | none => (r, bare .absent)
  | some c =>
    if lifter = c.who || (force && c.who.rank < lifter.rank) then
      (((r.dropClaim c.number).derive).liftView c.who, okWith [byteOf c.number.val])
    else (r, ⟨.held, [c.who.cls.byte]⟩)

/-- The record a MUTE_LIFT names by number, or a range fault. -/
def Mute.named (m : Mute) (number : Byte) : Option (Option Claim) :=
  (counted 48 number).map fun i => m.table.find? fun c => c.number = i

/-- A direction is one that a scope has (section 4.3): SEND or RETURN for a link, MIC or SPEAKER for any other. -/
def Scope.has (sc : Scope) (d : Dir) : Bool :=
  match sc, d with
  | .link _, .send | .link _, .ret => true
  | .link _, _ => false
  | _, .mic | _, .speaker => true
  | _, _ => false

/-- The record a MUTE_LIFT names by class, identity, scope and direction, or a range fault for values that the table of
section 4.3 does not have (R66). That a scope or direction which the class may not have by R61 is no range fault, and names
no record, is the model's choice (log 79). -/
def Mute.described (m : Mute) (cls identity kind index dir : Byte) : Option (Option Claim) :=
  match claimantOf cls identity, scopeOf kind index, dirOf dir with
  | some who, some scope, some dir => if scope.has dir then some (m.matching who scope dir) else none
  | _, _, _ => none

/-- MUTE_LIFT with its lifter, force and named record. -/
def Room.lift (r : Room) (cls identity force : Byte) (found : Option (Option Claim)) : Room × Answer :=
  match hostClaimant cls identity, boolOf force, found with
  | some lifter, some force, some found => r.liftClaim lifter force found
  | _, _, _ => (r, bare .range)

/-- MUTE_LIFT (R66). -/
def reqMuteLift (body : List Byte) (r : Room) : Room × Answer :=
  match body with
  | [cls, identity, force, number] => r.lift cls identity force (r.mute.named number)
  | [cls, identity, force, cls', identity', kind, index, dir] =>
    r.lift cls identity force (r.mute.described cls' identity' kind index dir)
  | _ => (r, bare .length)

/-- MUTE_LIST (R83). -/
def reqMuteList (body : List Byte) (r : Room) : Room × Answer :=
  match body with
  | [start] =>
    if start.toNat < 48 then
      let shown := (r.mute.table.drop start.toNat).take 10
      (r, okWith ([byteOf r.mute.table.length, start, byteOf shown.length] ++ shown.flatMap Claim.bytes))
    else (r, bare .range)
  | _ => (r, bare .length)

/-- The numbers of some claims, as a list of varying length. -/
def claimNumbers (cs : List Claim) : List Byte := counting (cs.map fun c => byteOf c.number.val)

/-- What MUTE_READ carries of a seat (R84). -/
def Room.muteBytes (r : Room) (n : Seat) : List Byte :=
  let s := r.mseat n
  let e := r.eff n
  [(r.presence n).byte, boolByte s.privacy, boolByte s.self, boolByte s.feedback, boolByte e.micMuted, e.micCause.byte,
   e.kind.byte, boolByte e.spkMuted, e.spkCause.byte, boolByte s.spell]
  ++ claimNumbers (r.claimsOver n .mic) ++ claimNumbers (r.claimsOver n .speaker)

/-- The send-muted and return-muted states of a link with their causes. -/
def Room.linkMuteBytes (r : Room) (k : Link) : List Byte :=
  let e := r.mute.links.get k
  [boolByte e.send, (linkCause e.send).byte, boolByte e.ret, (linkCause e.ret).byte]

/-- The LINK claims of a link, in placement order. -/
def Room.claimsOnLink (r : Room) (k : Link) : List Claim := r.mute.table.filter fun c => c.scope = .link k

/-- MUTE_READ (R84): its first byte 0 for a seat, 1 for a link. -/
def reqMuteRead (body : List Byte) (r : Room) : Room × Answer :=
  match body with
  | [which, number] =>
    match which.toNat with
    | 0 =>
      match numbered 40 number with
      | some n => (r, okWith (r.muteBytes n))
      | none => (r, bare .range)
    | 1 =>
      match numbered 4 number with
      | some k => (r, okWith (r.linkMuteBytes k ++ claimNumbers (r.claimsOnLink k)))
      | none => (r, bare .range)
    | _ => (r, bare .range)
  | _ => (r, bare .length)

end Sys2Proof.Machine
end

