-- ==== Sys2Proof/Machine/Detect.lean ====
section
/-! DEFINITION. The Talk Detectors (chapter 3): levels, the decision of speech, the four states, restarts, settings and
requests. -/

namespace Sys2Proof.Machine

open Sys2Proof

/-! ## Levels (R43) -/

/-- The level is brought up to date with one frame's samples: the mean square of the last 10 ms (R43). -/
def Detector.hear (d : Detector) (energy : Nat) : Detector :=
  let energies := (energy :: d.energies).take 10
  { d with energies := energies, level := levelOfMean energies.sum 480 }

/-- The reference is brought up to date: the highest value of the last 30 ms (R43). A bus that is silence, by its gains,
empties the last 10 ms too, so that the reference is at -100.0 dB within 30 ms (log 54). -/
def Detector.hearBus (d : Detector) (silent : Bool) (energy : Nat) : Detector :=
  let energies := if silent then silentEnergies else (energy :: d.refEnergies).take 10
  let levels := (levelOfMean energies.sum 480 :: d.refLevels).take 30
  { d with refEnergies := energies, refLevels := levels, reference := levels.foldl max (-200) }

/-! ## The decision and the states (R44, R45) -/

/-- Speech is present (R44). -/
def Detector.present (d : Detector) : Bool :=
  d.noiseFloor + d.settings.onsetMargin * 1000 < d.level * 500
    && d.reference * 500 + d.settings.echoMargin * 1000 < d.level * 500

/-- One millisecond of the noise floor's movement toward the level: 6 dB per second upward, 20 dB per second downward,
stopping at the level (R44). -/
def floorStep (noise level : Int) : Int :=
  if noise < level then min level (noise + 6) else max level (noise - 20)

/-- The noise floor follows the level while speech is absent and no fall guard runs (R44). -/
def Detector.follow (d : Detector) (present : Bool) : Detector :=
  if present || d.fall.isSome then d else { d with noiseFloor := floorStep d.noiseFloor (d.level * 500) }

/-- A detector with what it reports: an onset (true), an end (false), or nothing. -/
abbrev Heard := Detector × Option Bool

/-- The onset is complete: SPEECH_ONSET, and the state is SPEECH (R45). What accumulated speech then reads is the model's
choice: 0 (log 57). -/
def Detector.onset (d : Detector) : Heard := ({ d with dstate := .speech, acc := 0, due := false }, some true)

/-- A RISING detector whose accumulated speech has reached the onset time (R45). -/
def Detector.reach (d : Detector) : Heard :=
  if d.rise.isNone then d.onset else ({ d with due := true }, none)

/-- The end is complete: SPEECH_END, and the state is SILENT. -/
def Detector.finish (d : Detector) : Heard := ({ d with dstate := .silent, endTimer := 0 }, some false)

/-- The table of R45. -/
def Detector.decide (d : Detector) (present : Bool) : Heard :=
  match d.dstate, present with
  | .silent, true => ({ d with dstate := .rising, acc := 0, due := false }, none)
  | .silent, false => (d, none)
  | .rising, true =>
    let d := { d with acc := min (d.acc + 1) d.settings.onsetTime }
    if d.settings.onsetTime ≤ d.acc then d.reach else (d, none)
  | .rising, false => ({ d with dstate := .silent, acc := 0, due := false }, none)
  | .speech, true => (d, none)
  | .speech, false => ({ d with dstate := .falling, endTimer := 0 }, none)
  | .falling, true => ({ d with dstate := .speech, endTimer := 0 }, none)
  | .falling, false =>
    let d := { d with endTimer := d.endTimer + 1 }
    if d.settings.endTime ≤ d.endTimer then d.finish else (d, none)

/-- One frame's level taken by the detector (R44, R50): nothing is decided while it is held or seeding. -/
def Detector.frame (d : Detector) (energy : Nat) : Heard :=
  let d := d.hear (if d.held then 0 else energy)
  if d.held then (d, none)
  else if d.seed.isSome then
    ({ d with seedLow := some (match d.seedLow with | none => d.level | some l => min l d.level) }, none)
  else
    let present := d.present
    (d.follow present).decide present

/-- A restart (R50), with whether the seat is now PRESENT. A detector that becomes held reads silence (log 16). -/
def Detector.restart (d : Detector) (present : Bool) : Detector :=
  let d := { d with dstate := .silent, acc := 0, due := false, endTimer := 0, rise := none, fall := none,
                    seedLow := none }
  if present then { d with held := false, seed := some 100 }
  else
    { d with held := true, seed := none, noiseFloor := -100000, energies := silentEnergies, level := -200 }

/-- The rise blank timer expires (R48). -/
def Detector.riseExpiry (d : Detector) : Heard :=
  if d.rise.isNone then (d, none)
  else
    let d := { d with rise := none }
    if d.dstate = .rising && d.due then d.onset else (d, none)

/-- The fall guard timer expires (R49). -/
def Detector.fallExpiry (d : Detector) : Detector := { d with fall := none }

/-- The seed timer expires: the floor is the lowest level measured since the restart (R50; log 18). -/
def Detector.seedExpiry (d : Detector) : Detector :=
  if d.seed.isNone then d
  else { d with seed := none, noiseFloor := (d.seedLow.getD d.level) * 500, seedLow := none }

/-- New settings for a detector (R52). -/
def Detector.retune (d : Detector) (s : DetSettings) : Heard :=
  let d := { d with settings := s }
  if d.held then (d, none)
  else
    match d.dstate with
    | .rising =>
      if s.onsetTime ≤ d.acc then { d with acc := s.onsetTime }.reach else ({ d with due := false }, none)
    | .falling => if s.endTime ≤ d.endTimer then d.finish else (d, none)
    | _ => (d, none)

/-! ## Reports (R46) -/

/-- One detector changed. -/
def Room.setDet (r : Room) (n : Seat) (f : Detector → Detector) : Room := { r with det := r.det.modify n f }

/-- A report goes to the Floor Controller and the Mute Arbiter (R46; log 4). -/
def Room.report (r : Room) (n : Seat) (onset : Bool) : Room := (r.floorSpeech n onset).muteSpeech n onset

/-- A detector moves, and its report, if any, is delivered. -/
def Room.runDet (r : Room) (n : Seat) (f : Detector → Heard) : Room :=
  let h := f (r.det.get n)
  let r := r.setDet n fun _ => h.1
  match h.2 with
  | none => r
  | some onset => r.report n onset


/-! ## Requests -/

/-- The six settings as DETECT_SET carries them, or none for a range fault (R52). -/
def detSettingsOf (onsetMargin echoMargin onsetTime endHi endLo riseHi riseLo fallHi fallLo : Byte) :
    Option DetSettings := do
  let onsetMargin ← within 3 30 onsetMargin.toNat
  let echoMargin ← within 0 30 echoMargin.toNat
  let onsetTime ← within 10 200 onsetTime.toNat
  let endTime ← within 100 1000 (pairOf endHi endLo)
  let rise ← within 0 500 (pairOf riseHi riseLo)
  let fall ← within 0 500 (pairOf fallHi fallLo)
  if fall ≤ rise then some ⟨onsetMargin, echoMargin, onsetTime, endTime, rise, fall⟩ else none

/-- What DETECT_READ carries (R53). -/
def Detector.bytes (d : Detector) : List Byte :=
  [boolByte d.held, d.dstate.byte] ++ signed2 d.level ++ signed2 ((d.noiseFloor + 250) / 500) ++ signed2 d.reference
  ++ [byteOf d.acc, boolByte d.due] ++ bytes2 d.endTimer ++ [byteOf (leftOf d.seed)] ++ bytes2 (leftOf d.rise)
  ++ bytes2 (leftOf d.fall) ++ d.settings.bytes

/-- DETECT_READ (R53). -/
def reqDetectRead (body : List Byte) (r : Room) : Room × Answer :=
  match body with
  | [seat] =>
    match numbered 40 seat with
    | some n => (r, okWith (r.det.get n).bytes)
    | none => (r, bare .range)
  | _ => (r, bare .length)

end Sys2Proof.Machine
end

