-- ==== Sys2Proof/Machine/Feedback.lean ====
section
/-! DEFINITION. The Feedback Monitor (chapter 8): windows, trips, the retry timer, presence and requests. -/

namespace Sys2Proof.Machine

open Sys2Proof

/-- The monitor's record of a seat. -/
def Room.fbSeat (r : Room) (n : Seat) : FbSeat := r.fb.seats.get n

/-- The record cleared as R166 lists, presence and speaker mark kept. -/
def FbSeat.cleared (s : FbSeat) : FbSeat :=
  { s with consecutive := 0, trips := 0, tripMode := none, tripRetry := none, flag := false, retryTimer := none,
           offset := 0 }

/-- A presence notice (R166). -/
def Room.fbPresence (r : Room) (n : Seat) (p : Presence) : Room :=
  let old := r.fbSeat n
  if p = .present then r.setFb n fun s => { s with presence := p }
  else
    let r := r.setFb n fun s => { s.cleared with presence := p }
    let r := if old.offset < 0 then r.mixOffset n 0 else r
    if old.tripped then r.emit (.releaseEv n .absent 0 0) else r

/-- Steps 1 and 2 of a trip (R162). -/
def FbSeat.counted (s : FbSeat) (set : FbSettings) : FbSeat :=
  let s := { s with consecutive := 0, trips := min 255 (s.trips + 1) }
  if s.trips = 1 then { s with tripMode := some set.mode, tripRetry := some set.retry } else s

/-- A trip in trip mode REPORT (R163): TRIP, and nothing else. That it carries 0 as its retry time is the model's choice
(log 62). -/
def Room.tripReport (r : Room) (n : Seat) (rehearsed : Bool) : Room :=
  let s := r.fbSeat n
  r.emit (.trip n s.trips .report s.offset 0 rehearsed)

/-- A trip in trip mode LATCH (R163). That its TRIP carries 0 as its retry time is the model's choice (log 62). -/
def Room.tripLatch (r : Room) (n : Seat) (rehearsed : Bool) : Room :=
  let s := r.fbSeat n
  ((r.emit (.trip n s.trips .latch s.offset 0 rehearsed)).setFb n fun s => { s with flag := true }).fbRaise n

/-- A trip in trip mode RETRY (R164). -/
def Room.tripRetry (r : Room) (n : Seat) (rehearsed : Bool) : Room :=
  let s := r.fbSeat n
  if s.trips ≤ 3 then
    let offset := s.offset - 6
    let seconds := s.tripRetry.getD 0
    let r := r.setFb n fun s => { s with offset := offset, flag := true, retryTimer := some (seconds * 1000) }
    ((r.emit (.trip n s.trips .retry offset seconds rehearsed)).mixOffset n offset).fbRaise n
  else
    let r := r.setFb n fun s => { s with flag := true }
    (r.emit (.latchedEv n s.trips s.offset rehearsed)).fbRaise n

/-- The action a trip of a record takes, its trip count already raised. -/
def FbSeat.action (s : FbSeat) : TripAction :=
  match s.tripMode with
  | some .latch => .latch
  | some .retry => if s.trips ≤ 3 then .retry else .latched
  | _ => .report

/-- A seat trips (R162). -/
def Room.trip (r : Room) (n : Seat) (rehearsed : Bool) : Room :=
  let set := r.fb.settings
  let r := r.setFb n fun s => s.counted set
  match (r.fbSeat n).action with
  | .report => r.tripReport n rehearsed
  | .latch => r.tripLatch n rehearsed
  | _ => r.tripRetry n rehearsed

/-- A window is hot (R161): the strongest band lies between 100 Hz and 12 kHz; levels in half-decibels, the peak ratio
in dB. A band lies there as its centre does, and a window whose strongest band lies elsewhere is not hot (log 70). -/
def hotWindow (broadband : Int) (centre : Nat) (peak : Int) (ratio : Nat) : Bool :=
  100 ≤ centre && centre ≤ 12000 && -120 ≤ broadband && broadband + 2 * ratio ≤ peak

/-- The monitor takes a frame of a seat's microphone audio into the window in progress (R161). -/
def FbSeat.hear (s : FbSeat) (frame : Samples) : FbSeat :=
  { s with window := s.window.map fun w => { w with frames := (frame :: w.frames).take w.length } }

/-- The broadband level of a window: the mean square of all its samples (R161). -/
def Window.broadband (w : Window) : Int := levelOfMean (w.frames.map energyOf).sum (48 * w.length)

/-- A seat's window ends with a hot window or one that is not (R161, R162); the next begins as it ends. -/
def Room.judgeWindow (r : Room) (n : Seat) (hot : Bool) : Room :=
  let set := r.fb.settings
  if hot then
    let r := r.setFb n fun s =>
      { s with window := some ⟨0, set.window, []⟩, consecutive := min 16 (s.consecutive + 1) }
    if set.filter ≤ (r.fbSeat n).consecutive then r.trip n false else r
  else r.setFb n fun s => { s with window := some ⟨0, set.window, []⟩, consecutive := 0 }

/-- A window in progress ends and is judged, its strongest band as given (R161; log 3, 46). -/
def Room.windowEnd (r : Room) (n : Seat) (centre : Nat) (peak : Int) : Room :=
  match (r.fbSeat n).window with
  | none => r
  | some w => r.judgeWindow n (hotWindow w.broadband centre peak r.fb.settings.ratio)

/-- The retry timer of a RESTING seat expires (R165). -/
def Room.retryExpiry (r : Room) (n : Seat) : Room :=
  let s := r.fbSeat n
  if s.flag && s.retryTimer.isSome then
    let r := r.setFb n fun s => { s with flag := false, retryTimer := none }
    (r.emit (.releaseEv n .retry s.trips s.offset)).fbClear n
  else r

/-! ## Requests -/

/-- The five settings as FEEDBACK_SET carries them, or none for a range fault (R169). -/
def fbSettingsOf (mode window ratio filter retry : Byte) : Option FbSettings := do
  let mode ← fbModeOf mode
  let window ← within 20 100 window.toNat
  let ratio ← within 6 30 ratio.toNat
  let retry ← within 1 30 retry.toNat
  if [2, 4, 8, 16].contains filter.toNat then some ⟨mode, window, ratio, filter.toNat, retry⟩ else none

/-- The settings replaced; every seat's record is left as it stands (R169). -/
def Room.setFeedback (r : Room) (s : FbSettings) : Room := { r with fb := { r.fb with settings := s } }

/-- FEEDBACK_SET (R169). -/
def reqFeedbackSet (body : List Byte) (r : Room) : Room × Answer :=
  match body with
  | [mode, window, ratio, filter, retry] =>
    match fbSettingsOf mode window ratio filter retry with
    | some s => (r.setFeedback s, bare .ok)
    | none => (r, bare .range)
  | _ => (r, bare .length)

/-- A tripped seat is released by request (R168). -/
def Room.release (r : Room) (n : Seat) : Room :=
  let old := r.fbSeat n
  let r := r.setFb n fun s => { s.cleared with window := none }
  let r := r.emit (.releaseEv n .request 0 0)
  let r := if old.offset < 0 then r.mixOffset n 0 else r
  if old.flag then r.fbClear n else r

/-- FEEDBACK_RELEASE (R168): the reply carries the trip count and offset the seat had. -/
def reqFeedbackRelease (body : List Byte) (r : Room) : Room × Answer :=
  match body with
  | [seat] =>
    match numbered 40 seat with
    | none => (r, bare .range)
    | some n =>
      let s := r.fbSeat n
      if s.tripped && s.presence = .present then (r.release n, okWith [byteOf s.trips, signedByte s.offset])
      else (r, bare .state)
  | _ => (r, bare .length)

/-- What FEEDBACK_READ carries of one seat (R171). The flag goes by its place in the table of R159: 0 for
set, 1 for clear (R188). -/
def FbSeat.bytes (s : FbSeat) : List Byte :=
  [s.status, if s.live then 0 else 1, s.presence.byte, byteOf s.consecutive]
  ++ (match s.window with
    | some w => [byteOf w.elapsed, byteOf w.length]
    | none => [0, 0])
  ++ [byteOf s.trips, tripModeByte s.tripMode, byteOf (s.tripRetry.getD 0), if s.flag then 0 else 1]
  ++ bytes2 (leftOf s.retryTimer) ++ [signedByte s.offset]

/-- What FEEDBACK_READ with ALL carries of one seat (R171). -/
def FbSeat.brief (s : FbSeat) : List Byte := [s.status, byteOf s.trips, signedByte s.offset]

/-- FEEDBACK_READ (R171): seat 0 is ALL. -/
def reqFeedbackRead (body : List Byte) (r : Room) : Room × Answer :=
  match body with
  | [seat] =>
    if seat = 0 then (r, okWith (r.fb.settings.bytes ++ r.fb.seats.toList.flatMap FbSeat.brief))
    else
      match numbered 40 seat with
      | some n => (r, okWith (r.fb.settings.bytes ++ (r.fbSeat n).bytes))
      | none => (r, bare .range)
  | _ => (r, bare .length)

/-- A seat that is WATCHING trips at once, its window discarded (R170). -/
def Room.rehearseTrip (r : Room) (n : Seat) : Room := (r.setFb n fun s => { s with window := none }).trip n true

/-- FEEDBACK_REHEARSE (R170): the reply carries the action taken and the trip count after. -/
def reqFeedbackRehearse (body : List Byte) (r : Room) : Room × Answer :=
  match body with
  | [seat] =>
    match numbered 40 seat with
    | none => (r, bare .range)
    | some n =>
      if (r.fbSeat n).watching then
        let after := (r.fbSeat n).counted r.fb.settings
        (r.rehearseTrip n, okWith [after.action.byte, byteOf after.trips])
      else (r, bare .state)
  | _ => (r, bare .length)

end Sys2Proof.Machine
end

