-- ==== Sys2Proof/Machine/SeatMap.lean ====
section
/-! DEFINITION. The Seat Map unit (chapter 1): presence and re-seated notices, the swap, the quiet point, groups,
loading and reading the maps. -/

namespace Sys2Proof.Machine

open Sys2Proof

/-! ## Notices (R3, R4) -/

/-- A presence notice goes to the four blocks R3 names (log 7). -/
def Room.presenceNotice (r : Room) (n : Seat) (p : Presence) : Room :=
  let r := (r.floorPresence n p).mutePresence n p
  (r.setDet n fun d => d.restart (p = .present)).fbPresence n p

/-- A re-seated notice goes to the Floor Controller, the Mute Arbiter and the seat's detector (R4, R50). -/
def Room.reseatedNotice (r : Room) (n : Seat) : Room :=
  let r := (r.floorReseated n).muteReseated n
  let present := r.presence n = .present
  r.setDet n fun d => d.restart present

/-- A seat is re-seated: its running position or role changed (section 1.3). -/
def reseatedIn (old new : Tab 40 Entry) (n : Seat) : Bool :=
  (old.get n).place ≠ (new.get n).place || (old.get n).role ≠ (new.get n).role

/-- The re-seated seats, in ascending order. -/
def reseatedSeats (old new : Tab 40 Entry) : List Seat := allSeats.filter (reseatedIn old new)

/-- The notices of one re-seated seat: re-seated, then presence if it changed (R4). -/
def Room.announce (r : Room) (n : Seat) (was : Presence) : Room :=
  let r := r.reseatedNotice n
  let now := r.presence n
  if now = was then r else r.presenceNotice n now

/-- A position whose seat changed: its blink ends, and its indications are recomposed from the new seat or held OFF
(R4, R35, R37). -/
def Room.reposition (r : Room) (p : PodPos) : Room :=
  (r.setPod p fun pod => { pod with blink := none }).refresh p

/-- Every pod position, line 1 first. -/
def allPlaces : List PodPos := (List.finRange 2).flatMap fun l => allPositions.map fun p => ⟨l, p⟩

/-- The positions whose seat differs between two maps. -/
def movedPlaces (old new : Tab 40 Entry) : List PodPos := allPlaces.filter fun p => seatAt old p ≠ seatAt new p

/-- The Seat Map unit takes new maps: the whole exchange, the notices of the re-seated seats in ascending order, then the
positions (R4; log 40). -/
def Room.reseat (r : Room) (m : SeatMapUnit) : Room :=
  let old := r.map.running
  let was := allSeats.map fun n => (n, r.presence n)
  let seats := reseatedSeats old m.running
  let r := seats.foldl (fun r n => r.announce n ((was.find? fun w => w.1 = n).elim .vacant (·.2))) { r with map := m }
  (movedPlaces old m.running).foldl Room.reposition r

/-- The Mix Engine is told of a new running map: the class levels of the pairs whose near relation changed ramp over the
mute ramp, and their terms are judged with the gates as the re-seated notices have left them (R121). -/
def Room.takeNear (r : Room) : Room := (r.aimMics r.muteRamp).judge

/-! ## The swap (R16, R17) -/

/-- The seat keeps its entries under a lock handling. -/
def keptSeat (running : Tab 40 Entry) (lock : LockMode) (n : Seat) : Bool := lock = .keep && (running.get n).locked

/-- A position is named by the entry of a kept seat in a map (R16). -/
def namedByKept (running side : Tab 40 Entry) (lock : LockMode) (p : Option PodPos) : Bool :=
  p.isSome && allSeats.any fun n => keptSeat running lock n && (side.get n).place = p

/-- An entry that loses its position to a kept seat. -/
def Entry.unseated (e : Entry) : Entry := { e with place := none }

/-- The new running entry of a seat (R16). -/
def swappedRunning (running staged : Tab 40 Entry) (lock : LockMode) (n : Seat) : Entry :=
  if keptSeat running lock n then running.get n
  else if namedByKept running running lock (staged.get n).place then (staged.get n).unseated
  else staged.get n

/-- The new staged entry of a seat (R16). -/
def swappedStaged (running staged : Tab 40 Entry) (lock : LockMode) (n : Seat) : Entry :=
  if keptSeat running lock n then staged.get n
  else if namedByKept running staged lock (running.get n).place then (running.get n).unseated
  else running.get n

/-- A seat to which a correction of R16 applies is displaced. -/
def displaced (running staged : Tab 40 Entry) (lock : LockMode) (n : Seat) : Bool :=
  !keptSeat running lock n
    && (namedByKept running running lock (staged.get n).place || namedByKept running staged lock (running.get n).place)

/-- The two maps after a swap; any pending record is removed and its timer stopped (R16, R17). -/
def SeatMapUnit.swapped (m : SeatMapUnit) (lock : LockMode) : SeatMapUnit :=
  { m with
    running := Tab.ofFn (swappedRunning m.running m.staged lock)
    staged := Tab.ofFn (swappedStaged m.running m.staged lock)
    switch := none }

/-- The swap: the exchange, the notices, the near relation (R121; log 69), and MAP_SWITCHED last (R16, R17). -/
def Room.swap (r : Room) (lock : LockMode) (quiet : Bool) : Room :=
  let old := r.map
  let new := old.swapped lock
  let count := (reseatedSeats old.running new.running).length
  let lost := allSeats.countP (displaced old.running old.staged lock)
  (r.reseat new).takeNear.emit (.mapSwitched quiet count lost)

/-! ## The quiet point (R8, R15) -/

/-- The quiet flag (R8). -/
def Room.setQuiet (r : Room) (quiet : Bool) : Room := { r with map := { r.map with quiet := quiet } }

/-- A QUIET (true) or BUSY notice: the flag, and on QUIET a pending switch is carried out (R8, R15). -/
def Room.quietNotice (r : Room) (quiet : Bool) : Room :=
  let r := r.setQuiet quiet
  match r.map.switch with
  | some s => if quiet then r.swap s.lock true else r
  | none => r

/-- What one event leaves under way is settled: its QUIET and BUSY notices in order (log 5), then those a swap gave rise
to, which find no switch pending; and no ramp begun stays without its step notices (R132). -/
def Room.settle (r : Room) : Room :=
  let r := r.box.foldl Room.quietNotice { r with box := [] }
  (r.box.foldl Room.setQuiet { r with box := [] }).judge

/-! ## Detector settings (R52), each seat whole before the next -/

/-- The seats a DETECT_SET names: one, or every seat for ALL, which is carried as 0 (R188). -/
def namedSeats (b : Byte) : Option (List Seat) :=
  if b = 0 then some allSeats else (numbered 40 b).map fun n => [n]

/-- A seat takes new settings, with what its report leaves under way (R52). -/
def Room.retuneSeat (r : Room) (n : Seat) (s : DetSettings) : Room := (r.runDet n fun d => d.retune s).settle

/-- Seats take new settings, each whole before the next, in ascending order (R52). -/
def Room.retuneAll (r : Room) (seats : List Seat) (s : Seat → DetSettings) : Room :=
  seats.foldl (fun r n => r.retuneSeat n (s n)) r

/-- DETECT_SET (R52). -/
def reqDetectSet (body : List Byte) (r : Room) : Room × Answer :=
  match body with
  | [seat, onsetMargin, echoMargin, onsetTime, endHi, endLo, riseHi, riseLo, fallHi, fallLo] =>
    match namedSeats seat,
        detSettingsOf onsetMargin echoMargin onsetTime endHi endLo riseHi riseLo fallHi fallLo with
    | some seats, some s => (r.retuneAll seats fun _ => s, bare .ok)
    | _, _ => (r, bare .range)
  | _ => (r, bare .length)

/-! ## Requests of the Seat Map unit -/

/-- A run of seats from a first seat, or none for a range fault (R5, R6). -/
def seatRun (first count : Byte) : Option (List Seat) :=
  let f := first.toNat
  let c := count.toNat
  if 1 ≤ f ∧ f ≤ 40 ∧ 1 ≤ c ∧ c ≤ 40 ∧ f + c ≤ 41 then
    some (allSeats.filter fun n => f ≤ numberOf n && numberOf n < f + c)
  else none

/-- Entries read from a message, three bytes each (R189). -/
def rawEntries : List Byte → List RawEntry
  | a :: b :: c :: rest => ⟨a, b, c⟩ :: rawEntries rest
  | _ => []

/-- A map with some seats' entries replaced. -/
def loaded (map : Tab 40 Entry) (seats : List (Seat × Entry)) : Tab 40 Entry :=
  seats.foldl (fun m s => m.set s.1 s.2) map

/-- Two entries of a map name one position, one of them of a loaded seat (R5). -/
def conflicted (map : Tab 40 Entry) (seats : List Seat) : Bool :=
  seats.any fun n => (map.get n).place.isSome
    && allSeats.any fun m => m ≠ n && (map.get m).place = (map.get n).place

/-- MAP_LOAD with its entries read, in the order of R5's checks. -/
def Room.loadMap (r : Room) (seats : List Seat) (entries : List Entry) : Room × Answer :=
  if r.map.switch.isSome then (r, bare .busy)
  else
    let staged := loaded r.map.staged (seats.zip entries)
    if conflicted staged seats then (r, bare .conflict)
    else ({ r with map := { r.map with staged := staged } }, bare .ok)

/-- MAP_LOAD (R5, R189). -/
def reqMapLoad (body : List Byte) (r : Room) : Room × Answer :=
  match body with
  | first :: count :: rest =>
    if rest.length ≠ 3 * count.toNat then (r, bare .length)
    else
      match seatRun first count, (rawEntries rest).mapM entryOf with
      | some seats, some entries => r.loadMap seats entries
      | _, _ => (r, bare .range)
  | _ => (r, bare .length)

/-- MAP_DUMP (R6): map 0 is RUNNING, 1 is STAGED. -/
def reqMapDump (body : List Byte) (r : Room) : Room × Answer :=
  match body with
  | [which, first, count] =>
    match boolOf which, seatRun first count with
    | some staged, some seats =>
      let map := if staged then r.map.staged else r.map.running
      (r, okWith ([which, first, count] ++ seats.flatMap fun n => (map.get n).bytes))
    | _, _ => (r, bare .range)
  | _ => (r, bare .length)

/-- The wait field of MAP_SWITCH: the inner none is DEFAULT (R9, R10). -/
def waitOf (b : Byte) : Option (Option Nat) :=
  if b.toNat = 255 then some none else (within 0 60 b.toNat).map some

/-- A new switch wait limit, unless the field is DEFAULT (R9). -/
def Room.setWait (r : Room) (wait : Option Nat) : Room :=
  match wait with
  | none => r
  | some w => { r with map := { r.map with waitLimit := w } }

/-- A pending-switch record with the wait timer started at the limit, or none for 0 (R9, R12, R13). -/
def Room.pendSwitch (r : Room) (lock : LockMode) : Room :=
  let timer := if r.map.waitLimit = 0 then none else some (r.map.waitLimit * 1000)
  { r with map := { r.map with switch := some ⟨lock, timer⟩ } }

/-- MAP_SWITCH with when NOW (R11, R13). -/
def Room.switchNow (r : Room) (lock : LockMode) : Room := r.swap lock r.map.quiet

/-- MAP_SWITCH with when QUIET (R12, R13). -/
def Room.switchQuiet (r : Room) (lock : LockMode) : Room :=
  if r.map.quiet then r.swap lock true else r.pendSwitch lock

/-- MAP_SWITCH with when CANCEL, a switch pending (R14). -/
def Room.cancelSwitch (r : Room) : Room := { r with map := { r.map with switch := none } }

/-- MAP_SWITCH (R10 to R14). -/
def reqMapSwitch (body : List Byte) (r : Room) : Room × Answer :=
  match body with
  | [when_, lock, wait] =>
    match when_.toNat, lockOf lock, waitOf wait with
    | 0, some lock, some wait => ((r.setWait wait).switchNow lock, bare .ok)
    | 1, some lock, some wait => ((r.setWait wait).switchQuiet lock, bare .ok)
    | 2, _, some wait =>
      if r.map.switch.isSome then ((r.setWait wait).cancelSwitch, bare .ok) else (r, bare .state)
    | _, _, _ => (r, bare .range)
  | _ => (r, bare .length)

/-- The kind of pod at a seat's running position: MEMBER, CHAIR, or 2 for NONE (R7). -/
def Room.podKindAt (r : Room) (n : Seat) : Byte :=
  match r.placeOf n with
  | none => 2
  | some p => if (r.podAt p).present then podKindByte (r.podAt p).kind else 2

/-- The pending switch as SEAT_CHECK gives it: pending, lock handling, seconds left (R7; log 26, 72; a wait timer at zero
whose expiry is not yet taken is log 71). -/
def SeatMapUnit.switchBytes (m : SeatMapUnit) : List Byte :=
  match m.switch with
  | none => [0, 0, 0]
  | some s => [1, s.lock.byte, byteOf (ceilDiv (leftOf s.timer) 1000)]

/-- SEAT_CHECK (R7). -/
def reqSeatCheck (body : List Byte) (r : Room) : Room × Answer :=
  match body with
  | [seat] =>
    match numbered 40 seat with
    | some n =>
      (r, okWith ((r.map.running.get n).bytes ++ (r.map.staged.get n).bytes
        ++ [(r.presence n).byte, r.podKindAt n] ++ r.map.switchBytes))
    | none => (r, bare .range)
  | _ => (r, bare .length)

/-- A group replaced, with its group notice if it changed (R18, R82). -/
def Room.setGroup (r : Room) (g : Group) (set : Tab 40 Bool) : Room :=
  if r.map.groups.get g = set then r
  else { r with map := { r.map with groups := r.map.groups.set g set } }.derive

/-- The set of some seats. -/
def seatSet (seats : List Seat) : Tab 40 Bool := Tab.ofFn fun n => seats.contains n

/-- GROUP_SET (R18): 0 to 40 seats. -/
def reqGroupSet (body : List Byte) (r : Room) : Room × Answer :=
  match body with
  | group :: seats =>
    if 40 < seats.length then (r, bare .length)
    else
      match numbered 8 group, seats.mapM (numbered 40) with
      | some g, some seats => (r.setGroup g (seatSet seats), bare .ok)
      | _, _ => (r, bare .range)
  | [] => (r, bare .length)

/-- GROUP_READ (R18). -/
def reqGroupRead (body : List Byte) (r : Room) : Room × Answer :=
  match body with
  | [group] =>
    match numbered 8 group with
    | some g => (r, okWith (counting ((seatsOf (r.map.groups.get g)).map numByte)))
    | none => (r, bare .range)
  | _ => (r, bare .length)

/-- The expiry of the wait timer (R15): a forced swap. -/
def Room.waitExpiry (r : Room) : Room :=
  match r.map.switch with
  | some ⟨lock, some _⟩ => r.swap lock false
  | _ => r

end Sys2Proof.Machine
end

