-- ==== Sys2Proof/Machine/FloorRequest.lean ====
section
/-! DEFINITION. The Floor Controller's presses and requests (R94, R101 to R104, R107, R111, R112, R116). -/

namespace Sys2Proof.Machine

open Sys2Proof

/-- A seat is a direct candidate (R101 step 1). -/
def Room.direct (r : Room) (n : Seat) : Bool :=
  r.chairFree n
    || (r.floor.settings.autoGrant && r.floor.hasRoom && r.floor.queue.all fun m => (r.fseat m).muted)

/-- A request to speak that finds the seat free: granted or queued (R101 step 3). -/
def Room.askedFree (r : Room) (n : Seat) (direct : Bool) : Room :=
  if direct then r.admitSeat n .granted else r.queueSeat n

/-- A TALK press for a CLOSED seat in REQUEST mode (R101). -/
def Room.talkAsk (r : Room) (n : Seat) : Room :=
  let direct := r.direct n
  if !direct && r.floor.queue.length = 16 then r.emit (.refusedEv n .queueFull)
  else
    match r.talkRelease n with
    | (r, some _) => r
    | (r, none) => r.askedFree n direct

/-- A TALK press delivered for a seat (R94, R101, R102). -/
def Room.talkPress (r : Room) (n : Seat) : Room :=
  r.floorEvent fun r =>
    match r.floor.settings.mode with
    | .request =>
      match (r.fseat n).gate with
      | .queued => r.closeSeat n .cancelled
      | .granted => r.closeSeat n .done
      | _ => r.talkAsk n
    | _ => (r.talkRelease n).1

/-- A chair's NEXT press (R103). -/
def Room.nextPress (r : Room) (n : Seat) : Room :=
  if r.floor.settings.mode ≠ .request then r
  else
    r.floorEvent fun r =>
      match r.floor.grantable with
      | none => (r.emit (.refusedEv n .noRequest)).refuseLamp n
      | some m =>
        if r.floor.hasRoom then r.admitSeat m .granted
        else (r.emit (.refusedEv n .noSlot)).refuseLamp n

/-- CLEAR at one seat in AUTO mode: a MEMBER seat is closed (R107). -/
def Room.clearMember (r : Room) (n : Seat) : Room := if r.isChair n then r else r.closeSeat n .cleared

/-- CLEAR at one seat in REQUEST mode: a GRANTED seat of role MEMBER is closed (R107). -/
def Room.clearGranted (r : Room) (n : Seat) : Room :=
  if !r.isChair n && (r.fseat n).gate = .granted then r.closeSeat n .cleared else r

/-- The seats that CLEAR closes in REQUEST mode: the GRANTED members, then the whole Request Queue (R107). That the members
go in ascending seat order here too is the model's choice (log 58). -/
def Room.clearRequests (r : Room) : Room :=
  let r := allSeats.foldl Room.clearGranted r
  r.closeAll r.floor.queue .cleared

/-- The floor is cleared of its members (R107). -/
def Room.clearFloor (r : Room) : Room :=
  if r.floor.standby then r
  else
    match r.floor.settings.mode with
    | .opened => r
    | .auto => r.floorEvent fun r => allSeats.foldl Room.clearMember r
    | .request => r.floorEvent Room.clearRequests

/-- The GRANTED seat of role MEMBER in the Open List with the oldest admission (R104). -/
def Room.bumpable (r : Room) : Option Seat :=
  r.floor.openList.find? fun m => !r.isChair m && (r.fseat m).gate = .granted

/-- A grant for the host, with the place in the Open List it gives (R103, R104). -/
def Room.grantFor (r : Room) (n : Seat) (bump : Option Seat) : Room × Answer :=
  let act := fun (r : Room) =>
    (match bump with
      | some m => r.closeSeat m .bumped
      | none => r).admitSeat n .granted
  (r.floorEvent act, okWith [byteOf (placeIn (act r).floor.openList n)])

/-- FLOOR_GRANT (R104). -/
def reqFloorGrant (body : List Byte) (r : Room) : Room × Answer :=
  match body with
  | [seat, bump] =>
    match numbered 40 seat, boolOf bump with
    | some n, some bump =>
      if r.floor.settings.mode ≠ .request || r.floor.standby then (r, bare .state)
      else if (r.fseat n).gate = .granted then (r, bare .state)
      else if (r.fseat n).muted then (r, bare .held)
      else if r.chairFree n || r.floor.hasRoom then r.grantFor n none
      else if bump && r.bumpable.isSome then r.grantFor n r.bumpable
      else (r, bare .full)
    | _, _ => (r, bare .range)
  | _ => (r, bare .length)

/-- The place FLOOR_QUEUE's reply carries: in the Open List or the Request Queue, 0 outside both (R111). -/
def Room.askedPlace (r : Room) (n : Seat) : Nat := placeIn r.floor.openList n + placeIn r.floor.queue n

/-- FLOOR_QUEUE for a seat that may ask (R111, R101). -/
def Room.hostAsk (r : Room) (n : Seat) : Room × Answer :=
  let direct := r.direct n
  if !direct && r.floor.queue.length = 16 then (r, bare .full)
  else
    match r.talkRelease n with
    | (r, some _) => (r, bare .held)
    | (r, none) =>
      let asked := r.askedFree n direct
      (r.floorEvent fun r => r.askedFree n direct,
        okWith [(asked.fseat n).gate.byte, byteOf (asked.askedPlace n)])

/-- FLOOR_QUEUE (R111). -/
def reqFloorQueue (body : List Byte) (r : Room) : Room × Answer :=
  match body with
  | [seat] =>
    match numbered 40 seat with
    | none => (r, bare .range)
    | some n =>
      if r.floor.settings.mode ≠ .request || r.floor.standby then (r, bare .state)
      else if (r.fseat n).gate = .queued || (r.fseat n).gate = .granted then (r, bare .state)
      else r.hostAsk n
  | _ => (r, bare .length)

/-- FLOOR_DROP (R112). -/
def reqFloorDrop (body : List Byte) (r : Room) : Room × Answer :=
  match body with
  | [seat] =>
    match numbered 40 seat with
    | none => (r, bare .range)
    | some n =>
      if r.floor.settings.mode = .opened || (r.fseat n).gate = .closed then (r, bare .state)
      else (r.floorEvent fun r => r.closeSeat n .dropped, bare .ok)
  | _ => (r, bare .length)

/-- FLOOR_CLEAR (R107). -/
def reqFloorClear (body : List Byte) (r : Room) : Room × Answer :=
  match body with
  | [] => (r.clearFloor, bare .ok)
  | _ => (r, bare .length)

/-- A seat's timer as FLOOR_READ gives it: none, hold in ms, idle in whole seconds rounded up (R116; log 26). -/
def SeatTimer.bytes : SeatTimer → List Byte
  | .off => [0, 0, 0]
  | .hold ms => 1 :: bytes2 ms
  | .idle ms => 2 :: bytes2 (ceilDiv ms 1000)

/-- One seat of a FLOOR_READ block (R116; the codes of held and chair-free are log 72). -/
def Room.floorSeatBytes (r : Room) (n : Seat) : List Byte :=
  let s := r.fseat n
  [s.gate.byte, boolByte s.speaking, boolByte s.held, boolByte s.kept, boolByte (r.chairFree n)] ++ s.timer.bytes

/-- What FLOOR_READ carries (R116). That the quiet condition, 'holding or not', goes as 1 for holding and 0 for not is
the model's choice, as is the code of the other marks no table calls yes or no (log 72). -/
def Room.floorBytes (r : Room) (first : Byte) : List Byte :=
  let f := r.floor
  f.settings.bytes ++ [boolByte f.standby, boolByte r.quietNow, byteOf f.count]
  ++ (byteOf f.openList.length
      :: f.openList.flatMap fun n => [numByte n, (r.fseat n).gate.byte, boolByte (r.fseat n).kept])
  ++ counting (f.waitList.map numByte)
  ++ (byteOf f.queue.length :: f.queue.flatMap fun n => [numByte n, boolByte (r.fseat n).held])
  ++ (first :: (allSeats.filter fun n => first.toNat ≤ numberOf n && numberOf n < first.toNat + 20).flatMap
      r.floorSeatBytes)

/-- FLOOR_READ (R116): the block of twenty seats from 1 or 21. -/
def reqFloorRead (body : List Byte) (r : Room) : Room × Answer :=
  match body with
  | [first] =>
    if first.toNat = 1 || first.toNat = 21 then (r, okWith (r.floorBytes first)) else (r, bare .range)
  | _ => (r, bare .length)

end Sys2Proof.Machine
end

