-- ==== Sys2Proof/Machine/Link.lean ====
section
/-! DEFINITION. The Link Controller (chapter 7): the clock monitors, the link state machine, the call and standby, and
its requests; and the completion of a gain ramp, which the link state machine waits for (R127, R130). -/

namespace Sys2Proof.Machine

open Sys2Proof

/-- A link record changed. -/
def Room.setLink (r : Room) (k : Link) (f : LinkRec → LinkRec) : Room :=
  { r with link := { r.link with links := r.link.links.modify k f } }

/-- A link record. -/
def Room.linkRec (r : Room) (k : Link) : LinkRec := r.link.links.get k

/-- The Link Controller sends a link-state target: a different target starts a ramp, an equal one nothing (R143). -/
def Room.sendTarget (r : Room) (k : Link) (up : Bool) (ms : Nat) : Room :=
  if (r.linkRec k).up = up then r
  else (r.setLink k fun l => { l with up := up, outstanding := true }).ramp (.linkState k) (upGain up) ms

/-- A link counts for the call (R152). -/
def LinkSt.counts : LinkSt → Bool
  | .joined | .held => true
  | _ => false

/-! ## The call (R152 to R155) -/

/-- The call state changes, with CALL_STATE (R152). -/
def Room.setCall (r : Room) (new : CallSt) (cause : CallCause) (subject : Nat) : Room :=
  let old := r.link.call
  { r with link := { r.link with
      call := new
      timer := if new = CallSt.idle then delayTimer r.link.delay else none } }.emit (.callStateEv subject new old cause)

/-- A line enters or leaves standby. -/
def Room.setDark (r : Room) (l : LineNo) (dark : Bool) : Room :=
  { r with lines := r.lines.modify l fun x => { x with dark := dark } }

/-- The standby notice at one position (R38): its blink ends; on entry its indications are OFF, on exit its view is read
afresh. -/
def Room.standbyPod (r : Room) (dark : Bool) (p : PodPos) : Room :=
  let r := r.setPod p fun pod => { pod with blink := none }
  if dark then r.compose p else if (r.podAt p).present then r.refresh p else r

/-- The standby notice of a Pod Line controller: indications OFF and blinks ended on entry, every view read afresh on
exit (R38). -/
def Room.lineStandby (r : Room) (l : LineNo) (dark : Bool) : Room :=
  allPositions.foldl (fun r p => r.standbyPod dark ⟨l, p⟩) (r.setDark l dark)

/-- The room enters standby (R154). -/
def Room.enterStandby (r : Room) : Room :=
  (((r.setCall .standby .delay 0).floorRest.mixRest).lineStandby 0 true).lineStandby 1 true

/-- The room wakes (R155). -/
def Room.wake (r : Room) (new : CallSt) (cause : CallCause) (subject : Nat) : Room :=
  (((r.setCall new cause subject).floorWake.mixWake).lineStandby 0 false).lineStandby 1 false

/-- A wake request for a consumed press (R153, R155). -/
def Room.wakePress (r : Room) (n : Seat) : Room :=
  if r.link.call = .standby then r.wake .idle .press (numberOf n) else r.activity

/-- The call state derived afresh after a change of link k (R152). -/
def Room.deriveCall (r : Room) (k : Link) : Room :=
  let up := allLinks.any fun j => (r.linkRec j).st.counts
  match r.link.call, up with
  | .idle, true => r.setCall .live .link (numberOf k)
  | .standby, true => r.wake .live .link (numberOf k)
  | .live, false => r.setCall .idle .link (numberOf k)
  | _, _ => r

/-- The standby timer, which runs while the call is IDLE, expires (R153, R154). -/
def Room.standbyExpiry (r : Room) : Room := if r.link.timer.isSome && r.link.call = .idle then r.enterStandby else r

/-! ## The link state machine (R144 to R149) -/

/-- A link changes state, with LINK_STATE (R150). -/
def Room.setLinkSt (r : Room) (k : Link) (st : LinkSt) (phase : Option Phase) (reason : LinkReason) : Room :=
  let old := (r.linkRec k).st
  (r.setLink k fun l => { l with st := st, phase := phase, joinTimer := none }).emit
    (.linkStateEv k st old reason)

/-- The join ramp begins: phase RAMP, target 0 dB over 100 ms (R145). -/
def Room.joinRamp (r : Room) (k : Link) : Room :=
  (r.setLink k fun l => { l with phase := some .ramp, joinTimer := none }).sendTarget k true 100

/-- A join begins (R144). -/
def Room.join (r : Room) (k : Link) : Room :=
  let r := if r.link.call = .standby then r.wake .idle .join (numberOf k) else r
  let r := r.linkLeftIdle k
  let r := r.setLinkSt k .joining (some .wait) .request
  if (r.linkRec k).locked then r.joinRamp k
  else r.setLink k fun l => { l with joinTimer := some 2000 }

/-- A lock notice (R145, R149). -/
def Room.lockNotice (r : Room) (k : Link) : Room :=
  let r := r.setLink k fun l => { l with locked := true, noEdge := 0, outBand := 0 }
  match (r.linkRec k).st, (r.linkRec k).phase with
  | .joining, some .wait => r.joinRamp k
  | .fault, _ => (r.setLinkSt k .joining (some .ramp) .lock).joinRamp k
  | _, _ => r

/-- A link goes to FAULT for want of its clock (R149). -/
def Room.clockFault (r : Room) (k : Link) : Room :=
  ((r.sendTarget k false 5).setLinkSt k .fault none .clockLost).deriveCall k

/-- A loss notice (R149). -/
def Room.lossNotice (r : Room) (k : Link) : Room :=
  let r := r.setLink k fun l => { l with locked := false, qual := 0, noEdge := 0, outBand := 0 }
  match (r.linkRec k).st, (r.linkRec k).phase with
  | .joined, _ => r.clockFault k
  | .held, _ => r.clockFault k
  | .joining, some .ramp => r.clockFault k
  | _, _ => r

/-- The join timer expires in JOINING WAIT (R145). -/
def Room.joinExpiry (r : Room) (k : Link) : Room :=
  let l := r.linkRec k
  if l.joinTimer.isSome && l.st = .joining && l.phase = some .wait then r.setLinkSt k .fault none .noLock else r

/-- A hold (R146). -/
def Room.hold (r : Room) (k : Link) : Room := (r.sendTarget k false 50).setLinkSt k .held none .request

/-- A resume (R147). -/
def Room.resume (r : Room) (k : Link) : Room := (r.sendTarget k true 50).setLinkSt k .joined none .request

/-- A leave (R148): LEAVING while the component is still to fall, else IDLE at once. That the call is then derived before
the link's claims go is the model's choice (log 60). -/
def Room.leave (r : Room) (k : Link) : Room :=
  let r := (r.setLink k fun l => { l with joinTimer := none }).sendTarget k false 100
  if (r.linkRec k).outstanding then (r.setLinkSt k .leaving none .request).deriveCall k
  else ((r.setLinkSt k .idle none .request).deriveCall k).linkEnteredIdle k

/-- The completion notice of link k's link-state ramp (R143, R145, R148). -/
def Room.linkDone (r : Room) (k : Link) : Room :=
  let r := r.setLink k fun l => { l with outstanding := false }
  match (r.linkRec k).st, (r.linkRec k).phase with
  | .joining, some .ramp => (r.setLinkSt k .joined none .rampDone).deriveCall k
  | .leaving, _ => (r.setLinkSt k .idle none .rampDone).linkEnteredIdle k
  | _, _ => r

/-! ## The clock monitor (R142) -/

/-- A measured rate is good: within 0.5 percent of 48 kHz. -/
def goodRate (rate : Nat) : Bool := 47760 ≤ rate && rate ≤ 48240

/-- The counts of a monitor after one measurement. -/
def LinkRec.measured (l : LinkRec) (rate : Option Nat) : LinkRec :=
  match rate with
  | none => { l with rate := none, qual := 0, noEdge := min 2 (l.noEdge + 1), outBand := 0 }
  | some v =>
    if goodRate v then { l with rate := some v, qual := min 50 (l.qual + 1), noEdge := 0, outBand := 0 }
    else { l with rate := some v, qual := 0, noEdge := 0, outBand := min 50 (l.outBand + 1) }

/-- A link record after one measurement, with the samples it brought (R141, R142). The good count of a LOCKED port stays
(log 51). -/
def LinkRec.clocked (l : LinkRec) (reading : Option PortReading) : LinkRec :=
  let m := { l.measured (reading.map (·.rate)) with inbound := (reading.map (·.inbound)).getD [] }
  if l.locked then { m with qual := l.qual } else m

/-- The clock measurement of 1 ms (R142), with the lock or loss notice it gives rise to (log 33). -/
def Room.measure (r : Room) (k : Link) (reading : Option PortReading) : Room :=
  let r := r.setLink k fun l => l.clocked reading
  let l := r.linkRec k
  if l.locked then
    if 2 ≤ l.noEdge || 50 ≤ l.outBand then r.lossNotice k else r
  else if 50 ≤ l.qual then r.lockNotice k
  else r

/-! ## Requests -/

/-- A request that names a link: RANGE outside 1-4. -/
def onLink (body : List Byte) (r : Room) (f : Link → Room × Answer) : Room × Answer :=
  match body with
  | [link] =>
    match numbered 4 link with
    | some k => f k
    | none => (r, bare .range)
  | _ => (r, bare .length)

/-- LINK_JOIN (R144). -/
def reqLinkJoin (body : List Byte) (r : Room) : Room × Answer :=
  onLink body r fun k =>
    match (r.linkRec k).st with
    | .idle => (r.join k, bare .ok)
    | .leaving => (r, bare .busy)
    | _ => (r, bare .state)

/-- LINK_LEAVE (R148). -/
def reqLinkLeave (body : List Byte) (r : Room) : Room × Answer :=
  onLink body r fun k =>
    match (r.linkRec k).st with
    | .leaving => (r, bare .busy)
    | .idle => (r, bare .state)
    | _ => (r.leave k, bare .ok)

/-- LINK_HOLD (R146). -/
def reqLinkHold (body : List Byte) (r : Room) : Room × Answer :=
  onLink body r fun k =>
    if (r.linkRec k).st = .joined then (r.hold k, bare .ok) else (r, bare .state)

/-- LINK_RESUME (R147). -/
def reqLinkResume (body : List Byte) (r : Room) : Room × Answer :=
  onLink body r fun k =>
    if (r.linkRec k).st = .held then (r.resume k, bare .ok) else (r, bare .state)

/-- The latest measured rate as a deviation from 48 kHz in steps of 0.1%, to the nearest, half a step upward, held within
-127 to +127; -128 for NONE (R142, R188; log 34). -/
def rateByte : Option Nat → Byte
  | none => signedByte (-128)
  | some v => signedByte (max (-127) (min 127 (((v : Int) - 48000 + 24) / 48)))

/-- The standby timer in whole seconds, rounded up, 0 when it does not run. -/
def LinkUnit.seconds (u : LinkUnit) : Nat := ceilDiv (leftOf u.timer) 1000

/-- What LINK_READ carries (R151; log 26, 28). -/
def Room.linkBytes (r : Room) (k : Link) : List Byte :=
  let l := r.linkRec k
  let c := r.mix.linkState.get k
  let index := (Source.far k).index.getD 0
  [l.st.byte, (l.phase.map Phase.byte).getD 0, boolByte l.locked, rateByte l.rate, byteOf l.qual]
  ++ bytes2 (leftOf l.joinTimer)
  ++ [gainByte c.current, gainByte c.target, byteOf c.left, boolByte l.outstanding]
  ++ r.linkMuteBytes k
  ++ claimNumbers (r.mute.table.filter fun c => c.who = .far k) ++ claimNumbers (r.claimsOnLink k)
  ++ [signedByte (r.mix.settings.srcTrim.get index), signedByte (r.mix.settings.busTrim.get (Bus.send k).index),
      r.link.call.byte, byteOf r.link.delay]
  ++ bytes2 r.link.seconds

/-- LINK_READ (R151). -/
def reqLinkRead (body : List Byte) (r : Room) : Room × Answer :=
  onLink body r fun k => (r, okWith (r.linkBytes k))

/-- A new standby delay (R156): with the call IDLE the timer starts afresh or stops. -/
def Room.setDelay (r : Room) (delay : Nat) : Room :=
  { r with link := { r.link with
      delay := delay
      timer := if r.link.call = .idle then delayTimer delay else r.link.timer } }

/-- CALL_SET (R156). -/
def reqCallSet (body : List Byte) (r : Room) : Room × Answer :=
  match body with
  | [delay] =>
    match within 0 120 delay.toNat with
    | some d => (r.setDelay d, okWith [r.link.call.byte])
    | none => (r, bare .range)
  | _ => (r, bare .length)

/-- CALL_WAKE's effect (R157). -/
def Room.callWake (r : Room) : Room := if r.link.call = .standby then r.wake .idle .request 0 else r.activity

/-- CALL_WAKE (R157). -/
def reqCallWake (body : List Byte) (r : Room) : Room × Answer :=
  match body with
  | [] =>
    let r := r.callWake
    (r, okWith (r.link.call.byte :: bytes2 r.link.seconds))
  | _ => (r, bare .length)

/-! ## The completion of a ramp (R130) -/

/-- The notices a completed ramp calls for: the link's completion (R127), the monitor's OFF (R160), a tone player's
end (R133). -/
def Room.rampNotice (r : Room) (id : CompId) : Room :=
  match id with
  | .linkState k => r.linkDone k
  | .speakerMute n => if (r.mix.speakerMute.get n).isOff then r.fbOff n else r
  | .envelope n =>
    if (r.mix.envelope.get n).isOff then { r with mix := { r.mix with players := r.mix.players.set n none } } else r
  | _ => r

/-- A component's ramp completes and it holds its target (R130); a component with no ramp in flight is left as it is. -/
def Room.rampComplete (r : Room) (id : CompId) : Room :=
  let c := r.mix.comp id
  if c.ramp.isNone then r
  else { r with mix := r.mix.setComp id ⟨c.target, none⟩ }.rampNotice id

end Sys2Proof.Machine
end

