-- ==== Sys2Proof/Machine/PodLine.lean ====
section
/-! DEFINITION. The Pod Line controllers (chapter 2): loss and return, scanning and probing, the upstream frame, presses,
and their requests. -/

namespace Sys2Proof.Machine

open Sys2Proof

/-- One line changed. -/
def Room.setLine (r : Room) (l : LineNo) (f : Line → Line) : Room := { r with lines := r.lines.modify l f }

/-- One line. -/
def Room.line (r : Room) (l : LineNo) : Line := r.lines.get l

/-! ## Line state and the probe timer (R23, R29) -/

/-- The line state outside a scan, by the count of present records. -/
def Line.rest (l : Line) : LineState := if l.count = 0 then .down else .up

/-- The line state takes a value, with LINE_STATE on a change (R23). -/
def Room.setLineState (r : Room) (l : LineNo) (st : LineState) : Room :=
  if (r.line l).lstate = st then r
  else (r.setLine l fun x => { x with lstate := st }).emit (.lineState l st)

/-- Outside a scan the state follows the count crossing zero (R23). -/
def Room.followCount (r : Room) (l : LineNo) : Room :=
  if (r.line l).lstate = .scanning then r else r.setLineState l (r.line l).rest

/-- The probe timer starts as the probe condition comes to hold and stops as it ceases (R29). -/
def Line.probeCheck (l : Line) : Line :=
  if l.probing then (if l.probeTimer.isSome then l else { l with probeTimer := some 500 })
  else { l with probeTimer := none }

/-- The probe timer follows the probe condition. -/
def Room.checkProbe (r : Room) (l : LineNo) : Room := r.setLine l Line.probeCheck

/-! ## Loss and return (R26, R30) -/

/-- A record that is not present (section 2.2); its kind is kept. -/
def Pod.gone (p : Pod) : Pod :=
  { p with present := false, privacy := true, bad := 0, ring := .off, talk := .off, room := .off, blink := none }

/-- A pod is lost (R26); then LINE_STATE and the probe timer (log 25), and what the loss leaves under way. -/
def Room.losePod (r : Room) (p : PodPos) (cause : LossCause) : Room :=
  let seat := seatAt r.map.running p
  let r := (r.setPod p Pod.gone).emit (.podLost p cause seat)
  let r := match seat with
    | some n => r.presenceNotice n .absent
    | none => r
  ((r.followCount p.line).checkProbe p.line).settle

/-- The pods of a list of positions that are present are lost, each whole before the next. -/
def Room.loseAll (r : Room) (l : LineNo) (ps : List Pos) (cause : LossCause) : Room :=
  ps.foldl (fun r p => if (r.podAt ⟨l, p⟩).present then r.losePod ⟨l, p⟩ cause else r) r

/-- A pod is found (R30); then LINE_STATE and the probe timer (log 25), and what the find leaves under way. -/
def Room.findPod (r : Room) (p : PodPos) (kind : PodKind) (privacy : Bool) : Room :=
  let seat := seatAt r.map.running p
  let r := r.setPod p fun pod => { pod with present := true, kind := kind, privacy := privacy, bad := 0 }
  let r := r.emit (.podFound p kind privacy seat)
  let r := match seat with
    | some n => (r.presenceNotice n .present).privacyReport n privacy
    | none => r
  (((r.refresh p).followCount p.line).checkProbe p.line).settle

/-! ## Scanning and probing (R27 to R29) -/

/-- Enumeration ends: LINE_STATE, SCAN_DONE, and the probe timer (R28). -/
def Room.endScan (r : Room) (l : LineNo) : Room :=
  let r := r.setLine l fun x => { x with scan := none }
  let r := r.setLineState l (r.line l).rest
  (r.emit (.scanDone l (r.line l).count)).checkProbe l

/-- A scan begins (R27). -/
def Room.startScan (r : Room) (l : LineNo) : Room :=
  let r := r.setLine l fun x => { x with rehearsal := none, probe := none, probeTimer := none }
  let r := r.setLineState l .scanning
  (r.loseAll l allPositions .scan).setLine l fun x => { x with scan := some ⟨0, 20⟩ }

/-- The next position outward, none beyond position 20. -/
def nextPos (p : Pos) : Option Pos := if h : p.val + 1 < 20 then some ⟨p.val + 1, h⟩ else none

/-- A scan step's valid answer: the pod is found, and enumeration moves on or ends (R28). -/
def Room.scanAnswer (r : Room) (p : PodPos) (a : EnumAnswer) : Room :=
  let r := r.findPod p a.kind a.privacy
  match nextPos p.pos with
  | some q => r.setLine p.line fun x => { x with scan := some ⟨q, 20⟩ }
  | none => r.endScan p.line

/-- The answer field (R22): an answer from the addressed position that passes its check and that no rehearsal
silences. -/
def Line.hears (l : Line) (at_ : Pos) (a : EnumAnswer) : Bool := a.passes && a.pos = at_ && !l.deaf at_

/-- The answer field of an upstream frame is taken (R28, R29). -/
def Room.takeAnswer (r : Room) (l : LineNo) (answer : Option EnumAnswer) : Room :=
  let x := r.line l
  match answer, x.scan, x.probe with
  | some a, some e, _ => if x.hears e.pos a then r.scanAnswer ⟨l, e.pos⟩ a else r
  | some a, none, some e =>
    if x.hears e.pos a then
      (r.setLine l fun x => { x with probe := none }).findPod ⟨l, e.pos⟩ a.kind a.privacy
    else r
  | _, _, _ => r

/-- No valid answer within 20 ms (R28, R29). -/
def Room.enumTimeout (r : Room) (l : LineNo) : Room :=
  if (r.line l).scan.isSome then r.endScan l else r.setLine l fun x => { x with probe := none }

/-- The probe timer expires: a probe of the target, and the timer again while the condition holds (R29). -/
def Room.probeExpiry (r : Room) (l : LineNo) : Room :=
  if (r.line l).probeTimer.isNone then r
  else
    r.setLine l fun x =>
      { x with
        probe := x.probeTarget.map fun p => ⟨p, 20⟩
        probeTimer := if x.probing then some 500 else none }

/-- A rehearsal ends (R40). -/
def Room.rehearsalEnd (r : Room) (l : LineNo) : Room := r.setLine l fun x => { x with rehearsal := none }

/-- A room lamp blink ends: the lamp returns to its composed value (R37). -/
def Room.blinkEnd (r : Room) (p : PodPos) : Room :=
  if (r.podAt p).blink.isNone then r else (r.setPod p fun pod => { pod with blink := none }).compose p

/-! ## The upstream frame (R24, R25, R31 to R34; log 24) -/

/-- The slot of a present position is good (R24). -/
def Line.goodSlot (l : Line) (f : UpFrame) (p : Pos) : Bool :=
  let s := f.slots.get p
  s.passes && s.status.kind = (l.pods.get p).kind && !l.dropped p

/-- The slot check of one position that was present as the frame came (R24). -/
def Room.checkSlot (r : Room) (l : LineNo) (good : Bool) (p : Pos) : Room :=
  if !(r.podAt ⟨l, p⟩).present then r
  else if good then r.setPod ⟨l, p⟩ fun pod => { pod with bad := 0 }
  else
    let r := r.setPod ⟨l, p⟩ fun pod => { pod with bad := pod.bad + 1 }
    if (r.line l).lostLimit ≤ (r.podAt ⟨l, p⟩).bad then r.losePod ⟨l, p⟩ .slot else r

/-- A terminator report that passes its check is kept (R22, R25); a report beyond 20 cannot be made. -/
def Line.hearTerm (l : Line) (t : TermReport) : Line := if t.passes then { l with termReported := min 20 t.value } else l

/-- The present records beyond the effective terminator are lost (R25). -/
def Room.loseBeyond (r : Room) (l : LineNo) : Room :=
  r.loseAll l (allPositions.filter fun p => (r.line l).effTerm < numberOf p) .brk

/-- The microphone audio of a line's positions in a frame: a good slot's samples, silence elsewhere (R24). -/
def Line.hearAudio (l : Line) (f : UpFrame) (good : List Pos) : Line :=
  { l with audio := Tab.ofFn fun p => if good.contains p then (f.slots.get p).samples else silence }

/-- The program inputs of the 1 ms (section 6.1; log 15). -/
def Room.hearProgram (r : Room) (x : Tab 2 Samples) : Room := { r with mix := { r.mix with program := x } }

/-- The seats a frame of a line brings up to date: those the line serves, and on line 1 those with no position
(log 15). -/
def Room.seatsOn (r : Room) (l : LineNo) : List Seat :=
  allSeats.filter fun n =>
    match r.placeOf n with
    | some p => p.line = l
    | none => l = 0

/-- The monitor's window of a seat takes a frame of the seat's microphone audio (R2, R161). -/
def Room.hearWindow (r : Room) (n : Seat) : Room :=
  let frame := r.micFrame n
  { r with fb := { r.fb with seats := r.fb.seats.modify n fun s => s.hear frame } }

/-- A seat's reference takes the 1 ms of bus Ln that goes out in the seat's slot (R43). -/
def Room.hearLoud (r : Room) (n : Seat) : Room :=
  let energy := energyOf (r.busFrame (.loud n))
  let silent := r.mix.silentBus n
  r.setDet n fun d => d.hearBus silent energy

/-- One seat takes a frame: the monitor's window, the detector's reference, then its level, on which it decides
(R43 to R45, R161). That the reference is brought up to date before the level is the model's choice (log 56). -/
def Room.audio (r : Room) (n : Seat) : Room :=
  let energy := energyOf (r.micFrame n)
  (((r.hearWindow n).hearLoud n).runDet n fun d => d.frame energy).settle

/-- A seat takes a frame as its line brings it: a seat whose pod this frame's answer has just found takes its reference
alone, since the pod's first slot is in the frame after (R24, R30, R43), and every other seat takes its samples. -/
def Room.audioOf (r : Room) (found : PodPos → Bool) (n : Seat) : Room :=
  match r.placeOf n with
  | some p => if found p then r.hearLoud n else r.audio n
  | none => r.audio n

/-- The positions that hold a pod now and held none in a room before. -/
def Room.foundSince (r before : Room) (p : PodPos) : Bool := (r.podAt p).present && !(before.podAt p).present

/-- A press of a chair console's button (R32, R33). -/
def Room.chairPress (r : Room) (p : PodPos) (n : Seat) (button : Button) (act : Room → Room) : Room :=
  match (r.podAt p).kind with
  | .member => r
  | .chair => if r.isChair n then act r else r.emit (.roleMismatch n button p)

/-- A press taken outside standby is delivered (R32, R33). -/
def Room.deliver (r : Room) (p : PodPos) (n : Seat) (button : Button) : Room :=
  match button with
  | .mic => r.micPress n
  | .talk => r.talkPress n
  | .room => r.chairPress p n .room fun r => r.roomPress n
  | .next => r.chairPress p n .next fun r => r.nextPress n
  | .clear => r.chairPress p n .clear Room.clearFloor

/-- A press in a good slot (R2, R32, R34): discarded where no seat is served, a wake request in standby, else floor
activity and its delivery. -/
def Room.press (r : Room) (p : PodPos) (button : Button) : Room :=
  match seatAt r.map.running p with
  | none => r
  | some n => (if (r.line p.line).dark then r.wakePress n else (r.activity.deliver p n button)).settle

/-- The buttons a status record reports, in the order they are taken (R32). -/
def pressesOf (s : StatusRecord) : List Button :=
  (if s.mic then [.mic] else []) ++ (if s.talk then [.talk] else []) ++ (if s.room then [.room] else [])
    ++ (if s.next then [.next] else []) ++ (if s.clear then [.clear] else [])

/-- A changed privacy switch is recorded and reported (R31). -/
def Room.hearPrivacy (r : Room) (p : PodPos) (on : Bool) : Room :=
  if (r.podAt p).privacy = on then r
  else
    let r := r.setPod p fun pod => { pod with privacy := on }
    match seatAt r.map.running p with
    | some n => (r.privacyReport n on).settle
    | none => r

/-- The status record of a good slot (R31, R32), its pod still present. That its privacy switch is taken before its
presses is the model's choice (log 55). -/
def Room.hearStatus (r : Room) (p : PodPos) (s : StatusRecord) : Room :=
  if !(r.podAt p).present then r
  else (pressesOf s).foldl (fun r b => r.press p b) (r.hearPrivacy p s.privacy)

/-- The positions whose slot of a frame is good (R24). -/
def Line.goodSlots (l : Line) (f : UpFrame) : List Pos :=
  allPositions.filter fun p => (l.pods.get p).present && l.goodSlot f p

/-- The checks of an upstream frame: its slots in ascending order, then its terminator report (R24, R25). -/
def Room.checkFrame (r : Room) (l : LineNo) (f : UpFrame) : Room :=
  let x := r.line l
  let present := allPositions.filter fun p => (x.pods.get p).present
  let good := x.goodSlots f
  let r := present.foldl (fun r p => r.checkSlot l (good.contains p) p) r
  (r.setLine l fun x => x.hearTerm f.term).loseBeyond l

/-- The good slots of an upstream frame whose pods its checks leave present. -/
def Room.keptSlots (r : Room) (l : LineNo) (f : UpFrame) : List Pos :=
  ((r.line l).goodSlots f).filter fun p => ((r.checkFrame l f).podAt ⟨l, p⟩).present

/-- The checks of an upstream frame with its samples and the program inputs held, as its seats then take them (R24, R43;
log 15, 24). -/
def Room.hearFrame (r : Room) (l : LineNo) (f : UpFrame) : Room :=
  ((r.checkFrame l f).setLine l fun x => x.hearAudio f (r.keptSlots l f)).hearProgram f.program

/-- An upstream frame of a line (R24, R25, R28 to R34, R43; the order of its parts is log 24). Where one of its parts
makes the floor quiet with a switch pending, the swap is carried out there, and the parts after it, this same frame's
audio among them, go by the new map: that R166's 'frame after the swap' may be that frame is the model's choice
(log 74). -/
def Room.upstream (r : Room) (l : LineNo) (f : UpFrame) : Room :=
  let heard := r.hearFrame l f
  let answered := heard.takeAnswer l f.answer
  let found := answered.foundSince heard
  let taken := (answered.seatsOn l).foldl (fun r n => r.audioOf found n) answered
  (r.keptSlots l f).foldl (fun r p => r.hearStatus ⟨l, p⟩ (f.slots.get p).status) taken

/-! ## Requests (R27, R39 to R41) -/

/-- New line settings: the probe timer, then the pods at or above the lost limit (R39). That the probe condition is
checked before the losses, where one request changes both settings, is the model's choice (log 77). -/
def Room.setLineSettings (r : Room) (l : LineNo) (s : LineSettings) : Room :=
  let r := (r.setLine l fun x => { x with expected := s.expected, lostLimit := s.lostLimit }).checkProbe l
  r.loseAll l (allPositions.filter fun p => s.lostLimit ≤ ((r.line l).pods.get p).bad) .slot

/-- LINE_SET (R39). -/
def reqLineSet (body : List Byte) (r : Room) : Room × Answer :=
  match body with
  | [line, expected, lostLimit] =>
    match numbered 2 line, within 0 20 expected.toNat, within 2 32 lostLimit.toNat with
    | some l, some e, some m => (r.setLineSettings l ⟨e, m⟩, bare .ok)
    | _, _, _ => (r, bare .range)
  | _ => (r, bare .length)

/-- LINE_SCAN (R27). -/
def reqLineScan (body : List Byte) (r : Room) : Room × Answer :=
  match body with
  | [line] =>
    match numbered 2 line with
    | none => (r, bare .range)
    | some l => if (r.line l).lstate = .scanning then (r, bare .busy) else (r.startScan l, bare .ok)
  | _ => (r, bare .length)

/-- A rehearsal starts (R40): a BREAK loses the pods from the named position outward at once. -/
def Room.startRehearsal (r : Room) (l : LineNo) (x : Rehearsal) : Room :=
  let r := r.setLine l fun line => { line with rehearsal := some x }
  match x.mode with
  | .drop => r
  | .brk => r.loseAll l (allPositions.filter fun p => x.pos.val ≤ p.val) .brk

/-- LINE_REHEARSE (R40). -/
def reqLineRehearse (body : List Byte) (r : Room) : Room × Answer :=
  match body with
  | [line, position, mode, hi, lo] =>
    match numbered 2 line, numbered 20 position, rehearseModeOf mode, within 10 10000 (pairOf hi lo) with
    | some l, some p, some m, some ms =>
      if (r.line l).lstate = .scanning || (r.line l).rehearsal.isSome then (r, bare .busy)
      else (r.startRehearsal l ⟨m, p, ms⟩, bare .ok)
    | _, _, _, _ => (r, bare .range)
  | _ => (r, bare .length)

/-- A pod record as LINE_READ gives it, with the seat served (R41). -/
def Room.podBytes (r : Room) (p : PodPos) : List Byte :=
  let pod := r.podAt p
  [boolByte pod.present, podKindByte pod.kind, boolByte pod.privacy, byteOf pod.bad, pod.ring.byte, pod.talk.byte,
   pod.room.byte, optNum (seatAt r.map.running p)]

/-- The probe target and the time left, or NONE with 0 (R41, R188). -/
def Line.probeBytes (l : Line) : List Byte :=
  match l.probeTimer with
  | some left => optNum l.probeTarget :: bytes2 left
  | none => [0, 0, 0]

/-- The rehearsal as LINE_READ gives it: mode, position, ms left, with position 0 for none (log 26). -/
def Line.rehearsalBytes (l : Line) : List Byte :=
  match l.rehearsal with
  | some x => [x.mode.byte, numByte x.pos] ++ bytes2 x.left
  | none => [0, 0, 0, 0]

/-- What LINE_READ carries (R41). -/
def Room.lineBytes (r : Room) (l : LineNo) : List Byte :=
  let x := r.line l
  [x.lstate.byte, byteOf x.expected, byteOf x.lostLimit, byteOf x.termReported, byteOf x.effTerm]
  ++ x.probeBytes ++ [optNum (x.scan.map (·.pos))] ++ x.rehearsalBytes
  ++ allPositions.flatMap fun p => r.podBytes ⟨l, p⟩

/-- LINE_READ (R41). -/
def reqLineRead (body : List Byte) (r : Room) : Room × Answer :=
  match body with
  | [line] =>
    match numbered 2 line with
    | some l => (r, okWith (r.lineBytes l))
    | none => (r, bare .range)
  | _ => (r, bare .length)

end Sys2Proof.Machine
end

