-- ==== Sys2Proof/Machine/Scene.lean ====
section
/-! DEFINITION. The Scene Store (chapter 9): slots, saves, erases, recalls, verifies, the start slot, and start-up
loading. -/

namespace Sys2Proof.Machine

open Sys2Proof

/-- The settings in force as a scene with a name (R174, R176). -/
def Room.captured (r : Room) (name : List Byte) : Scene where
  name := name
  running := r.map.running
  staged := r.map.staged
  groups := r.map.groups
  waitLimit := r.map.waitLimit
  lines := r.lines.map fun l => ⟨l.expected, l.lostLimit⟩
  detectors := r.det.map fun d => d.settings
  floor := r.floor.settings
  mix := r.mix.settings
  feedback := r.fb.settings
  delay := r.link.delay

/-- A user slot of the store, none for slot 0. -/
def userSlot (slot : Fin 13) : Option (Fin 12) := if h : slot.val = 0 then none else some ⟨slot.val - 1, by omega⟩

/-- The number of a user slot. -/
def slotNumber (i : Fin 12) : Nat := i.val + 1

/-- The state of a slot; slot 0 is VALID (R173). -/
def Store.stateOf (s : Store) (slot : Fin 13) : SlotState :=
  match userSlot slot with
  | none => .valid
  | some i => (s.slots.get i).state

/-- What a slot stores; slot 0 holds the factory scene with its check (R173). -/
def Store.imageOf (s : Store) (slot : Fin 13) : Option Image :=
  match userSlot slot with
  | none => some factoryScene.image
  | some i => (s.slots.get i).image

/-- A user slot marked BAD. -/
def Store.spoil (s : Store) (slot : Fin 13) : Store :=
  match userSlot slot with
  | none => s
  | some i => { s with slots := s.slots.modify i fun u => { u with state := .bad } }

/-- A slot is examined (R174): a VALID slot whose check passes gives its scene; one whose check fails is marked BAD; an
EMPTY or BAD slot gives nothing. Every check of slot 0 passes (R173). -/
def Store.examine (s : Store) (slot : Fin 13) : Store × Option Scene :=
  match userSlot slot with
  | none => (s, some factoryScene)
  | some _ =>
    match s.stateOf slot, s.imageOf slot with
    | .valid, some i => if i.passes then (s, some i.scene) else (s.spoil slot, none)
    | .valid, none => (s.spoil slot, none)
    | _, _ => (s, none)

/-- The store changed. -/
def Room.setStore (r : Room) (f : Store → Store) : Room := { r with store := f r.store }

/-- The operation state is not IDLE (R175). -/
def Room.storeBusy (r : Room) : Bool := r.store.op.isSome

/-! ## Saving and erasing (R176 to R178) -/

/-- A printable character, from space to tilde (R174). -/
def printable (b : Byte) : Bool := 0x20 ≤ b.toNat && b.toNat ≤ 0x7E

/-- A name a scene may have: 0 to 16 printable characters (R176). -/
def nameFits (name : List Byte) : Bool := name.length ≤ 16 && name.all printable

/-- A save is accepted: the snapshot, the slot marked BAD, SAVING (R176). -/
def Room.startSave (r : Room) (slot : Fin 12) (name : List Byte) : Room :=
  let image := (r.captured name).image
  r.setStore fun s =>
    { s with slots := s.slots.modify slot fun u => { u with state := .bad }, op := some (.saving slot image) }

/-- SCENE_SAVE (R176). -/
def reqSceneSave (body : List Byte) (r : Room) : Room × Answer :=
  match body with
  | slot :: name =>
    match counted 13 slot, nameFits name with
    | some s, true =>
      if r.storeBusy then (r, bare .busy)
      else
        match userSlot s with
        | none => (r, bare .guarded)
        | some i => (r.startSave i name, okWith [slot])
    | _, _ => (r, bare .range)
  | [] => (r, bare .length)

/-- A save in flight completes (R177), the slot reading back as it was programmed or not. What a BAD slot then holds is the
model's choice: what it held before (log 63). -/
def Room.saveDone (r : Room) (good : Bool) : Room :=
  match r.store.op with
  | some (.saving slot image) =>
    let passed := good && image.passes
    let r := r.setStore fun s =>
      { s with
        slots := if passed then s.slots.set slot ⟨.valid, some image⟩ else s.slots.modify slot fun u => { u with state := .bad }
        op := none }
    r.emit (.saveDone (slotNumber slot) passed image.check)
  | _ => r

/-- SCENE_ERASE (R178). -/
def reqSceneErase (body : List Byte) (r : Room) : Room × Answer :=
  match body with
  | [slot] =>
    match counted 13 slot with
    | none => (r, bare .range)
    | some s =>
      if r.storeBusy then (r, bare .busy)
      else
        match userSlot s with
        | none => (r, bare .guarded)
        | some i =>
          (r.setStore fun st =>
            { st with slots := st.slots.modify i fun u => { u with state := .bad }, op := some (.erasing i) },
            okWith [slot])
  | _ => (r, bare .length)

/-- An erase in flight completes (R178), the slot reading erased throughout or not. What a BAD slot then holds is the
model's choice: what it held before (log 63). -/
def Room.eraseDone (r : Room) (erased : Bool) : Room :=
  match r.store.op with
  | some (.erasing slot) =>
    let r := r.setStore fun s =>
      { s with
        slots := if erased then s.slots.set slot ⟨.empty, none⟩ else s.slots.modify slot fun u => { u with state := .bad }
        op := none }
    r.emit (.eraseDone (slotNumber slot) erased)
  | _ => r

/-! ## Recalling (R179, R180) -/

/-- The Seat Map unit's first step at a recall (R19): a pending switch is cancelled. -/
def Room.recallSwitch (r : Room) : Room :=
  if r.map.switch.isSome then r.cancelSwitch.emit .mapSwitchCancelled else r

/-- The Seat Map unit with a scene's maps, groups and switch wait limit. -/
def SeatMapUnit.scened (m : SeatMapUnit) (c : Scene) : SeatMapUnit :=
  { m with running := c.running, staged := c.staged, groups := c.groups, waitLimit := c.waitLimit }

/-- The group notices of a recall (R19): one derivation over every seat, in ascending order, stands for the derivations of
all of them (R82; log 67). -/
def Room.groupNotices (r : Room) (changed : Bool) : Room := if changed then r.derive else r

/-- The Seat Map unit's remaining steps at a recall (R19): the maps, the notices of the re-seated seats, a group notice
for each group whose set changed, then the near relation (R121, R180; log 69). -/
def Room.recallSeating (r : Room) (c : Scene) : Room :=
  let changed := (List.finRange 8).any fun g => r.map.groups.get g ≠ c.groups.get g
  ((r.reseat (r.map.scened c)).groupNotices changed).takeNear

/-- The Pod Line controllers' step of a recall: line 1, then line 2 (R180). -/
def Room.recallLines (r : Room) (c : Scene) : Room :=
  ((((r.setLineSettings 0 (c.lines.get 0)).settle).setLineSettings 1 (c.lines.get 1))).settle

/-- The Talk Detectors' step of a recall: every seat in ascending order (R52, R180). -/
def Room.recallDetectors (r : Room) (c : Scene) : Room := (r.retuneAll allSeats fun n => c.detectors.get n).settle

/-- The steps of a recall at the Feedback Monitor, the Mix Engine and the Link Controller (R180). -/
def Room.recallSound (r : Room) (c : Scene) : Room :=
  (((r.setFeedback c.feedback).recallMix c.mix).settle).setDelay c.delay

/-- The Floor Controller's step of a recall (R117, R180). -/
def Room.recallFloor (r : Room) (c : Scene) : Room := (r.setFloor c.floor true).settle

/-- A recall applies a scene to the blocks, in the order of R180, each step taken whole before the next. -/
def Room.recall (r : Room) (c : Scene) : Room :=
  ((((((r.recallSwitch).recallLines c).recallDetectors c).recallSound c).recallFloor c).recallSeating c).settle

/-- SCENE_RECALL (R179): the reply carries the slot, the scene's name and the count of re-seated seats. -/
def reqSceneRecall (body : List Byte) (r : Room) : Room × Answer :=
  match body with
  | [slot] =>
    match counted 13 slot with
    | none => (r, bare .range)
    | some s =>
      if r.storeBusy then (r, bare .busy)
      else
        match r.store.examine s with
        | (st, none) => (r.setStore fun _ => st, bare .store)
        | (_, some c) =>
          let count := (reseatedSeats r.map.running c.running).length
          (r.recall c, okWith (slot :: counting c.name ++ [byteOf count]))
  | _ => (r, bare .length)

/-! ## Verifying, listing, the start slot (R181 to R183) -/

/-- The slots of a run (R181). -/
def slotRun (first count : Nat) : List (Fin 13) :=
  (List.finRange 13).filter fun s => first ≤ s.val && s.val < first + count

/-- SCENE_VERIFY (R181). -/
def reqSceneVerify (body : List Byte) (r : Room) : Room × Answer :=
  match body with
  | [first, count] =>
    match counted 13 first, within 1 13 count.toNat with
    | some f, some c =>
      if r.storeBusy then (r, bare .busy)
      else
        let used := min c (13 - f.val)
        let slots := slotRun f.val used
        let st := slots.foldl (fun st s => (st.examine s).1) r.store
        (r.setStore fun _ => st, okWith ([first, byteOf used] ++ slots.map fun s => (st.stateOf s).byte))
    | _, _ => (r, bare .range)
  | _ => (r, bare .length)

/-- The name a slot is listed with (R182): an EMPTY or BAD slot has none. -/
def Store.nameOf (s : Store) (slot : Fin 13) : List Byte :=
  match s.stateOf slot, s.imageOf slot with
  | .valid, some i => i.scene.name
  | _, _ => []

/-- SCENE_LIST (R182). -/
def reqSceneList (body : List Byte) (r : Room) : Room × Answer :=
  match body with
  | [] =>
    if r.storeBusy then (r, bare .busy)
    else
      (r, okWith (((List.finRange 13).flatMap fun s => (r.store.stateOf s).byte :: counting (r.store.nameOf s))
        ++ [byteOf r.store.start.val]))
  | _ => (r, bare .length)

/-- SCENE_START (R183). -/
def reqSceneStart (body : List Byte) (r : Room) : Room × Answer :=
  match body with
  | [slot] =>
    match counted 13 slot with
    | none => (r, bare .range)
    | some s =>
      if r.storeBusy then (r, bare .busy)
      else
        match r.store.examine s with
        | (st, none) => (r.setStore fun _ => st, bare .store)
        | (_, some _) => (r.setStore fun st => { st with op := some (.settingStart s) }, okWith [slot])
  | _ => (r, bare .length)

/-- A write of the start slot completes (R183), the value reading back as written or not. -/
def Room.startDone (r : Room) (good : Bool) : Room :=
  match r.store.op with
  | some (.settingStart slot) =>
    let r := r.setStore fun s => { s with start := if good then slot else s.start, op := none }
    r.emit (.startDone slot.val good)
  | _ => r

/-! ## Start-up loading (R185 step 1) -/

/-- What start-up loading leaves in the store, the scene used, its slot, and whether it is a fallback (R185, R186): an
operation in flight is ended, and its slot stays BAD. -/
def Store.startUp (s : Store) : Store × Scene × Nat × Bool :=
  let s := { s with op := none }
  match s.examine s.start with
  | (st, some c) => (st, c, s.start.val, false)
  | (st, none) => (st, factoryScene, 0, true)

end Sys2Proof.Machine
end

