-- ==== Sys2Proof/Machine/Reset.lean ====
section
/-! DEFINITION. The transmitter and the event queue of the Control Port (R197, R198), and the full reset (R184, R185). -/

namespace Sys2Proof.Machine

open Sys2Proof

/-- The class mask enables an event, which RESET_DONE and PORT_READY do not need (R198). -/
def Port.enables (p : Port) (e : Event) : Bool :=
  match e with
  | .resetDone .. => true
  | .portReady _ => true
  | e => p.mask.getLsbD e.cls.val

/-- A block queues an event (R198); while the line is held low it is discarded without the lost flag (R200). -/
def Port.queueEvent (p : Port) (e : Event) : Port :=
  if p.lineLow || !p.enables e then p
  else if p.events.length < 32 then { p with events := p.events ++ [e] }
  else { p with lost := true }

/-- The transmitter, when it is free, starts the next frame (R197). -/
def Port.startTx (p : Port) : Port :=
  if p.lineLow || p.tx.isSome then p
  else
    match p.reply, p.events with
    | some f, [] => { p with reply := none, tx := some (.reply f) }
    | some f, e :: es =>
      if p.lastWasReply then { p with events := es, tx := some (.event e p.lost), lost := false }
      else { p with reply := none, tx := some (.reply f) }
    | none, e :: es => { p with events := es, tx := some (.event e p.lost), lost := false }
    | none, [] => p

/-- The port of a state changed. -/
def State.withPort (s : State) (f : Port → Port) : State := { s with port := f s.port }

/-- The events the blocks queued in a command reach the port, in the order queued (R198). -/
def State.flush (s : State) : State :=
  { s with port := s.room.out.foldl Port.queueEvent s.port, room := { s.room with out := [] } }

/-- A command that acts on the blocks alone: its effect, what it leaves under way, its events, the transmitter. While
the reset input is asserted it does nothing (R184; log 42). -/
def State.act (s : State) (f : Room → Room) : State :=
  if s.held then s else ({ s with room := (f s.room).settle }.flush).withPort Port.startTx

/-- A full reset with a cause (R185): start-up loading, the blocks, which start from their reset values (R140, R172),
RESET_DONE, the scans. -/
def State.fullReset (s : State) (cause : ResetCause) : State :=
  let (store, scene, slot, fallback) := s.room.store.startUp
  { s with
    held := false
    powerSeen := false
    port := (Port.afterReset (strapRate s.strapA s.strapB) cause slot fallback).startTx
    room := .started scene store }

/-- The reset input is asserted (R184; log 10): every block is held at its reset values, the port empty and its line no
longer low (log 12). -/
def State.assertReset (s : State) : State :=
  if s.held then s
  else
    let (_, scene, slot, fallback) := s.room.store.startUp
    { s with
      held := true
      powerSeen := false
      port := { Port.afterReset s.port.rate .pin slot fallback with events := [] }
      room := .afterReset scene { s.room.store with op := none } }

/-- A full reset's cause arrives, with the strap levels (R184, R187): power applied while the reset input is asserted is
reported when it is released (log 48). -/
def State.resetCause (s : State) (cause : ResetCause) (strapA strapB : Bool) : State :=
  let s := { s with strapA := strapA, strapB := strapB }
  match cause with
  | .power => if s.held then { s with powerSeen := true } else s.fullReset .power
  | .pin => s.fullReset (if s.held && s.powerSeen then .power else .pin)
  | .request => if s.held then s else s.fullReset .request

end Sys2Proof.Machine
end

