-- ==== Sys2Proof/Machine/Port.lean ====
section
/-! DEFINITION. The Control Port (chapter 10): requests taken and answered, the receiver, the end of a transmission, a
break. -/

namespace Sys2Proof.Machine

open Sys2Proof

/-! ## Requests taken (R195, R199, R201, R202) -/

/-- IDENT (R202). -/
def reqIdent (body : List Byte) (s : State) : State × Answer :=
  match body with
  | [] =>
    (s, okWith [0x0A#8, 0x17#8, 0x53#8, 0x40#8, 0x01#8, 40#8, 2#8, 4#8, 13#8, s.port.rate.byte])
  | _ => (s, bare .length)

/-- The event class mask as EVENT_MASK carries it. -/
def Port.maskByte (p : Port) : Byte := p.mask.setWidth 8

/-- EVENT_MASK (R199). -/
def reqEventMask (body : List Byte) (s : State) : State × Answer :=
  match body with
  | [] => (s, okWith [s.port.maskByte])
  | [m] =>
    if m.getLsbD 7 then (s, bare .range)
    else
      let s := s.withPort fun p => { p with mask := m.setWidth 7 }
      (s, okWith [s.port.maskByte])
  | _ => (s, bare .length)

/-- DEVICE_RESET (R201): the full reset follows the last byte of its reply. -/
def reqDeviceReset (body : List Byte) (s : State) : State × Answer :=
  match body with
  | [] => (s.withPort fun p => { p with resetDue := true }, bare .ok)
  | _ => (s, bare .length)

/-- A request of another block: its owner takes it, and what it leaves under way is settled. -/
def ownerTakes (f : List Byte → Room → Room × Answer) (body : List Byte) (s : State) : State × Answer :=
  ({ s with room := (f body s.room).1.settle }, (f body s.room).2)

/-- A request is passed to its owning block (R195). -/
def ReqKind.take (k : ReqKind) (body : List Byte) (s : State) : State × Answer :=
  match k with
  | .ident => reqIdent body s
  | .eventMask => reqEventMask body s
  | .deviceReset => reqDeviceReset body s
  | .mapLoad => ownerTakes reqMapLoad body s
  | .mapDump => ownerTakes reqMapDump body s
  | .mapSwitch => ownerTakes reqMapSwitch body s
  | .seatCheck => ownerTakes reqSeatCheck body s
  | .groupSet => ownerTakes reqGroupSet body s
  | .groupRead => ownerTakes reqGroupRead body s
  | .lineSet => ownerTakes reqLineSet body s
  | .lineRead => ownerTakes reqLineRead body s
  | .lineScan => ownerTakes reqLineScan body s
  | .lineRehearse => ownerTakes reqLineRehearse body s
  | .detectSet => ownerTakes reqDetectSet body s
  | .detectRead => ownerTakes reqDetectRead body s
  | .mutePlace => ownerTakes reqMutePlace body s
  | .muteLift => ownerTakes reqMuteLift body s
  | .muteList => ownerTakes reqMuteList body s
  | .muteRead => ownerTakes reqMuteRead body s
  | .floorSet => ownerTakes reqFloorSet body s
  | .floorGrant => ownerTakes reqFloorGrant body s
  | .floorQueue => ownerTakes reqFloorQueue body s
  | .floorDrop => ownerTakes reqFloorDrop body s
  | .floorClear => ownerTakes reqFloorClear body s
  | .floorRead => ownerTakes reqFloorRead body s
  | .mixSet => ownerTakes reqMixSet body s
  | .toneSet => ownerTakes reqToneSet body s
  | .mixRead => ownerTakes reqMixRead body s
  | .linkJoin => ownerTakes reqLinkJoin body s
  | .linkLeave => ownerTakes reqLinkLeave body s
  | .linkHold => ownerTakes reqLinkHold body s
  | .linkResume => ownerTakes reqLinkResume body s
  | .linkRead => ownerTakes reqLinkRead body s
  | .callSet => ownerTakes reqCallSet body s
  | .callWake => ownerTakes reqCallWake body s
  | .feedbackSet => ownerTakes reqFeedbackSet body s
  | .feedbackRelease => ownerTakes reqFeedbackRelease body s
  | .feedbackRead => ownerTakes reqFeedbackRead body s
  | .feedbackRehearse => ownerTakes reqFeedbackRehearse body s
  | .sceneSave => ownerTakes reqSceneSave body s
  | .sceneRecall => ownerTakes reqSceneRecall body s
  | .sceneErase => ownerTakes reqSceneErase body s
  | .sceneVerify => ownerTakes reqSceneVerify body s
  | .sceneStart => ownerTakes reqSceneStart body s
  | .sceneList => ownerTakes reqSceneList body s

/-- The answer to a frame: UNKNOWN for a kind of 0x80 or above or one not in the table, else its owner's (R195). -/
def State.answer (s : State) (f : Frame) : State × Answer :=
  if 0x80 ≤ f.kind.toNat then (s, bare .unknown)
  else
    match ReqKind.ofByte f.kind with
    | none => (s, bare .unknown)
    | some k => k.take f.body s

/-- The KIND of a reply (R195). -/
def replyKind (kind : Byte) : Byte := if 0x80 ≤ kind.toNat then 0xFF else kind + 0x80

/-- The reply to a frame (R195). -/
def replyFrame (f : Frame) (a : Answer) : Frame := ⟨replyKind f.kind, f.tag, a.status.byte :: a.data⟩

/-- The frame at the head of the receive queue is taken, its events queued and its reply left waiting (R195). -/
def State.takeFrame (s : State) (f : Frame) : State :=
  let a := s.answer f
  (a.1.flush).withPort fun p => { p with taken := true, reply := some (replyFrame f a.2) }

/-- A reply is being sent. -/
def Port.sendingReply (p : Port) : Bool :=
  match p.tx with
  | some (.reply _) => true
  | _ => false

/-- The port takes the head frame when it has not been taken and no reply is waiting or being sent (R195). -/
def State.takeNext (s : State) : State :=
  if s.port.taken || s.port.reply.isSome || s.port.sendingReply then s
  else
    match s.port.rxq with
    | [] => s
    | f :: _ => s.takeFrame f

/-- An accepted frame joins the receive queue, or OVERRUN with 4 frames held (R194). -/
def Port.accept (p : Port) (f : Frame) : Port :=
  if p.rxq.length < 4 then { p with rxq := p.rxq ++ [f] } else p.queueEvent (.overrun f.kind f.tag)

/-- An accepted frame: the receive queue, the request it may start, the transmitter. -/
def State.acceptFrame (s : State) (f : Frame) : State :=
  ((s.withPort fun p => p.accept f).takeNext).withPort Port.startTx

/-- A host's request arrives as an accepted frame (log 1). While the line is held low or the reset input is asserted the
port receives nothing (R184, R200). -/
def State.hostRequest (s : State) (f : Frame) : State :=
  if s.held || s.port.lineLow then s else s.acceptFrame f

/-! ## The receiver (R192, R193) -/

/-- A frame fails: FRAME_BAD is queued. -/
def State.frameBad (s : State) (reason : BadReason) : State :=
  s.withPort fun p => (p.queueEvent (.frameBad reason)).startTx

/-- The bytes of a frame in progress. -/
def State.keepRx (s : State) (bs : List Byte) : State := s.withPort fun p => { p with rx := bs, gapTime := 0 }

/-- The receiver in HUNT takes bytes in order (R192). A failed frame's bytes after its START are taken again. Each turn
takes at least one byte, so as many turns as bytes are enough. -/
def State.hunt : Nat → List Byte → State → State
  | 0, _, s => s
  | _ + 1, [], s => s
  | turns + 1, b :: rest, s =>
    if b ≠ 0xC5#8 then State.hunt turns rest s
    else
      match rest with
      | [] => s.keepRx [b]
      | len :: more =>
        if len.toNat < 2 then State.hunt turns rest (s.frameBad .length)
        else if more.length < len.toNat + 2 then s.keepRx (b :: rest)
        else
          let payload := more.take len.toNat
          let check := (more.drop len.toNat).take 2
          if checkBytes (crc (len :: payload)) = check then
            match payload with
            | kind :: tag :: body =>
              State.hunt turns (more.drop (len.toNat + 2)) (s.acceptFrame ⟨kind, tag, body⟩)
            | _ => s
          else State.hunt turns rest (s.frameBad .check)

/-- Bytes arrive on the line (R192): they follow those of the frame in progress. -/
def State.receive (s : State) (bytes : List Byte) : State :=
  if s.held || s.port.lineLow then s
  else
    let stream := s.port.rx ++ bytes
    State.hunt stream.length stream (s.keepRx [])

/-- A frame in progress is abandoned (R193); in HUNT there is none, and nothing happens. -/
def State.abandon (s : State) (reason : BadReason) : State :=
  if s.held || s.port.rx.isEmpty then s else (s.keepRx []).frameBad reason

/-- A character arrives on the line (R187): its byte, or a framing error that abandons the frame in progress (R193). What
comes with no start bit is the idle line. -/
def State.receiveChar (s : State) (bits : List Bool) : State :=
  match bits with
  | false :: rest =>
    match charRead rest with
    | some b => s.receive [b]
    | none => s.abandon .framing
  | _ => s

/-! ## The end of a transmission, a break (R197, R200, R201) -/

/-- A reply has been sent in full (R197, R201): its request leaves the queue and the next is taken; after DEVICE_RESET
the part resets. -/
def State.replySent (s : State) : State :=
  if s.port.resetDue then s.fullReset .request
  else
    (s.withPort fun p =>
      { p with tx := none, lastWasReply := true, rxq := p.rxq.tail, taken := false }).takeNext.withPort Port.startTx

/-- The last byte of a frame has left (R197). -/
def State.sentOne (s : State) : State :=
  match s.port.tx with
  | some (.reply _) => s.replySent
  | some (.event _ _) => s.withPort fun p => { p with tx := none, lastWasReply := false }.startTx
  | none => s

/-- The port after a break (R200). -/
def Port.broken (p : Port) : Port :=
  { p with rx := [], gapTime := 0, rxq := [], taken := false, reply := none, tx := none, lastWasReply := false,
           events := [], lost := false, mask := 0x7F#7, lineLow := true }

/-- The line has been low for 2 ms (R200); a DEVICE_RESET already answered then resets the part at once (R201; log 12). -/
def State.lineBreak (s : State) : State :=
  if s.held then s
  else if s.port.resetDue then s.fullReset .request
  else s.withPort Port.broken

/-- The line returns high after a break (R200): PORT_READY is the first record. -/
def State.lineHigh (s : State) : State :=
  if s.port.lineLow then
    s.withPort fun p => ({ p with lineLow := false }.queueEvent (.portReady p.rate)).startTx
  else s

end Sys2Proof.Machine
end

