-- ==== Sys2Proof/Machine/Requests.lean ====
section
/-! DEFINITION. The meanings of the request rows: each is the host's frame of that request, with the body its fields make
(section 10.2), arriving at the Control Port (log 1). The owner's rule is the `req` function of its block. -/

namespace Sys2Proof.Machine

open Sys2Proof

/-- The outcome type of a command. -/
abbrev Result := Host.Outcome State Fault Refusal

/-- A request of a kind arrives with a tag and a body. -/
def State.request (s : State) (k : ReqKind) (tag : Byte) (body : List Byte) : State := s.hostRequest ⟨k.byte, tag, body⟩

/-- A seat-map entry's three bytes (R189). -/
def rawBytes (e : RawEntry) : List Byte := [e.line, e.position, e.attributes]

/-- A claim as MUTE_LIFT names it (R188, R190). -/
def refBytes : ClaimRef → List Byte
  | .byNumber number => [number]
  | .byName cls identity scopeKind scopeIndex direction => [cls, identity, scopeKind, scopeIndex, direction]

/-- IDENT (R202). -/
def execIdent (tag : Byte) (s : State) : Result :=
  .next (s.request .ident tag [])

/-- EVENT_MASK (R199). -/
def execEventMask (tag : Byte) (mask : Option Byte) (s : State) : Result :=
  .next (s.request .eventMask tag mask.toList)

/-- DEVICE_RESET (R201). -/
def execDeviceReset (tag : Byte) (s : State) : Result :=
  .next (s.request .deviceReset tag [])

/-- MAP_LOAD (R5). -/
def execMapLoad (tag : Byte) (first count : Byte) (entries : List RawEntry) (s : State) : Result :=
  .next (s.request .mapLoad tag (first :: count :: entries.flatMap rawBytes))

/-- MAP_DUMP (R6). -/
def execMapDump (tag : Byte) (map first count : Byte) (s : State) : Result :=
  .next (s.request .mapDump tag [map, first, count])

/-- MAP_SWITCH_NOW (R11). -/
def execMapSwitchNow (tag : Byte) (locked wait : Byte) (s : State) : Result :=
  .next (s.request .mapSwitch tag [0, locked, wait])

/-- MAP_SWITCH_QUIET (R12). -/
def execMapSwitchQuiet (tag : Byte) (locked wait : Byte) (s : State) : Result :=
  .next (s.request .mapSwitch tag [1, locked, wait])

/-- MAP_SWITCH_CANCEL (R14). -/
def execMapSwitchCancel (tag : Byte) (locked wait : Byte) (s : State) : Result :=
  .next (s.request .mapSwitch tag [2, locked, wait])

/-- SEAT_CHECK (R7). -/
def execSeatCheck (tag : Byte) (seat : Byte) (s : State) : Result :=
  .next (s.request .seatCheck tag [seat])

/-- GROUP_SET (R18). -/
def execGroupSet (tag : Byte) (group : Byte) (seats : List Byte) (s : State) : Result :=
  .next (s.request .groupSet tag (group :: seats))

/-- GROUP_READ (R18). -/
def execGroupRead (tag : Byte) (group : Byte) (s : State) : Result :=
  .next (s.request .groupRead tag [group])

/-- LINE_SET (R39). -/
def execLineSet (tag : Byte) (line expected lostLimit : Byte) (s : State) : Result :=
  .next (s.request .lineSet tag [line, expected, lostLimit])

/-- LINE_READ (R41). -/
def execLineRead (tag : Byte) (line : Byte) (s : State) : Result :=
  .next (s.request .lineRead tag [line])

/-- LINE_SCAN (R27). -/
def execLineScan (tag : Byte) (line : Byte) (s : State) : Result :=
  .next (s.request .lineScan tag [line])

/-- LINE_REHEARSE (R40). -/
def execLineRehearse (tag : Byte) (line position mode : Byte) (duration : Pair) (s : State) : Result :=
  .next (s.request .lineRehearse tag ([line, position, mode] ++ checkBytes duration))

/-- DETECT_SET (R52). -/
def execDetectSet (tag : Byte) (seat onsetMargin echoMargin onsetTime : Byte) (endTime riseBlank fallGuard : Pair) (s : State) : Result :=
  .next (s.request .detectSet tag ([seat, onsetMargin, echoMargin, onsetTime] ++ checkBytes endTime ++ checkBytes riseBlank ++ checkBytes fallGuard))

/-- DETECT_READ (R53). -/
def execDetectRead (tag : Byte) (seat : Byte) (s : State) : Result :=
  .next (s.request .detectRead tag [seat])

/-- MUTE_PLACE (R62). -/
def execMutePlace (tag : Byte) (cls identity scopeKind scopeIndex direction : Byte) (expiry : Pair) (s : State) : Result :=
  .next (s.request .mutePlace tag ([cls, identity, scopeKind, scopeIndex, direction] ++ checkBytes expiry))

/-- MUTE_LIFT (R66). -/
def execMuteLift (tag : Byte) (cls identity force : Byte) (claim : ClaimRef) (s : State) : Result :=
  .next (s.request .muteLift tag ([cls, identity, force] ++ refBytes claim))

/-- MUTE_LIST (R83). -/
def execMuteList (tag : Byte) (start : Byte) (s : State) : Result :=
  .next (s.request .muteList tag [start])

/-- MUTE_READ (R84). -/
def execMuteRead (tag : Byte) (which number : Byte) (s : State) : Result :=
  .next (s.request .muteRead tag [which, number])

/-- FLOOR_SET (R113). -/
def execFloorSet (tag : Byte) (mode limit : Byte) (hold : Pair) (lastMic autoGrant chairFree : Byte) (idle : Pair) (attack : Byte) (release : Pair) (s : State) : Result :=
  .next (s.request .floorSet tag ([mode, limit] ++ checkBytes hold ++ [lastMic, autoGrant, chairFree] ++ checkBytes idle ++ [attack] ++ checkBytes release))

/-- FLOOR_GRANT (R104). -/
def execFloorGrant (tag : Byte) (seat bump : Byte) (s : State) : Result :=
  .next (s.request .floorGrant tag [seat, bump])

/-- FLOOR_QUEUE (R111). -/
def execFloorQueue (tag : Byte) (seat : Byte) (s : State) : Result :=
  .next (s.request .floorQueue tag [seat])

/-- FLOOR_DROP (R112). -/
def execFloorDrop (tag : Byte) (seat : Byte) (s : State) : Result :=
  .next (s.request .floorDrop tag [seat])

/-- FLOOR_CLEAR (R107). -/
def execFloorClear (tag : Byte) (s : State) : Result :=
  .next (s.request .floorClear tag [])

/-- FLOOR_READ (R116). -/
def execFloorRead (tag : Byte) (first : Byte) (s : State) : Result :=
  .next (s.request .floorRead tag [first])

/-- MIX_SET (R136). -/
def execMixSet (tag : Byte) (item index value : Byte) (ramp : Pair) (s : State) : Result :=
  .next (s.request .mixSet tag ([item, index, value] ++ checkBytes ramp))

/-- TONE_SET (R135). -/
def execToneSet (tag : Byte) (enabled level : Byte) (s : State) : Result :=
  .next (s.request .toneSet tag [enabled, level])

/-- MIX_READ (R139). -/
def execMixRead (tag : Byte) (bus : Byte) (s : State) : Result :=
  .next (s.request .mixRead tag [bus])

/-- LINK_JOIN (R144). -/
def execLinkJoin (tag : Byte) (link : Byte) (s : State) : Result :=
  .next (s.request .linkJoin tag [link])

/-- LINK_LEAVE (R148). -/
def execLinkLeave (tag : Byte) (link : Byte) (s : State) : Result :=
  .next (s.request .linkLeave tag [link])

/-- LINK_HOLD (R146). -/
def execLinkHold (tag : Byte) (link : Byte) (s : State) : Result :=
  .next (s.request .linkHold tag [link])

/-- LINK_RESUME (R147). -/
def execLinkResume (tag : Byte) (link : Byte) (s : State) : Result :=
  .next (s.request .linkResume tag [link])

/-- LINK_READ (R151). -/
def execLinkRead (tag : Byte) (link : Byte) (s : State) : Result :=
  .next (s.request .linkRead tag [link])

/-- CALL_SET (R156). -/
def execCallSet (tag : Byte) (delay : Byte) (s : State) : Result :=
  .next (s.request .callSet tag [delay])

/-- CALL_WAKE (R157). -/
def execCallWake (tag : Byte) (s : State) : Result :=
  .next (s.request .callWake tag [])

/-- FEEDBACK_SET (R169). -/
def execFeedbackSet (tag : Byte) (mode window ratio filter retry : Byte) (s : State) : Result :=
  .next (s.request .feedbackSet tag [mode, window, ratio, filter, retry])

/-- FEEDBACK_RELEASE (R168). -/
def execFeedbackRelease (tag : Byte) (seat : Byte) (s : State) : Result :=
  .next (s.request .feedbackRelease tag [seat])

/-- FEEDBACK_READ (R171). -/
def execFeedbackRead (tag : Byte) (seat : Byte) (s : State) : Result :=
  .next (s.request .feedbackRead tag [seat])

/-- FEEDBACK_REHEARSE (R170). -/
def execFeedbackRehearse (tag : Byte) (seat : Byte) (s : State) : Result :=
  .next (s.request .feedbackRehearse tag [seat])

/-- SCENE_SAVE (R176). -/
def execSceneSave (tag : Byte) (slot : Byte) (name : List Byte) (s : State) : Result :=
  .next (s.request .sceneSave tag (slot :: name))

/-- SCENE_RECALL (R179). -/
def execSceneRecall (tag : Byte) (slot : Byte) (s : State) : Result :=
  .next (s.request .sceneRecall tag [slot])

/-- SCENE_ERASE (R178). -/
def execSceneErase (tag : Byte) (slot : Byte) (s : State) : Result :=
  .next (s.request .sceneErase tag [slot])

/-- SCENE_VERIFY (R181). -/
def execSceneVerify (tag : Byte) (first count : Byte) (s : State) : Result :=
  .next (s.request .sceneVerify tag [first, count])

/-- SCENE_START (R183). -/
def execSceneStart (tag : Byte) (slot : Byte) (s : State) : Result :=
  .next (s.request .sceneStart tag [slot])

/-- SCENE_LIST (R182). -/
def execSceneList (tag : Byte) (s : State) : Result :=
  .next (s.request .sceneList tag [])

/-- UNKNOWN (R195): a frame of any kind; one in the table is that request (log 49). -/
def execUnknown (tag kind : Byte) (body : List Byte) (s : State) : Result := .next (s.hostRequest ⟨kind, tag, body⟩)

end Sys2Proof.Machine
end

