-- ==== Sys2Proof/Machine/Happenings.lean ====
section
/-! DEFINITION. The meanings of the rows that are no request: what happens on the control line, at the reset input, on the
pod lines and link ports, and as timers, ramps and store operations end. -/

namespace Sys2Proof.Machine

open Sys2Proof

/-- RECEIVE_FRAME: these bytes arrive on the control line (R192). -/
def execReceiveFrame (bytes : List Byte) (s : State) : Result := .next (s.receive bytes)

/-- GAP: more than 20 ms pass after a byte inside a frame (R193). -/
def execGap (s : State) : Result := .next (s.abandon .gap)

/-- FRAMING: a byte arrives with a framing error (R193). -/
def execFraming (s : State) : Result := .next (s.abandon .framing)

/-- TRANSMIT_FRAME_DONE: the last byte of the frame being sent has left (R197). -/
def execTransmitFrameDone (s : State) : Result := .next (s.sentOne)

/-- BREAK: the control line has been low for 2 ms (R200). -/
def execBreakLine (s : State) : Result := .next (s.lineBreak)

/-- PORT_READY: the line returns high after a break (R200). -/
def execPortReady (s : State) : Result := .next (s.lineHigh)

/-- RESET_INPUT_ASSERTED: the reset input is asserted (R184). -/
def execResetInputAsserted (s : State) : Result := .next (s.assertReset)

/-- FULL_RESET: a cause of a full reset, with the strap levels (R185). -/
def execFullReset (cause : ResetCause) (strapA strapB : Bool) (s : State) : Result := .next (s.resetCause cause strapA strapB)

/-- UPSTREAM_FRAME: a line's upstream frame (R24). -/
def execUpstreamFrame (line : LineNo) (frame : UpFrame) (s : State) : Result := .next (s.act fun r => r.upstream line frame)

/-- ENUMERATION_TIMEOUT: no valid answer within 20 ms of an enumeration command (R28). -/
def execEnumerationTimeout (line : LineNo) (s : State) : Result := .next (s.act fun r => r.enumTimeout line)

/-- PROBE_TIMER_EXPIRY: a line's probe timer expires (R29). -/
def execProbeTimerExpiry (line : LineNo) (s : State) : Result := .next (s.act fun r => r.probeExpiry line)

/-- REHEARSAL_END: a rehearsal's duration expires (R40). -/
def execRehearsalEnd (line : LineNo) (s : State) : Result := .next (s.act fun r => r.rehearsalEnd line)

/-- ROOM_LAMP_BLINK_END: a room lamp's 2000 ms end (R37). -/
def execRoomLampBlinkEnd (line : LineNo) (pos : Pos) (s : State) : Result := .next (s.act fun r => r.blinkEnd ⟨line, pos⟩)

/-- RISE_BLANK_EXPIRY: a rise blank timer expires (R48). -/
def execRiseBlankExpiry (seat : Seat) (s : State) : Result := .next (s.act fun r => r.runDet seat Detector.riseExpiry)

/-- FALL_GUARD_EXPIRY: a fall guard timer expires (R49). -/
def execFallGuardExpiry (seat : Seat) (s : State) : Result := .next (s.act fun r => r.setDet seat Detector.fallExpiry)

/-- SEED_TIMER_EXPIRY: a seed timer expires (R50). -/
def execSeedTimerExpiry (seat : Seat) (s : State) : Result := .next (s.act fun r => r.setDet seat Detector.seedExpiry)

/-- CLAIM_EXPIRY: a placed claim's expiry reaches zero (R68). -/
def execClaimExpiry (number : Fin 48) (s : State) : Result := .next (s.act fun r => r.claimExpiry number)

/-- HOLD_TIMER_EXPIRY: a hold timer expires (R97). -/
def execHoldTimerExpiry (seat : Seat) (s : State) : Result := .next (s.act fun r => r.holdExpiry seat)

/-- IDLE_TIMER_EXPIRY: an idle timer expires (R105). -/
def execIdleTimerExpiry (seat : Seat) (s : State) : Result := .next (s.act fun r => r.idleExpiry seat)

/-- WAIT_TIMER_EXPIRY: the wait timer of a pending switch expires (R15). -/
def execWaitTimerExpiry (s : State) : Result := .next (s.act Room.waitExpiry)

/-- RAMP_COMPLETE: a gain component's ramp completes (R130). -/
def execRampComplete (comp : CompId) (s : State) : Result := .next (s.act fun r => r.rampComplete comp)

/-- TONE_FADE: a tone has played for its length less 5 ms (R133). -/
def execToneFade (seat : Seat) (s : State) : Result := .next (s.act fun r => r.toneFade seat)

/-- CLOCK_MEASUREMENT: a port's clock is measured over 1 ms (R142). -/
def execClockMeasurement (link : Link) (reading : Option PortReading) (s : State) : Result :=
  .next (s.act fun r => r.measure link reading)

/-- LOCK_NOTICE: a port becomes LOCKED (R145). -/
def execLockNotice (link : Link) (s : State) : Result := .next (s.act fun r => r.lockNotice link)

/-- LOSS_NOTICE: a port becomes UNLOCKED (R149). -/
def execLossNotice (link : Link) (s : State) : Result := .next (s.act fun r => r.lossNotice link)

/-- JOIN_TIMER_EXPIRY: a join timer expires (R145). -/
def execJoinTimerExpiry (link : Link) (s : State) : Result := .next (s.act fun r => r.joinExpiry link)

/-- STANDBY_TIMER_EXPIRY: the standby timer expires (R154). -/
def execStandbyTimerExpiry (s : State) : Result := .next (s.act Room.standbyExpiry)

/-- WINDOW_END: a feedback window ends (R161). -/
def execWindowEnd (seat : Seat) (centre : Nat) (peak : Int) (s : State) : Result :=
  .next (s.act fun r => r.windowEnd seat centre peak)

/-- RETRY_TIMER_EXPIRY: a retry timer expires (R165). -/
def execRetryTimerExpiry (seat : Seat) (s : State) : Result := .next (s.act fun r => r.retryExpiry seat)

/-- SAVE_DONE: a save in flight completes (R177). -/
def execSaveDone (good : Bool) (s : State) : Result := .next (s.act fun r => r.saveDone good)

/-- ERASE_DONE: an erase in flight completes (R178). -/
def execEraseDone (erased : Bool) (s : State) : Result := .next (s.act fun r => r.eraseDone erased)

/-- START_DONE: a write of the start slot completes (R183). -/
def execStartDone (good : Bool) (s : State) : Result := .next (s.act fun r => r.startDone good)

end Sys2Proof.Machine
end

