-- ==== Sys2Proof/Machine/Dispatch.lean ====
section
/-! DEFINITION. The meaning of each command, by its constructor. -/

namespace Sys2Proof.Machine

open Sys2Proof

def exec (i : Instr) (s : State) : Host.Outcome State Fault Refusal :=
  match i with
  | .ident tag => Sys2Proof.Machine.execIdent tag s
  | .eventMask tag mask => Sys2Proof.Machine.execEventMask tag mask s
  | .deviceReset tag => Sys2Proof.Machine.execDeviceReset tag s
  | .mapLoad tag first count entries => Sys2Proof.Machine.execMapLoad tag first count entries s
  | .mapDump tag map first count => Sys2Proof.Machine.execMapDump tag map first count s
  | .mapSwitchNow tag locked wait => Sys2Proof.Machine.execMapSwitchNow tag locked wait s
  | .mapSwitchQuiet tag locked wait => Sys2Proof.Machine.execMapSwitchQuiet tag locked wait s
  | .mapSwitchCancel tag locked wait => Sys2Proof.Machine.execMapSwitchCancel tag locked wait s
  | .seatCheck tag seat => Sys2Proof.Machine.execSeatCheck tag seat s
  | .groupSet tag group seats => Sys2Proof.Machine.execGroupSet tag group seats s
  | .groupRead tag group => Sys2Proof.Machine.execGroupRead tag group s
  | .lineSet tag line expected lostLimit => Sys2Proof.Machine.execLineSet tag line expected lostLimit s
  | .lineRead tag line => Sys2Proof.Machine.execLineRead tag line s
  | .lineScan tag line => Sys2Proof.Machine.execLineScan tag line s
  | .lineRehearse tag line position mode duration => Sys2Proof.Machine.execLineRehearse tag line position mode duration s
  | .detectSet tag seat onsetMargin echoMargin onsetTime endTime riseBlank fallGuard => Sys2Proof.Machine.execDetectSet tag seat onsetMargin echoMargin onsetTime endTime riseBlank fallGuard s
  | .detectRead tag seat => Sys2Proof.Machine.execDetectRead tag seat s
  | .mutePlace tag cls identity scopeKind scopeIndex direction expiry => Sys2Proof.Machine.execMutePlace tag cls identity scopeKind scopeIndex direction expiry s
  | .muteLift tag cls identity force claim => Sys2Proof.Machine.execMuteLift tag cls identity force claim s
  | .muteList tag start => Sys2Proof.Machine.execMuteList tag start s
  | .muteRead tag which number => Sys2Proof.Machine.execMuteRead tag which number s
  | .floorSet tag mode limit hold lastMic autoGrant chairFree idle attack release => Sys2Proof.Machine.execFloorSet tag mode limit hold lastMic autoGrant chairFree idle attack release s
  | .floorGrant tag seat bump => Sys2Proof.Machine.execFloorGrant tag seat bump s
  | .floorQueue tag seat => Sys2Proof.Machine.execFloorQueue tag seat s
  | .floorDrop tag seat => Sys2Proof.Machine.execFloorDrop tag seat s
  | .floorClear tag => Sys2Proof.Machine.execFloorClear tag s
  | .floorRead tag first => Sys2Proof.Machine.execFloorRead tag first s
  | .mixSet tag item index value ramp => Sys2Proof.Machine.execMixSet tag item index value ramp s
  | .toneSet tag enabled level => Sys2Proof.Machine.execToneSet tag enabled level s
  | .mixRead tag bus => Sys2Proof.Machine.execMixRead tag bus s
  | .linkJoin tag link => Sys2Proof.Machine.execLinkJoin tag link s
  | .linkLeave tag link => Sys2Proof.Machine.execLinkLeave tag link s
  | .linkHold tag link => Sys2Proof.Machine.execLinkHold tag link s
  | .linkResume tag link => Sys2Proof.Machine.execLinkResume tag link s
  | .linkRead tag link => Sys2Proof.Machine.execLinkRead tag link s
  | .callSet tag delay => Sys2Proof.Machine.execCallSet tag delay s
  | .callWake tag => Sys2Proof.Machine.execCallWake tag s
  | .feedbackSet tag mode window ratio filter retry => Sys2Proof.Machine.execFeedbackSet tag mode window ratio filter retry s
  | .feedbackRelease tag seat => Sys2Proof.Machine.execFeedbackRelease tag seat s
  | .feedbackRead tag seat => Sys2Proof.Machine.execFeedbackRead tag seat s
  | .feedbackRehearse tag seat => Sys2Proof.Machine.execFeedbackRehearse tag seat s
  | .sceneSave tag slot name => Sys2Proof.Machine.execSceneSave tag slot name s
  | .sceneRecall tag slot => Sys2Proof.Machine.execSceneRecall tag slot s
  | .sceneErase tag slot => Sys2Proof.Machine.execSceneErase tag slot s
  | .sceneVerify tag first count => Sys2Proof.Machine.execSceneVerify tag first count s
  | .sceneStart tag slot => Sys2Proof.Machine.execSceneStart tag slot s
  | .sceneList tag => Sys2Proof.Machine.execSceneList tag s
  | .unknown tag kind body => Sys2Proof.Machine.execUnknown tag kind body s
  | .receiveFrame bytes => Sys2Proof.Machine.execReceiveFrame bytes s
  | .gap => Sys2Proof.Machine.execGap s
  | .framing => Sys2Proof.Machine.execFraming s
  | .transmitFrameDone => Sys2Proof.Machine.execTransmitFrameDone s
  | .breakLine => Sys2Proof.Machine.execBreakLine s
  | .portReady => Sys2Proof.Machine.execPortReady s
  | .resetInputAsserted => Sys2Proof.Machine.execResetInputAsserted s
  | .fullReset cause strapA strapB => Sys2Proof.Machine.execFullReset cause strapA strapB s
  | .upstreamFrame line frame => Sys2Proof.Machine.execUpstreamFrame line frame s
  | .enumerationTimeout line => Sys2Proof.Machine.execEnumerationTimeout line s
  | .probeTimerExpiry line => Sys2Proof.Machine.execProbeTimerExpiry line s
  | .rehearsalEnd line => Sys2Proof.Machine.execRehearsalEnd line s
  | .roomLampBlinkEnd line pos => Sys2Proof.Machine.execRoomLampBlinkEnd line pos s
  | .riseBlankExpiry seat => Sys2Proof.Machine.execRiseBlankExpiry seat s
  | .fallGuardExpiry seat => Sys2Proof.Machine.execFallGuardExpiry seat s
  | .seedTimerExpiry seat => Sys2Proof.Machine.execSeedTimerExpiry seat s
  | .claimExpiry number => Sys2Proof.Machine.execClaimExpiry number s
  | .holdTimerExpiry seat => Sys2Proof.Machine.execHoldTimerExpiry seat s
  | .idleTimerExpiry seat => Sys2Proof.Machine.execIdleTimerExpiry seat s
  | .waitTimerExpiry => Sys2Proof.Machine.execWaitTimerExpiry s
  | .rampComplete comp => Sys2Proof.Machine.execRampComplete comp s
  | .toneFade seat => Sys2Proof.Machine.execToneFade seat s
  | .clockMeasurement link reading => Sys2Proof.Machine.execClockMeasurement link reading s
  | .lockNotice link => Sys2Proof.Machine.execLockNotice link s
  | .lossNotice link => Sys2Proof.Machine.execLossNotice link s
  | .joinTimerExpiry link => Sys2Proof.Machine.execJoinTimerExpiry link s
  | .standbyTimerExpiry => Sys2Proof.Machine.execStandbyTimerExpiry s
  | .windowEnd seat centre peak => Sys2Proof.Machine.execWindowEnd seat centre peak s
  | .retryTimerExpiry seat => Sys2Proof.Machine.execRetryTimerExpiry seat s
  | .saveDone good => Sys2Proof.Machine.execSaveDone good s
  | .eraseDone erased => Sys2Proof.Machine.execEraseDone erased s
  | .startDone good => Sys2Proof.Machine.execStartDone good s

end Sys2Proof.Machine
end

