-- ==== Sys2Proof/Machine/Tick.lean ====
section
/-! DEFINITION. What the part does with no command waiting (log 2): the first expiry that has fallen due is taken as its
command; with none due, 1 ms passes. -/

namespace Sys2Proof.Machine

open Sys2Proof

/-! ## What has fallen due -/

/-- A timer has reached zero. -/
def due (t : Option Nat) : Bool := t = some 0

/-- The gain components of a seat, the class levels apart. -/
def seatComps (n : Seat) : List CompId :=
  [.gate n, .micMute n, .toneLevel n, .envelope n, .speakerMute n, .feedbackOffset n]

/-- The gain components of a link. -/
def linkComps (k : Link) : List CompId := [.returnMute k, .linkState k, .sendMute k]

/-- The gain components there are once. -/
def loneComps : List CompId :=
  [.classMicOut, .classFar, .classBridge, .classProgram, .classAssist, .openCount, .standby]

/-- The class levels of the microphones on a loudspeaker bus. -/
def classMics (n : Seat) : List CompId := allSeats.map (CompId.classMic n)

/-- The trims of an index. -/
def trimComps (i : Fin 46) : List CompId := [.sourceTrim i, .busTrim i]

/-- Every gain component (R122). -/
def allComps : List CompId :=
  [allSeats.flatMap seatComps, allSeats.flatMap classMics, allLinks.flatMap linkComps,
   allTrims.flatMap trimComps, loneComps].flatten

/-- A component's ramp has run its time. -/
def Comp.due (c : Comp) : Bool :=
  match c.ramp with
  | some r => r.total ≤ r.elapsed
  | none => false

/-- The enumeration command in flight has waited its 20 ms (R28, R29). -/
def Line.waited (l : Line) : Bool :=
  match l.scan, l.probe with
  | some e, _ => e.left = 0
  | none, some e => e.left = 0
  | none, none => false

/-- The timers of a line that have reached zero (R28, R29, R37, R40). -/
def Line.dues (l : Line) (n : LineNo) : List Instr :=
  (if l.waited then [.enumerationTimeout n] else [])
  ++ (if Machine.due l.probeTimer then [.probeTimerExpiry n] else [])
  ++ (match l.rehearsal with
      | some ⟨_, _, 0⟩ => [.rehearsalEnd n]
      | _ => [])
  ++ (allPositions.filter fun p => Machine.due (l.pods.get p).blink).map fun p => .roomLampBlinkEnd n p

/-- The timers of a seat's detector that have reached zero (R48 to R50). -/
def Detector.dues (d : Detector) (n : Seat) : List Instr :=
  (if Machine.due d.seed then [.seedTimerExpiry n] else [])
  ++ (if Machine.due d.rise then [.riseBlankExpiry n] else [])
  ++ (if Machine.due d.fall then [.fallGuardExpiry n] else [])

/-- The timer of a seat at the floor that has reached zero (R97, R105). -/
def FloorSeat.dues (s : FloorSeat) (n : Seat) : List Instr :=
  match s.timer with
  | .hold 0 => [.holdTimerExpiry n]
  | .idle 0 => [.idleTimerExpiry n]
  | _ => []

/-- The window of a seat that has run its length, with the strongest band its samples have (R161; log 46), and then the
retry timer that has reached zero (R165; that order is log 2). -/
def FbSeat.dues (s : FbSeat) (n : Seat) : List Instr :=
  (match s.window with
    | some w => if w.length ≤ w.elapsed then [.windowEnd n (Config.strongest w.frames).1 (Config.strongest w.frames).2] else []
    | none => [])
  ++ (if Machine.due s.retryTimer then [.retryTimerExpiry n] else [])

/-- A tone has played for its length less 5 ms and has not started to end (R133). -/
def Mix.toneDue (m : Mix) (n : Seat) : Bool :=
  match m.players.get n with
  | some p => p.tone.length ≤ p.elapsed + 5 && (m.envelope.get n).target ≠ .off
  | none => false

/-- The timers of the blocks that have reached zero, one list for each kind of expiry, in the order in which they are
taken: two claims whose expiries fall due in one ms go in placement order, as the table holds them, which R68 leaves
open; the windows and the retry timers come last, seat by seat in ascending order (the order is the model's, log 2). -/
def Room.dueLists (r : Room) : List (List Instr) :=
  [(allComps.filter fun id => (r.mix.comp id).due).map Instr.rampComplete,
   (allSeats.filter r.mix.toneDue).map Instr.toneFade,
   (List.finRange 2).flatMap fun l => (r.lines.get l).dues l,
   allSeats.flatMap fun n => (r.det.get n).dues n,
   (r.mute.table.filter fun c => Machine.due c.expiry).map fun c => Instr.claimExpiry c.number,
   allSeats.flatMap fun n => (r.floor.seats.get n).dues n,
   if (r.map.switch.bind (·.timer)) = some 0 then [Instr.waitTimerExpiry] else [],
   (allLinks.filter fun k => Machine.due (r.link.links.get k).joinTimer).map Instr.joinTimerExpiry,
   if Machine.due r.link.timer then [Instr.standbyTimerExpiry] else [],
   allSeats.flatMap fun n => (r.fb.seats.get n).dues n]

/-- The expiries that have fallen due, in the order in which they are taken (log 2). -/
def State.dues (s : State) : List Instr :=
  (if 20 < s.port.gapTime && !s.port.rx.isEmpty then [Instr.gap] else []) ++ s.room.dueLists.flatten

/-! ## One millisecond -/

/-- A timer counts down. -/
def down (t : Option Nat) : Option Nat := t.map (· - 1)

/-- An enumeration command waits (R28). -/
def Enumeration.tick (e : Enumeration) : Enumeration := { e with left := e.left - 1 }

/-- A line's timers count down. -/
def Line.tick (l : Line) : Line :=
  { l with
    scan := l.scan.map Enumeration.tick
    probe := l.probe.map Enumeration.tick
    probeTimer := down l.probeTimer
    rehearsal := l.rehearsal.map fun x => { x with left := x.left - 1 }
    pods := l.pods.map fun p => { p with blink := down p.blink } }

/-- A detector's timers count down; its levels and its counts move with the line's frames (R43 to R45). -/
def Detector.tick (d : Detector) : Detector :=
  { d with seed := down d.seed, rise := down d.rise, fall := down d.fall }

/-- A seat's timer counts down. -/
def SeatTimer.tick : SeatTimer → SeatTimer
  | .off => .off
  | .hold ms => .hold (ms - 1)
  | .idle ms => .idle (ms - 1)

/-- A component's ramp runs on by 1 ms (R130; that it moves once in a ms, and no finer, is log 73). -/
def Comp.tick (c : Comp) : Comp :=
  { c with ramp := c.ramp.map fun r => { r with elapsed := min r.total (r.elapsed + 1) } }

/-- The Mix Engine's ramps and tones run on. -/
def Mix.tick (m : Mix) : Mix :=
  { m with
    gate := m.gate.map Comp.tick
    micMute := m.micMute.map Comp.tick
    returnMute := m.returnMute.map Comp.tick
    linkState := m.linkState.map Comp.tick
    srcTrim := m.srcTrim.map Comp.tick
    classMic := m.classMic.map fun t => t.map Comp.tick
    classMicOut := m.classMicOut.tick
    classFar := m.classFar.tick
    classBridge := m.classBridge.tick
    classProgram := m.classProgram.tick
    classAssist := m.classAssist.tick
    toneLevel := m.toneLevel.map Comp.tick
    openCount := m.openCount.tick
    standbyComp := m.standbyComp.tick
    envelope := m.envelope.map Comp.tick
    speakerMute := m.speakerMute.map Comp.tick
    fbOffset := m.fbOffset.map Comp.tick
    sendMute := m.sendMute.map Comp.tick
    busTrim := m.busTrim.map Comp.tick
    players := m.players.map fun p => p.map fun x => { x with elapsed := x.elapsed + 1 } }

/-- The monitor's windows and retry timers run on. -/
def FbSeat.tick (s : FbSeat) : FbSeat :=
  { s with
    window := s.window.map fun w => { w with elapsed := min w.length (w.elapsed + 1) }
    retryTimer := down s.retryTimer }

/-- The LIVE notice of a seat whose speaker mute component has left off with its speaker mark still OFF, as it stands
after a full reset (R160, R172; log 9). -/
def Room.liveNotice (r : Room) (n : Seat) : Room :=
  if (r.fb.seats.get n).live || (r.mix.speakerMute.get n).isOff then r else r.fbLive n

/-- The LIVE notices of the speaker mute ramps that begin to run (R160, R172; log 9). -/
def Room.liveNotices (r : Room) : Room := allSeats.foldl Room.liveNotice r

/-- 1 ms passes for the nine blocks. -/
def Room.tick (r : Room) : Room :=
  { r with
    map := { r.map with switch := r.map.switch.map fun x => { x with timer := down x.timer } }
    lines := r.lines.map Line.tick
    det := r.det.map Detector.tick
    mute := { r.mute with table := r.mute.table.map fun c => { c with expiry := down c.expiry } }
    floor := { r.floor with seats := r.floor.seats.map fun x => { x with timer := x.timer.tick } }
    mix := r.mix.tick
    link := { r.link with
      links := r.link.links.map fun x => { x with joinTimer := down x.joinTimer }
      timer := down r.link.timer }
    fb := { r.fb with seats := r.fb.seats.map FbSeat.tick } }

/-- 1 ms passes with no command waiting, the LIVE notices of starting ramps first; nothing moves while the reset input is
asserted (R184). -/
def State.tick (s : State) : State :=
  if s.held then s
  else
    { s with
      port := { s.port with gapTime := if s.port.rx.isEmpty then 0 else s.port.gapTime + 1 }.startTx
      room := s.room.liveNotices.tick }

end Sys2Proof.Machine
end

