-- ==== Sys2Proof/Machine/Step.lean ====
section
/-! DEFINITION. One step of the part: the command at the front of the queue, or, with none waiting, an expiry that has
fallen due, or 1 ms (log 2). -/

namespace Sys2Proof.Machine

open Sys2Proof

/-- With no command waiting: the first expiry due, or 1 ms; nothing while the reset input is asserted (R184). -/
def idle (s : State) : Host.Outcome State Fault Refusal :=
  if s.held then .next s
  else
    match s.dues with
    | c :: _ => exec c s
    | [] => .next s.tick

/-- One step. -/
def step (s : State) : Host.Outcome State Fault Refusal :=
  match s.pending with
  | c :: rest => exec c { s with pending := rest }
  | [] => idle s

/-- The command a word of the table's bits spells put at the front of the queue; the table gives no row bits, so no word
spells one. A command comes to run from reset by standing in `pending` (log 50). -/
def State.withFetchWord (s : State) (nbits w : Nat) : State :=
  match decodeTableWord nbits w with
  | some c => { s with pending := c :: s.pending }
  | none => s

end Sys2Proof.Machine
end

