-- ==== Sys2Proof/Machine/Audio.lean ====
section
/-! DEFINITION. What the part puts out, as functions of its state: the downstream frames (R21), the recorder and hearing
assist outputs (R118), the link ports' outbound lines (R141) and the control line (R187). -/

namespace Sys2Proof.Machine

open Sys2Proof

/-- One slot of a downstream frame (R21): 48 samples and the three indications. -/
structure DownSlot where
  loud : Samples
  ring : Ring
  talk : Lamp
  room : Lamp
  deriving DecidableEq, Repr

/-- A downstream frame (R21): the slots and the position addressed by an enumeration command, if any. -/
structure DownFrame where
  slots : Tab 20 DownSlot
  command : Option Pos
  deriving DecidableEq, Repr

/-- The loudspeaker audio of a position (R21): the bus of the seat it serves, silence where it is not present or serves
none. -/
def Room.loudAt (r : Room) (p : PodPos) : Samples :=
  match seatAt r.map.running p with
  | none => silence
  | some n => if (r.podAt p).present then r.busFrame (.loud n) else silence

/-- The slot of a position (R21). -/
def Room.downSlot (r : Room) (p : PodPos) : DownSlot :=
  let pod := r.podAt p
  ⟨r.loudAt p, pod.ring, pod.talk, pod.room⟩

/-- The enumeration command that goes out as it begins (R21, R28, R29). -/
def Line.command (l : Line) : Option Pos :=
  match l.scan, l.probe with
  | some e, _ => if e.left = 20 then some e.pos else none
  | none, some e => if e.left = 20 then some e.pos else none
  | none, none => none

/-- The downstream frame of a line (R21); none while the reset input is asserted (R184). -/
def State.downFrame (s : State) (l : LineNo) : Option DownFrame :=
  if s.held then none
  else some ⟨Tab.ofFn fun p => s.room.downSlot ⟨l, p⟩, (s.room.lines.get l).command⟩

/-- The samples that a link port's outbound line carries in 1 ms (R141): bus Ek, converted to the bridge's rate, or
silence. -/
def Room.portOut (r : Room) (k : Link) : List Int :=
  let l := r.linkRec k
  match l.locked, l.rate, l.st with
  | true, some _, .idle | true, some _, .fault => silence.toList
  | true, some rate, _ => converted 48000 rate (r.busFrame (.send k)).toList
  | _, _, _ => silence.toList

/-- The levels that the control line takes for what is being sent, each for the time of one bit at `Rate.baud`: the
characters of its bytes back to back (R187). An empty list is the idle line, which is high. -/
def State.lineOut (s : State) : List Bool :=
  match s.port.tx with
  | none => []
  | some x => x.bytes.flatMap charBits

/-- A bus as an output carries it: silent while the reset input is asserted (R184). -/
def State.outFrame (s : State) (b : Bus) : Samples := if s.held then silence else s.room.busFrame b

end Sys2Proof.Machine
end

