-- ==== Sys2Proof/Safety.lean ====
section
/-! DEFINITION. What is kept safe and what a command may touch: the bounds and shapes the spec gives the queues, the maps,
the claim table and the floor's collections; which gain components mutes, gates and links set; when a timer has run out;
when a request is taken at once; and the standing part of the room, which a command changes only where its rule says
so. -/

namespace Sys2Proof.Machine

open Sys2Proof

/-! ## Invariants -/

/-- The Control Port's capacities (R194): at most 4 frames and 32 records. -/
def Port.Bounded (p : Port) : Prop :=
  p.rxq.length ≤ 4 ∧ p.events.length ≤ 32

/-- No two entries of a map name the same pod position (R1). -/
def MapDistinct (m : Tab 40 Entry) : Prop :=
  ∀ i j : Seat, (m.get i).place.isSome → (m.get i).place = (m.get j).place → i = j

/-- Both maps are distinct (R1). -/
def SeatMapUnit.Distinct (m : SeatMapUnit) : Prop := MapDistinct m.running ∧ MapDistinct m.staged

/-- Both maps of a scene are distinct (R1, R174). -/
def Scene.Distinct (c : Scene) : Prop := MapDistinct c.running ∧ MapDistinct c.staged

/-- The scenes that the store holds, or is about to hold, have distinct maps (R174: a scene holds only settings that
were in range). -/
def Store.Distinct (s : Store) : Prop :=
  (∀ i : Fin 12, ∀ x : Image, (s.slots.get i).image = some x → x.scene.Distinct)
    ∧ ∀ i x, s.op = some (.saving i x) → x.scene.Distinct

/-- The maps of the room and of its scenes are distinct. -/
def Room.Distinct (r : Room) : Prop := r.map.Distinct ∧ r.store.Distinct

/-- The Placed Claim Table (R60): no two records with one number, and no two with the same claimant, scope and
direction. -/
def Mute.TableSound (m : Mute) : Prop :=
  (m.table.map (·.number)).Nodup ∧ (m.table.map fun c => (c.who, c.scope, c.dir)).Nodup

/-- The effective mute last derived is the one the flags, the claims, the map and the groups give (R70, R71). -/
def Room.Derived (r : Room) : Prop :=
  (∀ n : Seat, r.eff n = r.effOf n) ∧ ∀ k : Link, r.mute.links.get k = r.linkEffOf k

/-- No notice is under way (log 4, 5, 6). -/
def Room.Settled (r : Room) : Prop := r.out = [] ∧ r.box = [] ∧ r.begun = []

/-- A kept seat, and a seat whose hold timer runs, is in HOLD, and HOLD is a state of AUTO mode alone (R96, R97, R98). -/
def Floor.HoldSound (f : Floor) : Prop :=
  ∀ n : Seat,
    let x := f.seats.get n
    (x.kept = true → x.gate = .hold) ∧ (∀ left, x.timer = .hold left → x.gate = .hold)
    ∧ (x.gate = .hold → f.settings.mode = .auto)

/-- The invariant of the part that the first tier 3 statement speaks of: the port within its capacities, no notice under
way, and the kept field and the hold timer where they belong. -/
def State.Inv (s : State) : Prop := s.port.Bounded ∧ s.room.Settled ∧ s.room.floor.HoldSound

/-- What the blocks hold of each other is what stands, between commands: presence as the notices of R3 gave it, the mic
mute as those of R73 did, standby as those of R154 and R155, and the quiet flag as those of R108; a seat that is not
PRESENT has its privacy flag set (R56). -/
structure Room.Told (r : Room) : Prop where
  presence : ∀ n : Seat, (r.fseat n).presence = r.presence n ∧ (r.mseat n).presence = r.presence n
    ∧ (r.fbSeat n).presence = r.presence n
  privacy : ∀ n : Seat, (r.mseat n).presence ≠ .present → (r.mseat n).privacy = true
  muted : ∀ n : Seat, (r.fseat n).muted = (r.eff n).micMuted
  standby : r.floor.standby = decide (r.link.call = .standby) ∧ r.mix.standby = decide (r.link.call = .standby)
    ∧ ∀ l : LineNo, (r.line l).dark = decide (r.link.call = .standby)
  quiet : r.floor.quietSaid = r.quietNow ∧ r.map.quiet = r.quietNow

/-- The modes a gate state belongs to (section 5.2). -/
def GateState.allowed (g : GateState) (m : FloorMode) : Prop :=
  match g with
  | .closed => True
  | .waiting | .hold => m = .auto
  | .opened => m ≠ .request
  | .queued | .granted => m = .request

/-- The floor's collections and gates (R86, R90 to R93, R105, R106, R110): the collections within their limits, each
without duplicates, a seat in the collection that its gate state names and in no other; a gate state of the mode in
force; a seat open or WAITING only while admissible, and QUEUED only while PRESENT and outside standby; in OPEN mode
every admissible seat open. -/
structure Room.FloorSound (r : Room) : Prop where
  openLimit : r.floor.openList.length ≤ r.floor.settings.limit
  waitLimit : r.floor.waitList.length ≤ 8
  queueLimit : r.floor.queue.length ≤ 16
  openOnce : r.floor.openList.Nodup
  waitOnce : r.floor.waitList.Nodup
  queueOnce : r.floor.queue.Nodup
  inOpen : ∀ n, n ∈ r.floor.openList ↔
    (r.fseat n).gate.isOpen = true ∧ r.floor.settings.mode ≠ .opened ∧ r.chairFree n = false
  inWait : ∀ n, n ∈ r.floor.waitList ↔ (r.fseat n).gate = .waiting
  inQueue : ∀ n, n ∈ r.floor.queue ↔ (r.fseat n).gate = .queued
  modes : ∀ n, (r.fseat n).gate.allowed r.floor.settings.mode
  chairs : ∀ n, (r.fseat n).gate = .waiting ∨ (r.fseat n).gate = .queued → r.chairFree n = false
  admissible : ∀ n, (r.fseat n).gate.isOpen = true ∨ (r.fseat n).gate = .waiting →
    (r.fseat n).presence = .present ∧ (r.fseat n).muted = false ∧ r.floor.standby = false
  asking : ∀ n, (r.fseat n).gate = .queued → (r.fseat n).presence = .present ∧ r.floor.standby = false
  idling : ∀ n left, (r.fseat n).timer = .idle left → (r.fseat n).gate = .granted
  openMode : r.floor.settings.mode = .opened → ∀ n, (r.fseat n).presence = .present → (r.fseat n).muted = false →
    r.floor.standby = false → (r.fseat n).gate = .opened

/-- What the sound of a room rests on, block by block: the maps distinct, the mutes derived, the blocks told of each
other, the floor sound. -/
structure Room.Whole (r : Room) : Prop where
  distinct : r.Distinct
  derived : r.Derived
  told : r.Told
  floor : r.FloorSound

/-- 0 dB for a component that its owner holds up, off for one held down (R122). -/
def heldUp (up : Bool) : Gain := if up = true then .db 0 else .off

/-- Every gain component has the target that its owner's state gives (R122): the mutes of R124 to R126 the effective
mutes, the gate of R123 the gate state (0 dB in OPEN, HOLD and GRANTED, section 5.2), the open count of R128 the count
of open seats (R87), standby (R129) the room's standby, link-state (R127) the target in the link's record, which is
0 dB in JOINED and JOINING RAMP alone (R143 to R149), the feedback offset (R126) the monitor's, a tone's envelope off
while its player is IDLE and 0 dB or off while it is PLAYING (R133, R134), and the trims and levels the settings and the
running map (R120, R121, R135 to R138). -/
structure Room.MixFollows (r : Room) : Prop where
  mic : ∀ n, (r.mix.micMute.get n).target = heldUp (!(r.eff n).micMuted)
  speaker : ∀ n, (r.mix.speakerMute.get n).target = heldUp (!(r.eff n).spkMuted)
  send : ∀ k, (r.mix.sendMute.get k).target = heldUp (!(r.mute.links.get k).send)
  ret : ∀ k, (r.mix.returnMute.get k).target = heldUp (!(r.mute.links.get k).ret)
  gate : ∀ n, (r.mix.gate.get n).target = heldUp (r.fseat n).gate.isOpen
  openCount : r.mix.countIn = allSeats.countP (fun n => (r.fseat n).gate.isOpen) ∧ r.floor.lastCount = r.mix.countIn
    ∧ r.mix.openCount.target = .db (openCountLoss r.mix.countIn)
  standby : r.mix.standbyComp.target = heldUp (!r.mix.standby)
  linkState : ∀ k, (r.mix.linkState.get k).target = heldUp (r.linkRec k).up
    ∧ ((r.linkRec k).up = true ↔
      (r.linkRec k).st = .joined ∨ (r.linkRec k).st = .joining ∧ (r.linkRec k).phase = some .ramp)
  offset : ∀ n, (r.mix.fbOffset.get n).target = .db ((r.fbSeat n).offset * 500) ∧ (r.fbSeat n).offset ≤ 0
  trims : ∀ i, (r.mix.srcTrim.get i).target = halfDb (r.mix.settings.srcTrim.get i)
    ∧ (r.mix.busTrim.get i).target = halfDb (r.mix.settings.busTrim.get i)
  mics : ∀ n m, n ≠ m → ((r.mix.classMic.get n).get m).target = micLevel r.map.running r.mix.settings n m
  envelope : ∀ n, (r.mix.envelope.get n).target = .off
    ∨ (r.mix.envelope.get n).target = .db 0 ∧ (r.mix.players.get n).isSome = true
  levels : r.mix.classProgram.target = levelGain r.mix.settings.program
    ∧ r.mix.classAssist.target = levelGain r.mix.settings.assist
    ∧ r.mix.classBridge.target = heldUp r.mix.settings.bridging ∧ r.mix.classMicOut.target = .db 0
    ∧ r.mix.classFar.target = .db 0 ∧ ∀ n, (r.mix.toneLevel.get n).target = halfDb r.mix.settings.toneLevel

/-- While the part runs its components follow; while the reset input is asserted they stand at off (R184; log 10). -/
def State.Follows (s : State) : Prop := s.held = false → s.room.MixFollows

/-- A component to which its owner has given a target (R131): as it stood where that was its target, else on a fresh ramp
from where it stood. -/
def Comp.aimed (c : Comp) (g : Gain) (ms : Nat) : Comp := if c.target = g then c else c.moved g ms

/-- What a change of the effective mutes does to the mute components, from a room to a room (R72, R124 to R126): a
component whose mute has changed takes its new target over the mute ramp, or over 10 ms where a loudspeaker is muted for
FEEDBACK, and every other stands as it did. -/
def MutesReachMix (r r' : Room) : Prop :=
  let told := fun (was now : Bool) (c : Comp) (ms : Nat) => if was = now then c else c.aimed (heldUp (!now)) ms
  let ramp := r.mix.settings.muteRamp
  (∀ n, let e := r.eff n
    let e' := r'.eff n
    r'.mix.micMute.get n = told e.micMuted e'.micMuted (r.mix.micMute.get n) ramp
    ∧ r'.mix.speakerMute.get n = told e.spkMuted e'.spkMuted (r.mix.speakerMute.get n)
        (if e'.spkMuted = true ∧ e'.spkCause = .feedback then 10 else ramp))
  ∧ ∀ k, let e := r.mute.links.get k
    let e' := r'.mute.links.get k
    r'.mix.sendMute.get k = told e.send e'.send (r.mix.sendMute.get k) ramp
    ∧ r'.mix.returnMute.get k = told e.ret e'.ret (r.mix.returnMute.get k) ramp

/-- A gate that opens or closes takes its component with it, from a room to a room (R87, R123): toward 0 dB over the
attack ramp, toward off over the release ramp. -/
def GateReachesMix (r r' : Room) (n : Seat) (up : Bool) : Prop :=
  r'.mix.gate.get n
    = (r.mix.gate.get n).aimed (heldUp up) (if up = true then r.floor.settings.attack else r.floor.settings.release)

/-- What a floor event does to the open count, from a room to a room (R87, R128): a count other than the last sent goes
to the Mix Engine, whose component takes its target over 50 ms. -/
def CountReachesMix (r r' : Room) : Prop :=
  let count := allSeats.countP fun n => (r'.fseat n).gate.isOpen
  r'.floor.lastCount = count
  ∧ if count = r.floor.lastCount then r'.mix.countIn = r.mix.countIn ∧ r'.mix.openCount = r.mix.openCount
    else r'.mix.countIn = count ∧ r'.mix.openCount = r.mix.openCount.aimed (.db (openCountLoss count)) 50

/-- What the standby entry or exit notice does to the standby component, from a room to a room (R129). -/
def StandbyReachesMix (r r' : Room) (up : Bool) : Prop :=
  r'.mix.standby = !up ∧ r'.mix.standbyComp = r.mix.standbyComp.aimed (heldUp up) r.mix.settings.muteRamp

/-- What a new running map does to the class levels of the microphones, from a room to a room (R121): those of the pairs
whose near relation changed take their new targets over the mute ramp. -/
def NearReachesMix (r r' : Room) : Prop :=
  ∀ n m, n ≠ m → (r'.mix.classMic.get n).get m
    = ((r.mix.classMic.get n).get m).aimed (micLevel r'.map.running r.mix.settings n m) r.mix.settings.muteRamp

/-! ## When a timer has run out -/

/-- What an expiry waits for has run out in a state: the gap of more than 20 ms (R193), a ramp's time (R130), a tone's
length less 5 ms with its envelope not yet toward off (R133), the 20 ms of an enumeration command (R28, R29), each timer
at zero (R29, R37, R40, R48 to R50, R68, R97, R105, R12, R145, R153, R165), a window's length, its strongest band a
free value (R161; log 46). No other command is an expiry. -/
def State.RunOut (s : State) : Instr → Prop
  | .gap => 20 < s.port.gapTime ∧ s.port.rx ≠ []
  | .rampComplete id => ∃ p, (s.room.mix.comp id).ramp = some p ∧ p.total ≤ p.elapsed
  | .toneFade n => ∃ p, s.room.mix.players.get n = some p ∧ (s.room.mix.envelope.get n).target ≠ .off
      ∧ (match p.tone with
        | .muted => 245
        | .live => 245
        | .held => 145
        | .granted => 145) ≤ p.elapsed
  | .enumerationTimeout l => match (s.room.line l).scan with
      | some e => e.left = 0
      | none => ∃ e, (s.room.line l).probe = some e ∧ e.left = 0
  | .probeTimerExpiry l => (s.room.line l).probeTimer = some 0
  | .rehearsalEnd l => ∃ x, (s.room.line l).rehearsal = some x ∧ x.left = 0
  | .roomLampBlinkEnd l p => (s.room.podAt ⟨l, p⟩).blink = some 0
  | .seedTimerExpiry n => (s.room.det.get n).seed = some 0
  | .riseBlankExpiry n => (s.room.det.get n).rise = some 0
  | .fallGuardExpiry n => (s.room.det.get n).fall = some 0
  | .claimExpiry i => ∃ c ∈ s.room.mute.table, c.number = i ∧ c.expiry = some 0
  | .holdTimerExpiry n => (s.room.fseat n).timer = .hold 0
  | .idleTimerExpiry n => (s.room.fseat n).timer = .idle 0
  | .waitTimerExpiry => ∃ x, s.room.map.switch = some x ∧ x.timer = some 0
  | .joinTimerExpiry k => (s.room.linkRec k).joinTimer = some 0
  | .standbyTimerExpiry => s.room.link.timer = some 0
  | .windowEnd n centre peak => ∃ w, (s.room.fbSeat n).window = some w ∧ w.length ≤ w.elapsed
      ∧ (centre, peak) = Config.strongest w.frames
  | .retryTimerExpiry n => (s.room.fbSeat n).retryTimer = some 0
  | _ => False

/-! ## When a command is taken, and the state it leaves -/

/-- A request that arrives is taken at once (R195): the part is not held in reset, the line is not held low, no request
is in progress and no reply waits or is being sent. -/
def State.Free (s : State) : Prop :=
  s.held = false ∧ s.port.lineLow = false ∧ s.port.rxq = [] ∧ s.port.taken = false ∧ s.port.reply = none
    ∧ s.port.sendingReply = false ∧ s.room.Settled

/-- A command that is no request acts: the part is not held in reset. -/
def State.Awake (s : State) : Prop := s.held = false ∧ s.room.Settled

/-- Events queued one after another (R198). -/
def Port.queueAll (p : Port) (es : List Event) : Port := es.foldl Port.queueEvent p

/-- The state after a request that was taken at once: the frame is the one in progress, the events it caused are queued,
its reply waits or is being sent (R195, R197), and the blocks stand as given. -/
def State.replied (s : State) (f : Frame) (a : Answer) (es : List Event) (r : Room) : State :=
  { s with
    port := { ({ s.port with rxq := [f] }.queueAll es) with taken := true, reply := some (replyFrame f a) }.startTx
    room := r }

/-- The state after a command that is no request: its events are queued, the transmitter goes on, and the blocks stand as
given. -/
def State.moved (s : State) (es : List Event) (r : Room) : State :=
  { s with port := (s.port.queueAll es).startTx, room := r }

/-- A request that is answered with data and changes nothing else. -/
def State.told (s : State) (f : Frame) (status : Status) (data : List Byte) : State :=
  s.replied f ⟨status, data⟩ [] s.room

/-- A request is taken at once and no map switch is pending, so that no QUIET that the request leads to carries out a
switch (R15). -/
def State.Calm (s : State) : Prop := s.Free ∧ s.room.map.switch = none

/-- A command acts, and no map switch is pending. -/
def State.Steady (s : State) : Prop := s.Awake ∧ s.room.map.switch = none

/-- What R16 says of a swap: where `keep` holds, the seats locked in the running map stay, and an entry that names a
position of a staying seat's entry in the map it moves to loses it. -/
def SwapRule (keep : Bool) (running staged running' staged' : Tab 40 Entry) : Prop :=
  let stays := fun m : Seat => keep = true ∧ (running.get m).locked = true
  let taken := fun (map : Tab 40 Entry) (place : Option PodPos) =>
    place.isSome = true ∧ ∃ m, stays m ∧ (map.get m).place = place
  ∀ n : Seat,
    (stays n → running'.get n = running.get n ∧ staged'.get n = staged.get n)
    ∧ (¬ stays n →
        (taken running (staged.get n).place → running'.get n = { staged.get n with place := none })
        ∧ (¬ taken running (staged.get n).place → running'.get n = staged.get n)
        ∧ (taken staged (running.get n).place → staged'.get n = { running.get n with place := none })
        ∧ (¬ taken staged (running.get n).place → staged'.get n = running.get n))

/-- What a re-seating leaves of the flags, the claims and the trip records, from a room to a room, with the events it gives
(R59, R80, R81, R166): a re-seated seat's self flag is cleared and its privacy flag is that of its new pod; the CHAIR
claims of re-seated seats that have lost role CHAIR go, with CLAIM_GONE; a seat whose presence changes has its record
cleared, and every other seat keeps flags and record. -/
def ReseatLeaves (r r' : Room) (es : List Event) : Prop :=
  let reseated := fun n : Seat => (r.map.running.get n).place ≠ (r'.map.running.get n).place
    ∨ (r.map.running.get n).role ≠ (r'.map.running.get n).role
  let ended := fun x : Claim => match x.who with
    | .chair n => decide (reseated n ∧ (r'.map.running.get n).role ≠ .chair)
    | _ => false
  (r.mute.TableSound →
    r'.mute.table = r.mute.table.filter (fun x => !ended x)
    ∧ ∀ x ∈ r.mute.table, ended x = true → .claimGone x .roleLost ∈ es)
  ∧ ∀ n : Seat,
    (reseated n →
      (r'.mseat n).self = false
      ∧ (r'.mseat n).privacy = (decide (r'.presence n ≠ .present) || match (r'.map.running.get n).place with
        | none => true
        | some p => (r'.podAt p).privacy)
      ∧ (r'.mseat n).feedback
        = if r'.presence n = r.presence n ∨ r'.presence n = .present then (r.mseat n).feedback else false)
    ∧ (¬ reseated n → (r'.mseat n).privacy = (r.mseat n).privacy ∧ (r'.mseat n).self = (r.mseat n).self
      ∧ (r'.mseat n).feedback = (r.mseat n).feedback ∧ (r'.mseat n).presence = (r.mseat n).presence)
    ∧ (r'.presence n = r.presence n → (r'.fbSeat n).trips = (r.fbSeat n).trips ∧ (r'.fbSeat n).flag = (r.fbSeat n).flag
      ∧ (r'.fbSeat n).tripMode = (r.fbSeat n).tripMode ∧ (r'.fbSeat n).tripRetry = (r.fbSeat n).tripRetry
      ∧ (r'.fbSeat n).retryTimer = (r.fbSeat n).retryTimer ∧ (r'.fbSeat n).offset = (r.fbSeat n).offset)
    ∧ (r'.presence n ≠ r.presence n → r'.presence n ≠ .present → (r'.fbSeat n).presence = r'.presence n
      ∧ (r'.fbSeat n).trips = 0 ∧ (r'.fbSeat n).flag = false ∧ (r'.fbSeat n).tripMode = none
      ∧ (r'.fbSeat n).tripRetry = none ∧ (r'.fbSeat n).retryTimer = none ∧ (r'.fbSeat n).offset = 0)

/-! ## Gains and levels as the rules list them -/

/-- The sum of some gains: off where one of them is (R122). -/
def totalGain (gs : List Gain) : Gain :=
  if Gain.off ∈ gs then .off
  else .db (gs.map fun g => match g with
    | .db v => v
    | .off => 0).sum

/-- The gain components of a term of a bus (R120, R122). -/
def Mix.termParts (m : Mix) (b : Bus) (s : Source) : List Comp :=
  (match s with
    | .mic n => [m.gate.get n, m.micMute.get n, m.srcTrim.get ⟨n.val, by omega⟩]
    | .far k => [m.returnMute.get k, m.linkState.get k, m.srcTrim.get ⟨40 + k.val, by omega⟩]
    | .program false => [m.srcTrim.get 44]
    | .program true => [m.srcTrim.get 45]
    | .tone n => [m.envelope.get n])
  ++ (match b, s with
    | .loud n, .mic k => [(m.classMic.get n).get k]
    | _, .mic _ => [m.classMicOut]
    | .send _, .far _ => [m.classBridge]
    | _, .far _ => [m.classFar]
    | .assist, .program _ => [m.classAssist]
    | _, .program _ => [m.classProgram]
    | _, .tone n => [m.toneLevel.get n])
  ++ (match b, s with
    | .loud _, _ => [m.standbyComp]
    | _, .mic _ => [m.openCount]
    | _, _ => [])

/-- The whole-bus components of a bus (R122). -/
def Mix.busParts (m : Mix) : Bus → List Comp
  | .loud n => [m.speakerMute.get n, m.fbOffset.get n, m.busTrim.get ⟨n.val, by omega⟩]
  | .send k => [m.sendMute.get k, m.linkState.get k, m.busTrim.get ⟨40 + k.val, by omega⟩]
  | .recorder => [m.busTrim.get 44]
  | .assist => [m.busTrim.get 45]

/-- The current gain of a term of a bus (R122). -/
def Mix.termNow (m : Mix) (b : Bus) (s : Source) : Gain := totalGain ((m.termParts b s).map Comp.current)

/-- The target gain of a term of a bus (R122). -/
def Mix.termGoal (m : Mix) (b : Bus) (s : Source) : Gain := totalGain ((m.termParts b s).map fun c => c.target)

/-- The current whole-bus gain of a bus (R122). -/
def Mix.busNow (m : Mix) (b : Bus) : Gain := totalGain ((m.busParts b).map Comp.current)

/-- A value is the mean-square level in half-decibels of `count` samples whose squares sum to `energy`, in the unit of
log 14: to the nearest half-decibel, within -100.0 and +20.0 dB (R43, R161; log 14, 20). -/
def LevelIs (energy count : Nat) (v : Int) : Prop :=
  (energy < count → v = -200) ∧ (count * 10 ^ 12 ≤ energy → v = 40)
  ∧ (count ≤ energy → energy < count * 10 ^ 12 → -200 ≤ v ∧ v ≤ 40
    ∧ count ^ 40 * 10 ^ (2 * (v + 200).toNat) ≤ 10 * energy ^ 40
    ∧ 10 * energy ^ 40 < count ^ 40 * 10 ^ (2 * (v + 200).toNat + 2))

/-! ## The standing part of the room -/

/-- What a pod record says of its pod, without the indications it shows. -/
structure PodFacts where
  present : Bool
  kind : PodKind
  privacy : Bool
  bad : Nat
  deriving DecidableEq, Repr

/-- What stands of a Pod Line controller, its standby apart. -/
structure LineFacts where
  lstate : LineState
  pods : Tab 20 PodFacts
  expected : Nat
  lostLimit : Nat
  scan : Option Enumeration
  probe : Option Enumeration
  probeTimer : Option Nat
  rehearsal : Option Rehearsal
  termReported : Nat
  deriving DecidableEq, Repr

/-- The standing flags of a seat, with its presence as the Arbiter holds it. -/
structure FlagFacts where
  privacy : Bool
  self : Bool
  feedback : Bool
  presence : Presence
  deriving DecidableEq, Repr

/-- What stands of the monitor's record of a seat. -/
structure TripFacts where
  presence : Presence
  trips : Nat
  tripMode : Option FbMode
  tripRetry : Option Nat
  flag : Bool
  retryTimer : Option Nat
  offset : Int
  deriving DecidableEq, Repr

/-- The standing part of the room: settings, maps, pods, flags, claims, links, trips and the store. Gates, effective
mutes, gains, tones, levels, windows, indications and the quiet flag follow events and are not here. -/
structure Standing where
  running : Tab 40 Entry
  staged : Tab 40 Entry
  groups : Tab 8 (Tab 40 Bool)
  switch : Option Switch
  waitLimit : Nat
  lines : Tab 2 LineFacts
  dark : Tab 2 Bool
  detectors : Tab 40 DetSettings
  flags : Tab 40 FlagFacts
  table : List Claim
  stamp : Nat
  linkIdle : Tab 4 Bool
  floor : FloorSettings
  floorStandby : Bool
  mix : MixSettings
  mixStandby : Bool
  links : Tab 4 LinkRec
  call : CallSt
  delay : Nat
  feedback : FbSettings
  trips : Tab 40 TripFacts
  store : Store
  deriving DecidableEq, Repr

/-- A pod without its indications. -/
def Pod.facts (p : Pod) : PodFacts := ⟨p.present, p.kind, p.privacy, p.bad⟩

/-- What stands of a line. -/
def Line.facts (l : Line) : LineFacts where
  lstate := l.lstate
  pods := l.pods.map Pod.facts
  expected := l.expected
  lostLimit := l.lostLimit
  scan := l.scan
  probe := l.probe
  probeTimer := l.probeTimer
  rehearsal := l.rehearsal
  termReported := l.termReported

/-- The flags of a seat. -/
def MuteSeat.facts (s : MuteSeat) : FlagFacts := ⟨s.privacy, s.self, s.feedback, s.presence⟩

/-- The monitor's standing record of a seat. -/
def FbSeat.facts (s : FbSeat) : TripFacts :=
  ⟨s.presence, s.trips, s.tripMode, s.tripRetry, s.flag, s.retryTimer, s.offset⟩

/-- The standing part of a room. -/
def Room.standing (r : Room) : Standing where
  running := r.map.running
  staged := r.map.staged
  groups := r.map.groups
  switch := r.map.switch
  waitLimit := r.map.waitLimit
  lines := r.lines.map Line.facts
  dark := r.lines.map Line.dark
  detectors := r.det.map Detector.settings
  flags := r.mute.seats.map MuteSeat.facts
  table := r.mute.table
  stamp := r.mute.stamp
  linkIdle := r.mute.linkIdle
  floor := r.floor.settings
  floorStandby := r.floor.standby
  mix := r.mix.settings
  mixStandby := r.mix.standby
  links := r.link.links
  call := r.link.call
  delay := r.link.delay
  feedback := r.fb.settings
  trips := r.fb.seats.map FbSeat.facts
  store := r.store

/-! ## Shapes the statements name -/

/-- What a trip leaves in the standing record of a seat, and the action it takes (R162, R163, R164). -/
def TripLeaves (set : FbSettings) (x : TripFacts) (y : TripFacts) (action : TripAction) : Prop :=
  let count := min 255 (x.trips + 1)
  let mode := if count = 1 then some set.mode else x.tripMode
  let retry := if count = 1 then some set.retry else x.tripRetry
  let base : TripFacts := { x with trips := count, tripMode := mode, tripRetry := retry }
  (mode = some .latch → y = { base with flag := true } ∧ action = .latch)
  ∧ (mode = some .retry → count ≤ 3 →
      y = { base with flag := true, offset := x.offset - 6, retryTimer := some (retry.getD 0 * 1000) }
      ∧ action = .retry)
  ∧ (mode = some .retry → 3 < count → y = { base with flag := true } ∧ action = .latched)
  ∧ (mode ≠ some .latch → mode ≠ some .retry → y = base ∧ action = .report)

/-- The event of a trip with the record it leaves (R163, R164, R170): LATCHED for a fourth trip, else TRIP, with the retry
time where the action is RETRY. -/
def tripEvent (n : Seat) (y : TripFacts) (action : TripAction) (rehearsed : Bool) : Event :=
  match action with
  | .latched => .latchedEv n y.trips y.offset rehearsed
  | .retry => .trip n y.trips .retry y.offset (y.tripRetry.getD 0) rehearsed
  | a => .trip n y.trips a y.offset 0 rehearsed

/-- What the loss of a pod leaves of the seat it served, from a room to a room, with the events it gives (R26, R3): the
Mute Arbiter holds the seat ABSENT, its privacy flag set and its feedback flag clear (R56, R59), its self flag as it was
(R57), no spell under way (R79); the monitor has cleared its record, with RELEASE where it was tripped (R166); its gate is
CLOSED, with reason ABSENT where it was open, and it is off the lists (R109), where a WAITING or QUEUED seat may have been
admitted first as another seat was lost; and its detector is held (R50). The events at the floor are those of a room whose
mutes are derived (R71), as every step leaves them. -/
def SeatLost (r r' : Room) (n : Seat) (es : List Event) : Prop :=
  let was := r.fseat n
  let now := r'.fseat n
  let d := r'.det.get n
  ((r'.mseat n).facts = ⟨true, (r.mseat n).self, false, .absent⟩ ∧ (r'.mseat n).speaking = false
    ∧ (r'.mseat n).spell = false ∧ (r'.eff n).micMuted = true ∧ (r'.eff n).micCause = .privacy)
  ∧ ((r'.fbSeat n).facts = ⟨.absent, 0, none, none, false, none, 0⟩ ∧ (r'.fbSeat n).consecutive = 0
    ∧ (r'.fbSeat n).window = none ∧ ((r.fbSeat n).trips ≠ 0 → .releaseEv n .absent 0 0 ∈ es)
    ∧ ((r.fbSeat n).offset < 0 → (r'.mix.fbOffset.get n).target = .db 0))
  ∧ (now.presence = .absent ∧ now.speaking = false
    ∧ (was.gate ≠ .closed ∨ n ∉ r.floor.waitList ∧ n ∉ r.floor.queue → now.gate = .closed))
  ∧ (was.gate ≠ .closed → now.timer = .off ∧ now.kept = false
    ∧ n ∉ r'.floor.openList ∧ n ∉ r'.floor.waitList ∧ n ∉ r'.floor.queue)
  ∧ (r.Derived →
    (was.gate.isOpen = true → n ∉ r.floor.waitList → n ∉ r.floor.queue → .closedEv n was.gate .absent ∈ es)
    ∧ (was.gate = .waiting → .dequeuedEv n .wait .absent ∈ es ∨ .dequeuedEv n .wait .admitted ∈ es)
    ∧ (was.gate = .queued → .dequeuedEv n .request .absent ∈ es ∨ .dequeuedEv n .request .admitted ∈ es))
  ∧ (d.held = true ∧ d.dstate = .silent ∧ d.acc = 0 ∧ d.due = false ∧ d.endTimer = 0 ∧ d.seed = none ∧ d.rise = none
    ∧ d.fall = none ∧ d.noiseFloor = -100000)

/-- What the loss of some pods leaves of every seat (R26): each seat that a lost pod served as `SeatLost` says, and the
flags and the trip record of every other seat as they were. -/
def LossLeaves (r r' : Room) (lost : PodPos → Prop) (es : List Event) : Prop :=
  ∀ n : Seat,
    (∀ p, lost p → seatAt r.map.running p = some n → SeatLost r r' n es)
    ∧ ((∀ p, lost p → seatAt r.map.running p ≠ some n) →
      (r'.mseat n).facts = (r.mseat n).facts ∧ (r'.fbSeat n).facts = (r.fbSeat n).facts)

/-- A named value in one byte, by its place in the list its chapter gives (R188). -/
def listed {α : Type} [DecidableEq α] (values : List α) (v : α) : Byte := byteOf (values.findIdx fun w => w = v)

/-- What the mic ring, the talk lamp and the room lamp of a position show (R35 to R38): all OFF at a position that is not
present, serves no seat or lies on a line in standby, else what its view calls for. -/
def Room.shown (r : Room) (p : PodPos) : Ring × Lamp × Lamp :=
  let pod := r.podAt p
  let v := pod.view
  if pod.present = true ∧ (∃ n : Seat, (r.map.running.get n).place = some p) ∧ (r.line p.line).dark = false then
    (if v.talking = true then .blinkRed
      else if v.mic = .standing then .red
      else if v.mic = .placed then .amber
      else if v.floor = .opened ∨ v.floor = .hold ∨ v.floor = .granted then .green
      else .off,
     if v.floor = .queued then .blink else if v.floor = .granted then .steady else .off,
     if pod.kind = .member then .off
      else if pod.blink.isSome = true then .blink
      else if v.roomClaim = true then .steady
      else .off)
  else (.off, .off, .off)

/-- The indications of a position are those its view calls for. -/
def Room.Shows (r : Room) (p : PodPos) : Prop := ((r.podAt p).ring, (r.podAt p).talk, (r.podAt p).room) = r.shown p

/-- The view of a seat as the Floor Controller and the Mute Arbiter give it (R35, section 2.7). -/
def Room.viewOf (r : Room) (n : Seat) : View where
  floor := (r.fseat n).gate
  mic := (r.eff n).kind
  talking := (r.mseat n).spell
  roomClaim := decide ((r.map.running.get n).role = .chair
    ∧ ∃ c ∈ r.mute.table, c.who = .chair n ∧ c.scope = .members ∧ c.dir = .mic)

/-- A seat's self flag cleared, the mutes not yet derived (R58). -/
def Room.selfCleared (r : Room) (n : Seat) : Room := r.setMuteSeat n fun y => { y with self := false }

/-- A seat that asks is a direct candidate (R101). -/
def Room.asksDirectly (r : Room) (n : Seat) : Prop :=
  r.chairFree n = true
    ∨ r.floor.settings.autoGrant = true ∧ r.floor.openList.length < r.floor.settings.limit
      ∧ ∀ m ∈ r.floor.queue, (r.fseat m).muted = true

/-- What a refusal notice leaves at the chair console of a seat: the room lamp blinks for 2000 ms (R37). -/
def Room.LampBlinks (r : Room) (p : PodPos) : Prop := (r.podAt p).blink = some 2000 ∧ (r.podAt p).room = .blink

/-- A press taken at a position that serves seat `n`, from a room to a room, with the events it gives (R32, R33, R34). -/
structure Press where
  before : Room
  place : PodPos
  seat : Seat
  events : List Event
  after : Room

/-- A press in standby is a wake request and no more: the room wakes, its standby timer started and its standby component
up (R34, R129, R153, R155). -/
def Press.Wakes (x : Press) : Prop :=
  (x.before.link.call = .standby →
    .callStateEv (x.seat.val + 1) .idle .standby .press ∈ x.events
    ∧ x.after.link.timer = (if x.before.link.delay = 0 then none else some (x.before.link.delay * 60000))
    ∧ StandbyReachesMix x.before x.after true
    ∧ x.after.standing = { x.before.standing with
        call := .idle, floorStandby := false, mixStandby := false, dark := Tab.fill 2 false })
  ∧ (x.before.link.call ≠ .standby → x.events = [] ∧ x.after.standing = x.before.standing)

/-- A MIC press toggles the seat's self flag, with HELD_PRESS where the seat stays muted (R57, R77, R78). -/
def Press.TogglesSelf (x : Press) : Prop :=
  x.after.Derived
  ∧ x.after.standing = { x.before.standing with
      flags := x.before.standing.flags.modify x.seat fun y => { y with self := !y.self } }
  ∧ ((x.before.mseat x.seat).self = true → (x.after.eff x.seat).micMuted = true →
      .heldPress x.seat .mic (x.after.eff x.seat).micCause ∈ x.events)

/-- A TALK press outside REQUEST mode is a talk release (R58, R94). -/
def Press.Releases (x : Press) : Prop :=
  x.after.Derived
  ∧ x.after.standing = { x.before.standing with flags := (x.before.selfCleared x.seat).standing.flags }
  ∧ ((x.after.eff x.seat).micMuted = true → .heldPress x.seat .talk (x.after.eff x.seat).micCause ∈ x.events)

/-- A TALK press in REQUEST mode asks, or takes back what was asked or granted (R101, R102). -/
def Press.Asks (x : Press) : Prop :=
  let n := x.seat
  let gate := (x.before.fseat n).gate
  let direct := x.before.asksDirectly n
  let freed := x.before.selfCleared n
  let flagged := { x.before.standing with flags := freed.standing.flags }
  (gate = .queued → (x.after.fseat n).gate = .closed ∧ .dequeuedEv n .request .cancelled ∈ x.events
    ∧ x.after.standing = x.before.standing)
  ∧ (gate = .granted → (x.after.fseat n).gate = .closed ∧ .closedEv n .granted .done ∈ x.events
    ∧ x.after.standing = x.before.standing)
  ∧ (gate ≠ .queued → gate ≠ .granted →
    (¬ direct → x.before.floor.queue.length = 16 →
      .refusedEv n .queueFull ∈ x.events ∧ x.after.standing = x.before.standing)
    ∧ ((direct ∨ x.before.floor.queue.length ≠ 16) → (freed.effOf n).micMuted = true →
      .heldPress n .talk (freed.effOf n).micCause ∈ x.events ∧ x.after.standing = flagged)
    ∧ (direct → (freed.effOf n).micMuted = false → (x.after.fseat n).gate = .granted ∧ x.after.standing = flagged)
    ∧ (¬ direct → x.before.floor.queue.length ≠ 16 → (freed.effOf n).micMuted = false →
      ((x.after.fseat n).gate = .queued ∨ (x.after.fseat n).gate = .granted)
      ∧ (∃ place, .queuedEv n .request place ∈ x.events) ∧ x.after.standing = flagged))

/-- A chair's ROOM press lifts the chair's own MEMBERS/MIC claim, or places it, or is refused (R64, R65). -/
def Press.TogglesRoomClaim (x : Press) : Prop :=
  let table := x.before.mute.table
  let own := table.find? fun c => decide (c.who = .chair x.seat ∧ c.scope = .members ∧ c.dir = .mic)
  let lamp := fun on : Lamp => if (x.after.podAt x.place).blink.isSome = true then Lamp.blink else on
  (∀ c, own = some c → .claimGone c .lifted ∈ x.events ∧ x.after.Derived
    ∧ x.after.standing = { x.before.standing with table := table.filter fun y => y.number ≠ c.number }
    ∧ (x.after.podAt x.place).room = lamp .off)
  ∧ (∀ i : Fin 48, own = none → (∀ c ∈ table, c.number ≠ i) → (∀ j : Fin 48, j < i → ∃ c ∈ table, c.number = j) →
    x.after.Derived
    ∧ x.after.standing = { x.before.standing with
        table := table ++ [⟨i, .chair x.seat, .members, .mic, none, x.before.mute.stamp⟩]
        stamp := x.before.mute.stamp + 1 }
    ∧ (x.after.podAt x.place).room = lamp .steady)
  ∧ (own = none → (∀ i : Fin 48, ∃ c ∈ table, c.number = i) →
    .claimRefused x.seat ∈ x.events ∧ x.after.standing = x.before.standing ∧ x.after.LampBlinks x.place)

/-- A chair's NEXT press grants the oldest grantable seat, or is refused; outside REQUEST mode it is discarded (R94, R103). -/
def Press.GrantsNext (x : Press) : Prop :=
  let f := x.before.floor
  let oldest := f.queue.find? fun m => decide ((f.seats.get m).muted = false)
  x.after.standing = x.before.standing
  ∧ (f.settings.mode ≠ .request → x.events = [])
  ∧ (f.settings.mode = .request →
    (oldest = none → .refusedEv x.seat .noRequest ∈ x.events ∧ x.after.LampBlinks x.place)
    ∧ (∀ m, oldest = some m → f.settings.limit ≤ f.openList.length →
      .refusedEv x.seat .noSlot ∈ x.events ∧ x.after.LampBlinks x.place)
    ∧ (∀ m, oldest = some m → f.openList.length < f.settings.limit →
      (x.after.fseat m).gate = .granted ∧ ∃ place, .openedEv m .granted place ∈ x.events))

/-- A chair's CLEAR press closes the members of the floor (R107). -/
def Press.ClearsFloor (x : Press) : Prop :=
  let f := x.before.floor
  let member := fun n : Seat => (x.before.map.running.get n).role = .member
  x.after.standing = x.before.standing
  ∧ ((f.standby = true ∨ f.settings.mode = .opened) → x.events = [])
  ∧ (f.standby = false → f.settings.mode = .auto → (∀ n ∈ f.waitList, (f.seats.get n).gate = .waiting) →
    ∀ n, member n → (x.after.fseat n).gate = .closed
      ∧ ((f.seats.get n).gate = .waiting → .dequeuedEv n .wait .cleared ∈ x.events)
      ∧ ((f.seats.get n).gate.isOpen = true → .closedEv n (f.seats.get n).gate .cleared ∈ x.events))
  ∧ (f.standby = false → f.settings.mode = .request → (∀ n ∈ f.queue, (f.seats.get n).gate = .queued) →
    x.after.floor.queue = [] ∧ (∀ n ∈ f.queue, .dequeuedEv n .request .cleared ∈ x.events)
    ∧ ∀ n, member n → (x.after.fseat n).gate ≠ .granted
      ∧ ((f.seats.get n).gate = .granted → .closedEv n .granted .cleared ∈ x.events))

/-- What a press does (R32 to R34): in standby it wakes the room; outside it is floor activity, and is delivered by its
button, ROOM, NEXT and CLEAR only from a chair console whose seat has role CHAIR. The mutes that it changes reach their
components (R72). -/
def Press.Taken (x : Press) (button : Button) : Prop :=
  let chairs := button = .room ∨ button = .next ∨ button = .clear
  let console := (x.before.podAt x.place).kind = .chair
  let chair := (x.before.map.running.get x.seat).role = .chair
  let mode := x.before.floor.settings.mode
  MutesReachMix x.before x.after
  ∧ ((x.before.line x.place.line).dark = true → x.Wakes)
  ∧ ((x.before.line x.place.line).dark = false →
    (x.before.link.call = .idle →
      x.after.link.timer = if x.before.link.delay = 0 then none else some (x.before.link.delay * 60000))
    ∧ (button = .mic → x.TogglesSelf)
    ∧ (button = .talk → mode ≠ .request → x.Releases)
    ∧ (button = .talk → mode = .request → x.Asks)
    ∧ (console → chair → (button = .room → x.TogglesRoomClaim) ∧ (button = .next → x.GrantsNext)
      ∧ (button = .clear → x.ClearsFloor))
    ∧ (chairs → console → ¬ chair →
      x.events = [.roleMismatch x.seat button x.place] ∧ x.after.standing = x.before.standing
      ∧ x.after.lines = x.before.lines)
    ∧ (chairs → ¬ console → x.events = [] ∧ x.after.standing = x.before.standing))

/-- The commands within which the floor may go quiet and a pending switch be carried out for it (R15; the SWAP lines of
95_what_each_step_holds.md), the requests about a switch apart. -/
def waitsForQuiet : Instr → Bool
  | .upstreamFrame _ _ => true
  | .holdTimerExpiry _ => true
  | .idleTimerExpiry _ => true
  | .standbyTimerExpiry => true
  | .floorDrop _ _ => true
  | .floorClear _ => true
  | .floorSet _ _ _ _ _ _ _ _ _ _ => true
  | .mutePlace _ _ _ _ _ _ _ => true
  | .groupSet _ _ _ => true
  | .lineScan _ _ => true
  | .lineSet _ _ _ _ => true
  | .lineRehearse _ _ _ _ _ => true
  | _ => false

/-- The settings in force as a scene (R174, R176). -/
def sceneOf (r : Room) (name : List Byte) : Scene where
  name := name
  running := r.map.running
  staged := r.map.staged
  groups := r.map.groups
  waitLimit := r.map.waitLimit
  lines := r.lines.map fun l => ⟨l.expected, l.lostLimit⟩
  detectors := r.det.map fun d => d.settings
  floor := r.floor.settings
  mix := r.mix.settings
  feedback := r.fb.settings
  delay := r.link.delay

end Sys2Proof.Machine
end

