-- ==== Sys2Proof/WellFormed.lean ====
section
/-! DEFINITION. Which commands can come about on the part's lines and pins: requests that fit a frame, and reports that a
pod, a port or a store can make. The meanings are total; a command that is not well formed is one no sender of the
spec can send. -/

namespace Sys2Proof

/-- The kinds of the table of request kinds (section 10.2). -/
def tableKinds : List Nat :=
  [0x01, 0x02, 0x03, 0x10, 0x11, 0x12, 0x13, 0x14, 0x15, 0x18, 0x19, 0x1A, 0x1B, 0x20, 0x21, 0x28, 0x29, 0x2A, 0x2B]
  ++ [0x30, 0x31, 0x32, 0x33, 0x34, 0x35, 0x38, 0x39, 0x3A, 0x40, 0x41, 0x42, 0x43, 0x44, 0x45, 0x46]
  ++ [0x48, 0x49, 0x4A, 0x4B, 0x50, 0x51, 0x52, 0x53, 0x54, 0x55]

/-- A body fits a frame (section 10.2): at most 253 bytes. -/
def fitsFrame (bytes : Nat) : Bool := bytes ≤ 253

/-- A status record is one its pod can report (R22): ROOM, NEXT and CLEAR stand on a chair console only. -/
def StatusRecord.wf (s : StatusRecord) : Bool := s.kind = .chair || !(s.room || s.next || s.clear)

/-- An upstream frame is one a line can bring (R22): its terminator report is 0 to 20, its status records are those
of their pods. -/
def UpFrame.wf (f : UpFrame) : Bool := f.term.value ≤ 20 && f.slots.toList.all fun s => s.status.wf

/-- A command is well formed. -/
def Instr.wf : Instr → Bool
  | .mapLoad _ _ _ entries => fitsFrame (2 + 3 * entries.length)
  | .groupSet _ _ seats => fitsFrame (1 + seats.length)
  | .sceneSave _ _ name => fitsFrame (1 + name.length)
  | .unknown _ kind body => fitsFrame body.length && !tableKinds.contains kind.toNat
  | .upstreamFrame _ frame => frame.wf
  | .clockMeasurement _ (some x) => 0 < x.rate
  | _ => true

end Sys2Proof
end

