-- ==== Sys2Proof/Certificates/Slice0/Obligations.lean ====
section
/-! DEFINITION. The statements for the provers: what each command does and leaves alone, and what every step keeps. -/

open Sys2Proof Sys2Proof.Machine

/-! ## The machine as a whole -/

/-- A step with a command waiting is that command on the state with the rest of the queue. -/
def Obligations.StepRunsFrontCommand : Prop :=
  ∀ (s : State) (c : Instr) (rest : List Instr),
    s.pending = c :: rest → step s = exec c { s with pending := rest }

/-- A step with no command waiting takes the first expiry that has fallen due, or lets 1 ms pass; with the reset input
asserted it changes nothing (the model's choice, log 2 and 10). What the 1 ms does: every timer counts down by 1 ms, a
ramp in flight runs on and its component stands at the point it has reached (R130), a tone and a window run on, and a
seat whose speaker mute component has left off with its mark OFF gets its LIVE notice first (R160, R172; log 9). That
a ramp moves once in a ms, and no finer, is the model's choice (log 73), and so is that its point is cut to whole
thousandths of a dB (log 30). What has fallen due: an expiry is due exactly
when what it waits for has run out, the gap of the receiver (R193), a ramp (R130), a tone (R133), an enumeration command
(R28, R29), a window (R161, its strongest band a free value, log 46), and each timer at zero (`State.RunOut`). -/
def Obligations.EmptyQueueTakesDueOrTicks : Prop :=
  (∀ s : State, s.pending = [] →
    (s.held = true → step s = .next s)
    ∧ (∀ c cs, s.held = false → s.dues = c :: cs → step s = exec c s)
    ∧ (s.held = false → s.dues = [] → step s = .next s.tick))
  ∧ (∀ s : State, s.held = false →
    let r := s.room
    let t := s.tick.room
    let down := fun left : Option Nat => left.map fun ms => ms - 1
    s.tick = { s with
        port := { s.port with gapTime := if s.port.rx = [] then 0 else s.port.gapTime + 1 }.startTx
        room := { r with lines := t.lines, det := t.det, mute := t.mute, floor := t.floor, mix := t.mix, fb := t.fb
                         map := { r.map with switch := r.map.switch.map fun x => { x with timer := down x.timer } }
                         link := { r.link with
                           links := r.link.links.map fun x => { x with joinTimer := down x.joinTimer }
                           timer := down r.link.timer } } }
    ∧ (∀ l, t.line l = { r.line l with
        scan := (r.line l).scan.map fun e => { e with left := e.left - 1 }
        probe := (r.line l).probe.map fun e => { e with left := e.left - 1 }
        probeTimer := down (r.line l).probeTimer
        rehearsal := (r.line l).rehearsal.map fun x => { x with left := x.left - 1 }
        pods := (r.line l).pods.map fun p => { p with blink := down p.blink } })
    ∧ (∀ n, t.det.get n = { r.det.get n with
        seed := down (r.det.get n).seed, rise := down (r.det.get n).rise, fall := down (r.det.get n).fall })
    ∧ t.mute = { r.mute with table := r.mute.table.map fun c => { c with expiry := down c.expiry } }
    ∧ t.floor = { r.floor with seats := t.floor.seats }
    ∧ (∀ n, t.fseat n = { r.fseat n with timer := match (r.fseat n).timer with
        | .off => .off
        | .hold left => .hold (left - 1)
        | .idle left => .idle (left - 1) })
    ∧ (∀ id,
        let c := r.mix.comp id
        (t.mix.comp id).target = c.target
        ∧ (c.ramp = none → t.mix.comp id = c)
        ∧ ∀ p, c.ramp = some p →
          (t.mix.comp id).ramp = some { p with elapsed := min p.total (p.elapsed + 1) }
          ∧ (t.mix.comp id).current
            = .db (p.start + ((match c.target with
                | .off => -80000
                | .db v => v) - p.start) * (min p.total (p.elapsed + 1) : Nat) / p.total))
    ∧ (∀ n, t.mix.players.get n
        = (r.mix.players.get n).map fun x => { x with elapsed := x.elapsed + 1 })
    ∧ t.mix.settings = r.mix.settings ∧ t.mix.program = r.mix.program ∧ t.mix.countIn = r.mix.countIn
    ∧ t.mix.standby = r.mix.standby ∧ t.fb.settings = r.fb.settings
    ∧ ∀ n,
      let x := r.fbSeat n
      let starts := x.live = false ∧ (r.mix.speakerMute.get n).isOff = false
      let watched := x.presence = .present ∧ x.flag = false
      let begun := if watched then x.window.getD ⟨0, r.fb.settings.window, []⟩ else ⟨0, 0, []⟩
      (¬ starts → t.fbSeat n = { x with
        window := x.window.map fun w => { w with elapsed := min w.length (w.elapsed + 1) }
        retryTimer := down x.retryTimer })
      ∧ (starts → t.fbSeat n = { x with
        live := true
        window := if watched then some { begun with elapsed := min begun.length (begun.elapsed + 1) } else none
        consecutive := if watched ∧ x.window.isSome = true then x.consecutive else 0
        retryTimer := down x.retryTimer }))
  ∧ ∀ (s : State) (c : Instr), c ∈ s.dues ↔ s.RunOut c

/-- Every command answers a next state, in every state, and leaves the queue of commands as it was. -/
def Obligations.EveryCommandAnswers : Prop :=
  ∀ (c : Instr) (s : State), ∃ t, exec c s = .next t ∧ t.pending = s.pending

/-- The state after reset meets the invariants that every step keeps (O5 to O8). -/
def Obligations.InvariantsAtReset : Prop :=
  State.reset.Inv ∧ State.reset.room.Distinct ∧ State.reset.room.mute.TableSound ∧ State.reset.room.Derived
  ∧ State.reset.room.Whole ∧ State.reset.Follows

/-- Every step keeps the port within its capacities (R194), leaves no notice under way, and keeps the kept field and the
hold timer to seats in HOLD, and HOLD to AUTO mode (R96, R97, R98). Of a room whose maps are distinct (O6) and whose
mutes are derived (O8) it keeps what the blocks hold of each other (`Room.Told`: presence R3, the mic mute R73, standby
R154 and R155, the quiet flag R108, the privacy flag of a seat that is not PRESENT R56), and the floor sound
(`Room.FloorSound`): the Open List within the open limit, the Wait List within 8 and the Request Queue within 16, none
with a seat twice, each seat in the collection that its gate state names and in no other, gate states of the mode in
force, chair-free seats in none of the lists, a seat open or WAITING only while PRESENT, unmuted and outside standby, a
seat QUEUED only while PRESENT and outside standby, an idle timer at a GRANTED seat alone, and in OPEN mode every
admissible seat open (R86, R90 to R93, R100, R101, R105, R106, R109, R110). -/
def Obligations.StepKeepsCapacities : Prop :=
  (∀ s t : State, s.Inv → step s = .next t → t.Inv)
  ∧ ∀ s t : State, s.Inv → s.room.Whole → step s = .next t → t.room.Told ∧ t.room.FloorSound

/-- Every step keeps R1: no two entries of a map name one position, in the room and in its scenes. -/
def Obligations.StepKeepsMapsDistinct : Prop :=
  ∀ s t : State, s.room.Distinct → step s = .next t → t.room.Distinct

/-- Every step keeps the Placed Claim Table sound (R60). -/
def Obligations.StepKeepsClaimTable : Prop :=
  ∀ s t : State, s.room.mute.TableSound → step s = .next t → t.room.mute.TableSound

/-- Every step leaves the effective mute of every seat and link derived from the flags, the claims, the map and the
groups as they then stand (R70, R71). It also leaves every gain component with the target that its owner gives it
(`Room.MixFollows`; R122): off for the mic mute component of a mic-muted seat, the speaker mute component of a
speaker-muted one, the send and return mute components of a muted link, and 0 dB for the others (R72, R124 to R126);
0 dB for the gate component of a seat in OPEN, HOLD or GRANTED and off for any other (R86, R87, R123); the open-count
component at the loss of the seats then open (R128), the standby component off in standby (R129), the link-state
component 0 dB in JOINED and JOINING RAMP alone (R127, R143), the offset the monitor's (R126), a tone's envelope off
while its player is IDLE, and 0 dB or off while it is PLAYING (R133, R134), the trims and levels the settings' and the
map's (R120, R121, R135, R137, R138). Its premises are the invariants of O5, O6 and O8; while the reset input is
asserted the components stand at off (log 10). -/
def Obligations.StepKeepsMuteDerived : Prop :=
  (∀ s t : State, s.room.Derived → step s = .next t → t.room.Derived)
  ∧ ∀ s t : State, s.Inv → s.room.Whole → s.Follows → step s = .next t → t.Follows

/-- The values a full reset leaves that the spec states (R20, R42, R54, R85, R117, R140, R158, R172, R203). -/
def Obligations.ResetValues : Prop :=
  let r := State.reset.room
  (∀ n : Seat, r.map.running.get n
      = ⟨some ⟨⟨n.val / 20, by omega⟩, ⟨n.val % 20, by omega⟩⟩, .member, false⟩)
  ∧ r.map.staged = r.map.running ∧ (∀ g n, (r.map.groups.get g).get n = false) ∧ r.map.quiet = true
  ∧ r.map.switch = none ∧ r.map.waitLimit = 10
  ∧ (∀ l : LineNo, (r.lines.get l).lstate = .scanning ∧ (r.lines.get l).expected = 20 ∧ (r.lines.get l).lostLimit = 8)
  ∧ (∀ p : PodPos, (r.podAt p).present = false ∧ (r.podAt p).privacy = true ∧ (r.podAt p).bad = 0)
  ∧ (∀ n : Seat, (r.det.get n).held = true ∧ (r.det.get n).dstate = .silent ∧ (r.det.get n).level = -200
      ∧ (r.det.get n).noiseFloor = -100000)
  ∧ r.mute.table = [] ∧ (∀ n : Seat, (r.mseat n).privacy = true ∧ (r.mseat n).self = false
      ∧ (r.mseat n).feedback = false ∧ (r.eff n).micMuted = true ∧ (r.eff n).micCause = .privacy)
  ∧ (∀ n : Seat, (r.fseat n).gate = .closed ∧ (r.fseat n).timer = .off)
  ∧ r.floor.openList = [] ∧ r.floor.waitList = [] ∧ r.floor.queue = [] ∧ r.floor.standby = false
  ∧ (∀ n : Seat, (r.mix.gate.get n).isOff = true ∧ (r.mix.micMute.get n).isOff = true)
  ∧ (∀ k : Link, (r.mix.linkState.get k).isOff = true ∧ (r.linkRec k).st = .idle ∧ (r.linkRec k).locked = false)
  ∧ r.link.call = .idle ∧ r.link.timer = some (30 * 60000)
  ∧ (∀ n : Seat, (r.fbSeat n).trips = 0 ∧ (r.fbSeat n).flag = false ∧ (r.fbSeat n).offset = 0
      ∧ (r.fbSeat n).live = false ∧ (r.fbSeat n).window = none ∧ (r.fbSeat n).consecutive = 0)
  ∧ State.reset.port.rx = [] ∧ State.reset.port.rxq = [] ∧ State.reset.port.mask = 0x7F#7
  ∧ State.reset.port.lost = false ∧ State.reset.port.events.head? = some (.resetDone .power 0 false)

/-! ## The Control Port -/

/-- Every request row is the host's frame with that row's KIND and body (section 10.2, R188 to R190): the command acts
as that frame does. -/
def Obligations.RequestRowsAreFrames : Prop :=
  ∀ (s : State) (tag a b c d e f : Byte) (w x y : Pair) (bs : List Byte) (es : List RawEntry) (m : Option Byte),
    let two := fun p : Pair => [p.extractLsb' 8 8, p.extractLsb' 0 8]
    (exec (.ident tag) s = exec (.unknown tag 0x01 []) s
    ∧ exec (.eventMask tag m) s = exec (.unknown tag 0x02 m.toList) s
    ∧ exec (.deviceReset tag) s = exec (.unknown tag 0x03 []) s
    ∧ exec (.mapLoad tag a b es) s
        = exec (.unknown tag 0x10 (a :: b :: es.flatMap fun e => [e.line, e.position, e.attributes])) s
    ∧ exec (.mapDump tag a b c) s = exec (.unknown tag 0x11 [a, b, c]) s
    ∧ exec (.mapSwitchNow tag a b) s = exec (.unknown tag 0x12 [0, a, b]) s
    ∧ exec (.mapSwitchQuiet tag a b) s = exec (.unknown tag 0x12 [1, a, b]) s
    ∧ exec (.mapSwitchCancel tag a b) s = exec (.unknown tag 0x12 [2, a, b]) s
    ∧ exec (.seatCheck tag a) s = exec (.unknown tag 0x13 [a]) s
    ∧ exec (.groupSet tag a bs) s = exec (.unknown tag 0x14 (a :: bs)) s
    ∧ exec (.groupRead tag a) s = exec (.unknown tag 0x15 [a]) s)
    ∧ (exec (.lineSet tag a b c) s = exec (.unknown tag 0x18 [a, b, c]) s
    ∧ exec (.lineRead tag a) s = exec (.unknown tag 0x19 [a]) s
    ∧ exec (.lineScan tag a) s = exec (.unknown tag 0x1A [a]) s
    ∧ exec (.lineRehearse tag a b c w) s = exec (.unknown tag 0x1B ([a, b, c] ++ two w)) s
    ∧ exec (.detectSet tag a b c d w x y) s = exec (.unknown tag 0x20 ([a, b, c, d] ++ two w ++ two x ++ two y)) s
    ∧ exec (.detectRead tag a) s = exec (.unknown tag 0x21 [a]) s
    ∧ exec (.mutePlace tag a b c d e w) s = exec (.unknown tag 0x28 ([a, b, c, d, e] ++ two w)) s
    ∧ exec (.muteLift tag a b c (.byNumber d)) s = exec (.unknown tag 0x29 [a, b, c, d]) s
    ∧ (∀ g h, exec (.muteLift tag a b c (.byName d e f g h)) s = exec (.unknown tag 0x29 [a, b, c, d, e, f, g, h]) s)
    ∧ exec (.muteList tag a) s = exec (.unknown tag 0x2A [a]) s
    ∧ exec (.muteRead tag a b) s = exec (.unknown tag 0x2B [a, b]) s)
    ∧ (exec (.floorSet tag a b w c d e x f y) s
        = exec (.unknown tag 0x30 ([a, b] ++ two w ++ [c, d, e] ++ two x ++ [f] ++ two y)) s
    ∧ exec (.floorGrant tag a b) s = exec (.unknown tag 0x31 [a, b]) s
    ∧ exec (.floorQueue tag a) s = exec (.unknown tag 0x32 [a]) s
    ∧ exec (.floorDrop tag a) s = exec (.unknown tag 0x33 [a]) s
    ∧ exec (.floorClear tag) s = exec (.unknown tag 0x34 []) s
    ∧ exec (.floorRead tag a) s = exec (.unknown tag 0x35 [a]) s
    ∧ exec (.mixSet tag a b c w) s = exec (.unknown tag 0x38 ([a, b, c] ++ two w)) s
    ∧ exec (.toneSet tag a b) s = exec (.unknown tag 0x39 [a, b]) s
    ∧ exec (.mixRead tag a) s = exec (.unknown tag 0x3A [a]) s)
    ∧ (exec (.linkJoin tag a) s = exec (.unknown tag 0x40 [a]) s
    ∧ exec (.linkLeave tag a) s = exec (.unknown tag 0x41 [a]) s
    ∧ exec (.linkHold tag a) s = exec (.unknown tag 0x42 [a]) s
    ∧ exec (.linkResume tag a) s = exec (.unknown tag 0x43 [a]) s
    ∧ exec (.linkRead tag a) s = exec (.unknown tag 0x44 [a]) s
    ∧ exec (.callSet tag a) s = exec (.unknown tag 0x45 [a]) s
    ∧ exec (.callWake tag) s = exec (.unknown tag 0x46 []) s
    ∧ exec (.feedbackSet tag a b c d e) s = exec (.unknown tag 0x48 [a, b, c, d, e]) s
    ∧ exec (.feedbackRelease tag a) s = exec (.unknown tag 0x49 [a]) s
    ∧ exec (.feedbackRead tag a) s = exec (.unknown tag 0x4A [a]) s
    ∧ exec (.feedbackRehearse tag a) s = exec (.unknown tag 0x4B [a]) s)
    ∧ (exec (.sceneSave tag a bs) s = exec (.unknown tag 0x50 (a :: bs)) s
    ∧ exec (.sceneRecall tag a) s = exec (.unknown tag 0x51 [a]) s
    ∧ exec (.sceneErase tag a) s = exec (.unknown tag 0x52 [a]) s
    ∧ exec (.sceneVerify tag a b) s = exec (.unknown tag 0x53 [a, b]) s
    ∧ exec (.sceneStart tag a) s = exec (.unknown tag 0x54 [a]) s
    ∧ exec (.sceneList tag) s = exec (.unknown tag 0x55 []) s)

/-- IDENT is answered with the part's identity; EVENT_MASK reads the mask, or sets it and answers with it, a byte with
bit 7 set refused; DEVICE_RESET is answered OK, and the part resets with cause REQUEST when the last byte of the reply
has left (R199, R201, R202). That the reset then takes the straps as they last stood is the model's choice (log 11).
-/
def Obligations.PortRequestsAnswer : Prop :=
  (∀ (s : State) (tag : Byte), s.Free →
     exec (.ident tag) s
       = .next (s.told ⟨0x01, tag, []⟩ .ok [0x0A, 0x17, 0x53, 0x40, 0x01, 40, 2, 4, 13, s.port.rate.byte]))
  ∧ (∀ (s : State) (tag : Byte), s.Free →
      exec (.eventMask tag none) s = .next (s.told ⟨0x02, tag, []⟩ .ok [s.port.mask.setWidth 8])
      ∧ ∀ m : Byte,
          (m.getLsbD 7 = false →
            exec (.eventMask tag (some m)) s
              = .next ({ s with port := { s.port with mask := m.setWidth 7 } }.told ⟨0x02, tag, [m]⟩ .ok [m]))
          ∧ (m.getLsbD 7 = true → exec (.eventMask tag (some m)) s = .next (s.told ⟨0x02, tag, [m]⟩ .range [])))
  ∧ (∀ (s : State) (tag : Byte),
      (s.Free → exec (.deviceReset tag) s
        = .next ({ s with port := { s.port with resetDue := true } }.told ⟨0x03, tag, []⟩ .ok []))
      ∧ ∀ f : Frame, s.held = false → s.port.tx = some (.reply f) → s.port.resetDue = true →
          exec .transmitFrameDone s = exec (.fullReset .request s.strapA s.strapB) s)

/-- A frame of a kind that is not in the table is answered UNKNOWN, with KIND 0xFF where the kind is 0x80 or above, and
reaches no block; a frame of a kind of the table whose body has a length that the kind does not admit is answered LENGTH
and reaches no block (R189, R195). -/
def Obligations.UnknownKindAnswers : Prop :=
  (∀ (s : State) (tag kind : Byte) (body : List Byte), s.Free → kind.toNat ∉ tableKinds →
    exec (.unknown tag kind body) s
        = .next (s.told ⟨kind, tag, body⟩ .unknown [])
    ∧ (0x80 ≤ kind.toNat → replyFrame ⟨kind, tag, body⟩ ⟨.unknown, []⟩ = (⟨0xFF, tag, [0x01]⟩ : Frame))
    ∧ (kind.toNat < 0x80 → replyFrame ⟨kind, tag, body⟩ ⟨.unknown, []⟩ = (⟨kind + 0x80, tag, [0x01]⟩ : Frame)))
  ∧ ∀ (s : State) (tag kind : Byte) (body : List Byte), s.Free →
    let bare : List (List Byte) := [[0x01, 0x03, 0x34, 0x46, 0x55],
      [0x13, 0x15, 0x19, 0x1A, 0x21, 0x2A, 0x32, 0x33, 0x35, 0x3A, 0x40, 0x41, 0x42, 0x43, 0x44, 0x45, 0x49, 0x4A, 0x4B,
        0x51, 0x52, 0x54],
      [0x2B, 0x31, 0x39, 0x53], [0x11, 0x12, 0x18], [], [0x1B, 0x38, 0x48], [], [0x28], [], [], [0x20], [], [0x30]]
    ((∃ i, ∃ kinds, bare[i]? = some kinds ∧ kind ∈ kinds ∧ body.length ≠ i)
      ∨ kind = 0x02 ∧ 1 < body.length
      ∨ kind = 0x10 ∧ (∀ first count rest, body = first :: count :: rest → rest.length ≠ 3 * count.toNat)
      ∨ kind = 0x14 ∧ (body = [] ∨ 41 < body.length)
      ∨ kind = 0x29 ∧ body.length ≠ 4 ∧ body.length ≠ 8
      ∨ kind = 0x50 ∧ body = []) →
    exec (.unknown tag kind body) s = .next (s.told ⟨kind, tag, body⟩ .length [])

/-- While a request is in progress the next frames wait, four in all; one more is discarded with OVERRUN, and no block
sees it (R194, R195). -/
def Obligations.RequestsWaitOrOverrun : Prop :=
  ∀ (s : State) (tag kind : Byte) (body : List Byte),
    s.held = false → s.port.lineLow = false → s.port.taken = true →
    (s.port.rxq.length < 4 →
      exec (.unknown tag kind body) s
        = .next { s with port := { s.port with rxq := s.port.rxq ++ [(⟨kind, tag, body⟩ : Frame)] }.startTx })
    ∧ (s.port.rxq.length = 4 →
      exec (.unknown tag kind body) s = .next { s with port := (s.port.queueEvent (.overrun kind tag)).startTx })

/-- TRANSMIT_FRAME_DONE: after an event record the transmitter is free; after a reply its request leaves the receive
queue and the next frame, if any, is taken, with the effect and the reply it has as a request of its own (R195, R197).
That nothing changes where nothing is being sent is the model's choice (log 38). -/
def Obligations.TransmitFrameDoneFreesLine : Prop :=
  ∀ s : State,
    (s.port.tx = none → exec .transmitFrameDone s = .next s)
    ∧ (∀ e l, s.port.tx = some (.event e l) →
        exec .transmitFrameDone s
          = .next { s with port := { s.port with tx := none, lastWasReply := false }.startTx })
    ∧ (∀ f g, s.port.tx = some (.reply f) → s.port.resetDue = false → s.port.rxq = [g] →
        exec .transmitFrameDone s
          = .next { s with
              port := { s.port with tx := none, lastWasReply := true, rxq := [], taken := false }.startTx })
    ∧ (∀ f g h rest, s.port.tx = some (.reply f) → s.port.resetDue = false → s.port.reply = none →
        s.port.rxq = g :: h :: rest →
        ∃ t a, exec .transmitFrameDone s = .next t ∧ t.port.rxq = h :: rest ∧ t.port.taken = true
          ∧ (t.port.tx = some (.reply (replyFrame h a)) ∨ t.port.reply = some (replyFrame h a)))
    ∧ (∀ f g h rest, s.held = false → s.port.lineLow = false → s.port.tx = some (.reply f) → s.port.resetDue = false →
        s.port.reply = none → s.port.rxq = g :: h :: rest →
        let cleared := { s with port := { s.port with tx := none, lastWasReply := true, rxq := [], taken := false } }
        ∃ u, exec (.unknown h.tag h.kind h.body) cleared = .next u
          ∧ exec .transmitFrameDone s = .next { u with port := { u.port with rxq := h :: rest } })

/-- An event is queued where the mask enables its class and there is room; a full queue discards it and sets the lost
flag; a masked event, and any event while the line is held low, is discarded without it. The transmitter, when it is
free and the line is not held low, starts the waiting reply, or the first event record where no reply waits or the
last frame sent was a reply; the record carries the lost mark in its flags byte and clears the flag. A transmitter
that sends, or a line held low, starts nothing (R197 to R200). The record itself, event by event: KIND 0xF0 and TAG 0,
its class, the flags byte, its code, its subject in two bytes and its detail, as the table of R191 lists them with the
encodings of R188 and R190; the class is the one whose bit of the mask enables the event (R199). Which list numbers a
named value without a code of its own, among them LINK_MUTE's direction from 0, is log 27, and how the Mute Arbiter's
flags go is log 61. -/
def Obligations.EventsQueueAndTransmitterTurns : Prop :=
  (∀ (p : Port) (e : Event),
     (p.lineLow = true → p.queueEvent e = p)
     ∧ (p.lineLow = false → p.mask.getLsbD e.cls.val = false → (∀ c n b, e ≠ .resetDone c n b) →
         (∀ r, e ≠ .portReady r) → p.queueEvent e = p)
     ∧ (p.lineLow = false →
         (p.mask.getLsbD e.cls.val = true ∨ (∃ c n b, e = .resetDone c n b) ∨ ∃ r, e = .portReady r) →
         (p.events.length < 32 → p.queueEvent e = { p with events := p.events ++ [e] })
         ∧ (32 ≤ p.events.length → p.queueEvent e = { p with lost := true })))
  ∧ (∀ p : Port, p.lineLow = false → p.tx = none →
      (p.reply = none → p.events = [] → p.startTx = p)
      ∧ (∀ f, p.reply = some f → (p.events = [] ∨ p.lastWasReply = false) →
          p.startTx = { p with reply := none, tx := some (.reply f) })
      ∧ (∀ e es, p.events = e :: es → (p.reply = none ∨ p.lastWasReply = true) →
          p.startTx = { p with events := es, tx := some (.event e p.lost), lost := false }))
  ∧ (∀ p : Port, p.lineLow = true ∨ p.tx.isSome = true → p.startTx = p)
  ∧ ∀ (e : Event) (lost : Bool),
    let yes := fun b : Bool => if b = true then (1 : Byte) else 0
    let signed := fun v : Int => BitVec.ofInt 8 v
    let number := fun n : Nat => byteOf (n + 1)
    let at_ := fun p : PodPos => [number p.line.val, number p.pos.val]
    let served := fun n : Option Seat => match n with
      | none => (0 : Byte)
      | some n => number n.val
    let cause := listed [Cause.free, .privacy, .feedback, .room, .chair, .far, .self]
    let button := listed [Button.mic, .talk, .room, .next, .clear]
    let gate := listed [GateState.closed, .waiting, .opened, .hold, .queued, .granted]
    let list := listed [FloorList.wait, .request]
    let reason := listed [Reason.admitted, .ended, .takenOver, .cancelled, .done, .bumped, .idle, .muted, .absent,
      .reseated, .standby, .mode, .limit, .cleared, .dropped]
    let link := listed [LinkSt.idle, .joining, .joined, .held, .leaving, .fault]
    let call := listed [CallSt.idle, .live, .standby]
    let result := fun good : Bool => if good = true then (0 : Byte) else 1
    let record := fun (cls code : Nat) (subject detail : List Byte) =>
      [byteOf cls, yes lost, byteOf code] ++ subject ++ detail
    let seat := fun (cls code : Nat) (n : Seat) => record cls code [0, number n.val]
    (e.frame lost).body.head? = some (byteOf (e.cls.val + 1))
    ∧ e.frame lost = ⟨0xF0, 0, match e with
      | .podFound p kind privacy n =>
        record 1 1 (at_ p) [listed [PodKind.member, .chair] kind, yes privacy, served n]
      | .podLost p why n => record 1 2 (at_ p) [listed [LossCause.scan, .slot, .brk] why, served n]
      | .lineState l st => record 1 3 [0, number l.val] [listed [LineState.scanning, .up, .down] st]
      | .roleMismatch n b p => seat 1 4 n (button b :: at_ p)
      | .mapSwitched quiet reseated displaced =>
        record 1 5 [0, 0] [if quiet = true then 0 else 1, byteOf reseated, byteOf displaced]
      | .mapSwitchCancelled => record 1 6 [0, 0] [0]
      | .micState n muted why privacy self => seat 2 1 n [yes muted, cause why, yes privacy, yes self]
      | .speakerState n muted why feedback => seat 2 2 n [yes muted, cause why, yes feedback]
      | .linkMute k dir muted why =>
        record 2 3 [0, number k.val] [listed [Dir.mic, .speaker, .send, .ret] dir, yes muted, cause why]
      | .claimGone c why => record 2 4 [0, byteOf c.number.val]
        ((match c.who with
          | .room => [3, 0]
          | .chair n => [4, number n.val]
          | .far k => [5, number k.val])
        ++ (match c.scope with
          | .seat n => [1, number n.val]
          | .group g => [2, number g.val]
          | .members => [3, 0]
          | .everyone => [4, 0]
          | .link k => [5, number k.val])
        ++ [match c.dir with
          | .mic => 1
          | .speaker => 2
          | .send => 3
          | .ret => 4, listed [GoneReason.lifted, .expired, .roleLost, .linkEnded] why])
      | .claimRefused n => seat 2 5 n [0]
      | .heldPress n b why => seat 2 6 n [button b, cause why]
      | .talkWhileMuted n why => seat 2 7 n [cause why]
      | .openedEv n st place => seat 3 1 n [gate st, byteOf place]
      | .closedEv n prior why => seat 3 2 n [gate prior, reason why]
      | .queuedEv n which place => seat 3 3 n [list which, byteOf place]
      | .dequeuedEv n which why => seat 3 4 n [list which, reason why]
      | .refusedEv n why => seat 3 5 n [listed [RefuseReason.waitFull, .queueFull, .noSlot, .noRequest] why]
      | .linkStateEv k new previous why => record 4 1 [0, number k.val] [link new, link previous,
          listed [LinkReason.request, .rampDone, .lock, .clockLost, .noLock] why]
      | .callStateEv subject new previous why => record 4 2 [0, byteOf subject] [call new, call previous,
          listed [CallCause.link, .delay, .press, .join, .request] why]
      | .trip n trips action offset retry rehearsed => seat 5 1 n [byteOf trips,
          listed [TripAction.report, .latch, .retry, .latched] action, signed offset, byteOf retry, yes rehearsed]
      | .releaseEv n why trips offset =>
        seat 5 2 n [listed [ReleaseCause.retry, .request, .absent] why, byteOf trips, signed offset]
      | .latchedEv n trips offset rehearsed => seat 5 3 n [byteOf trips, signed offset, yes rehearsed]
      | .saveDone slot good check => record 6 1 [0, byteOf slot]
          [result good, check.extractLsb' 8 8, check.extractLsb' 0 8]
      | .eraseDone slot good => record 6 2 [0, byteOf slot] [result good]
      | .startDone slot good => record 6 3 [0, byteOf slot] [result good]
      | .scanDone l count => record 6 4 [0, number l.val] [byteOf count]
      | .resetDone why slot fallback =>
        record 7 1 [0, 0] [listed [ResetCause.power, .pin, .request] why, byteOf slot, yes fallback]
      | .portReady rate => record 7 2 [0, 0] [listed [Rate.baud115200, .baud460800, .baud921600] rate]
      | .frameBad why => record 7 3 [0, 0] [listed [BadReason.check, .length, .gap, .framing] why]
      | .overrun kind tag => record 7 4 [0, 0] [kind, tag]⟩

/-- RECEIVE_FRAME: in HUNT a whole frame with a good check is accepted as its request; a byte that is not START is
passed over; a LEN below 2 queues FRAME_BAD with reason LENGTH, and a frame whose check differs FRAME_BAD with reason
CHECK, and the bytes after the START are taken again; a START alone waits for the rest, and bytes that come in several
commands are taken as they would be in one (R192). GAP and FRAMING abandon the frame in progress with FRAME_BAD; in
HUNT they do nothing (R193). The line (R187): a byte is a low start bit, its eight bits, least significant first, and a
high stop bit; such a character is that byte received, one whose stop bit is low is FRAMING, and what is sent goes out
as the characters of its bytes back to back, an idle line with nothing. A frame on the line is START, LEN, which counts
KIND, TAG and BODY, those three, and the check over LEN to BODY, high byte first (section 10.2, R192); the check is the
cyclic check of R174: polynomial x^16 + x^15 + x^2 + 1, initial value all ones, each byte most significant bit first, no
final inversion. -/
def Obligations.FramesAssembledOrAbandoned : Prop :=
  (let shifted := fun (c : Pair) (bit : Bool) =>
      (c <<< 1) ^^^ (if (c.getLsbD 15 ^^ bit) = true then 0x8005#16 else 0#16)
   crc [] = 0xFFFF
   ∧ (∀ (bs : List Byte) (b : Byte), crc (bs ++ [b])
      = [b.getLsbD 7, b.getLsbD 6, b.getLsbD 5, b.getLsbD 4, b.getLsbD 3, b.getLsbD 2, b.getLsbD 1,
          b.getLsbD 0].foldl shifted (crc bs))
   ∧ ∀ f : Frame,
      let covered := byteOf (f.body.length + 2) :: f.kind :: f.tag :: f.body
      f.bytes = 0xC5 :: covered ++ [(crc covered).extractLsb' 8 8, (crc covered).extractLsb' 0 8]) ∧
  (∀ (s : State) (b : Byte) (bits : Fin 8 → Bool) (stop : Bool),
    let levels := fun (x : Fin 8 → Bool) (last : Bool) =>
      [false, x 0, x 1, x 2, x 3, x 4, x 5, x 6, x 7, last]
    charBits b = levels (fun i => b.getLsbD i.val) true
    ∧ .next (s.receiveChar (charBits b)) = exec (.receiveFrame [b]) s
    ∧ (∃ c : Byte, (∀ i, c.getLsbD i.val = bits i)
      ∧ .next (s.receiveChar (levels bits stop)) = if stop = true then exec (.receiveFrame [c]) s else exec .framing s)
    ∧ (s.port.tx = none → s.lineOut = [])
    ∧ ∀ x, s.port.tx = some x → s.lineOut = (x.bytes.map charBits).flatten) ∧
  (∀ s : State, s.held = false → s.port.lineLow = false → s.port.rx = [] →
     let quiet := { s with port := { s.port with gapTime := 0 } }
     (∀ f : Frame, f.body.length ≤ 253 →
       exec (.receiveFrame f.bytes) s = exec (.unknown f.tag f.kind f.body) quiet)
     ∧ (∀ b : Byte, b ≠ 0xC5 → exec (.receiveFrame [b]) s = .next quiet)
     ∧ exec (.receiveFrame [0xC5]) s = .next { s with port := { s.port with gapTime := 0, rx := [0xC5] } }
     ∧ (∀ b : Byte, b.toNat < 2 → exec (.receiveFrame [0xC5, b]) s
         = .next { s with port := ({ s.port with gapTime := 0 }.queueEvent (.frameBad .length)).startTx })
     ∧ (∀ (b : Byte) (more : List Byte), b.toNat < 2 → exec (.receiveFrame (0xC5 :: b :: more)) s
         = exec (.receiveFrame (b :: more))
             { s with port := ({ s.port with gapTime := 0 }.queueEvent (.frameBad .length)).startTx })
     ∧ (∀ (len : Byte) (more : List Byte), 2 ≤ len.toNat → len.toNat + 2 ≤ more.length →
         let check := crc (len :: more.take len.toNat)
         (more.drop len.toNat).take 2 ≠ [check.extractLsb' 8 8, check.extractLsb' 0 8] →
         exec (.receiveFrame (0xC5 :: len :: more)) s
           = exec (.receiveFrame (len :: more))
               { s with port := ({ s.port with gapTime := 0 }.queueEvent (.frameBad .check)).startTx }))
  ∧ (∀ (s : State) (first second : List Byte), ∃ t, exec (.receiveFrame first) s = .next t
      ∧ exec (.receiveFrame (first ++ second)) s = exec (.receiveFrame second) t)
  ∧ (∀ s : State, s.held = false →
      (s.port.rx = [] → exec .gap s = .next s ∧ exec .framing s = .next s)
      ∧ (s.port.rx ≠ [] →
          exec .gap s
            = .next { s with port := ({ s.port with rx := [], gapTime := 0 }.queueEvent (.frameBad .gap)).startTx }
          ∧ exec .framing s
            = .next { s with port := ({ s.port with rx := [], gapTime := 0 }.queueEvent (.frameBad .framing)).startTx }))

/-- BREAK resets the Control Port alone; while the line is low the port receives nothing, sends nothing and discards
the events queued; PORT_READY is the first record sent when the line returns high (R200). That PORT_READY with the
line high changes nothing is the model's choice (log 38), and so is that a break resets the part at once where a
DEVICE_RESET has been answered and its reset has not come (log 12), with the straps as they last stood (log 11). -/
def Obligations.BreakResetsPortAlone : Prop :=
  ∀ s : State, s.held = false →
    (s.port.resetDue = false →
      exec .breakLine s = .next { s with port :=
        { rate := s.port.rate, rx := [], gapTime := 0, rxq := [], taken := false, reply := none, tx := none,
          lastWasReply := false, events := [], lost := false, mask := 0x7F, lineLow := true, resetDue := false } })
    ∧ (s.port.resetDue = true → exec .breakLine s = exec (.fullReset .request s.strapA s.strapB) s)
    ∧ (s.port.lineLow = true →
        (∀ bytes, exec (.receiveFrame bytes) s = .next s)
        ∧ (∀ tag kind body, exec (.unknown tag kind body) s = .next s)
        ∧ (∀ e, s.port.queueEvent e = s.port) ∧ s.port.startTx = s.port)
    ∧ (s.port.lineLow = false → exec .portReady s = .next s)
    ∧ (s.port.lineLow = true → s.port.events = [] → s.port.tx = none → s.port.reply = none → s.port.lost = false →
        exec .portReady s
          = .next { s with port := { s.port with lineLow := false, tx := some (.event (.portReady s.port.rate) false) } })

/-- RESET_INPUT_ASSERTED holds the part with its port empty, and from then on no command but FULL_RESET changes
anything (R184; that the blocks stand at their reset values meanwhile, gains at off and speaker marks OFF, is log 10).
FULL_RESET: every block at its reset values with the settings of the scene in the start slot, or of the factory scene
where that slot cannot be used; the rate as the straps select; RESET_DONE first, then the line scans (R185, R187,
R203), line 1's LINE_STATE before line 2's, which is the model's choice (log 75). What the blocks hold then, for every scene: its settings, the values of R20, R42, R54, R85, R117, R140, R158 and
R172 (that each port's counts of 1 ms without an edge and out of band are 0 and nothing is inbound is log 52, that the
line's low state ends is log 12), every component off or ramping up from off, every speaker mark OFF until its LIVE notice (log 9). Released while
held, the part resets with cause POWER where power was applied meanwhile (log 48), else PIN. -/
def Obligations.ResetInputAndFullReset : Prop :=
  ((∀ s : State, s.held = false →
     ∃ t, exec .resetInputAsserted s = .next t ∧ t.held = true ∧ t.port.rx = [] ∧ t.port.rxq = [] ∧ t.port.reply = none
       ∧ t.port.tx = none ∧ t.port.events = [] ∧ t.port.lineLow = false ∧ t.room.store.slots = s.room.store.slots
       ∧ t.room.store.start = s.room.store.start
       ∧ ∀ n, (t.room.fbSeat n).live = false ∧ (t.room.mix.gate.get n).isOff = true
         ∧ (t.room.mix.speakerMute.get n).isOff = true)
   ∧ ∀ (s : State) (c : Instr), s.held = true → s.port.tx = none → s.port.lineLow = false →
       (∀ cause a b, c ≠ .fullReset cause a b) → exec c s = .next s)
  ∧ (∀ (s : State) (cause : ResetCause) (a b : Bool), s.held = false →
      let st : Store := { s.room.store with op := none }
      let rate := if a = true ∧ b = false then Rate.baud460800
        else if a = false ∧ b = true then Rate.baud921600 else Rate.baud115200
      let after := fun (slot : Nat) (fallback : Bool) (scene : Scene) (store : Store) =>
        exec (.fullReset cause a b) s
          = .next { s with
              powerSeen := false, strapA := a, strapB := b
              port := { rate := rate, rx := [], gapTime := 0, rxq := [], taken := false, reply := none,
                        tx := some (.event (.resetDone cause slot fallback) false), lastWasReply := false,
                        events := [.lineState 0 .scanning, .lineState 1 .scanning], lost := false, mask := 0x7F,
                        lineLow := false, resetDue := false }
              room := Room.started scene store }
      (st.start = 0 → after 0 false factoryScene st)
      ∧ (∀ (i : Fin 12) (x : Image), st.start.val = i.val + 1 → (st.slots.get i).image = some x →
          (st.slots.get i).state = .valid →
          (crc x.scene.bytes = x.check → after (i.val + 1) false x.scene st)
          ∧ (crc x.scene.bytes ≠ x.check →
              after 0 true factoryScene { st with slots := st.slots.modify i fun u => { u with state := .bad } }))
      ∧ (∀ i : Fin 12, st.start.val = i.val + 1 → (st.slots.get i).state ≠ .valid → after 0 true factoryScene st))
  ∧ (∀ (c : Scene) (store : Store),
      let r := Room.started c store
      let s := c.mix
      let up := fun (x : Comp) (g : Gain) (ms : Nat) =>
        x = (match g with
          | .off => ⟨.off, none⟩
          | .db v => ⟨.db v, some ⟨-80000, true, max 1 ms, 0⟩⟩)
      let level := fun v : Option Int => match v with
        | none => Gain.off
        | some v => Gain.db (v * 500)
      let away := fun n : Seat => if (c.running.get n).place.isSome = true then Presence.absent else .vacant
      r.standing = {
          running := c.running, staged := c.staged, groups := c.groups, switch := none, waitLimit := c.waitLimit
          lines := Tab.ofFn fun l => ⟨.scanning, Tab.fill 20 ⟨false, .member, true, 0⟩, (c.lines.get l).expected,
            (c.lines.get l).lostLimit, some ⟨0, 20⟩, none, none, none, 0⟩
          dark := Tab.fill 2 false, detectors := c.detectors
          flags := Tab.ofFn fun n => ⟨true, false, false, away n⟩
          table := [], stamp := 0, linkIdle := Tab.fill 4 true, floor := c.floor, floorStandby := false, mix := c.mix
          mixStandby := false, links := Tab.fill 4 ⟨.idle, none, none, false, false, false, 0, 0, 0, none, []⟩
          call := .idle, delay := c.delay, feedback := c.feedback
          trips := Tab.ofFn fun n => ⟨away n, 0, none, none, false, none, 0⟩
          store := store }
      ∧ r.map.quiet = true ∧ r.link.timer = (if c.delay = 0 then none else some (c.delay * 60000))
      ∧ r.Derived
      ∧ (∀ n, r.fseat n = ⟨.closed, false, false, 0, .off, away n, true⟩) ∧ r.floor.openList = []
      ∧ r.floor.waitList = [] ∧ r.floor.queue = [] ∧ r.floor.stamp = 0 ∧ r.floor.lastCount = 0
      ∧ (∀ n, let d := r.det.get n
          d.held = true ∧ d.dstate = .silent ∧ d.level = -200 ∧ d.noiseFloor = -100000 ∧ d.reference = -200 ∧ d.acc = 0
          ∧ d.due = false ∧ d.endTimer = 0 ∧ d.seed = none ∧ d.rise = none ∧ d.fall = none)
      ∧ (∀ n, (r.fbSeat n).live = false ∧ (r.fbSeat n).window = none ∧ (r.fbSeat n).consecutive = 0)
      ∧ (∀ n, r.mix.players.get n = none) ∧ r.mix.countIn = 0
      ∧ (∀ n, up (r.mix.gate.get n) .off 0 ∧ up (r.mix.micMute.get n) .off 0 ∧ up (r.mix.envelope.get n) .off 0
          ∧ up (r.mix.speakerMute.get n) (.db 0) s.muteRamp ∧ up (r.mix.fbOffset.get n) (.db 0) 50
          ∧ up (r.mix.toneLevel.get n) (.db (s.toneLevel * 500)) s.muteRamp
          ∧ ∀ m, up ((r.mix.classMic.get n).get m)
              (if nearIn c.running s.near m n = true then .off else level s.reinforcement) s.muteRamp)
      ∧ (∀ k, up (r.mix.linkState.get k) .off 0 ∧ up (r.mix.returnMute.get k) (.db 0) s.muteRamp
          ∧ up (r.mix.sendMute.get k) (.db 0) s.muteRamp)
      ∧ (∀ i, up (r.mix.srcTrim.get i) (.db (s.srcTrim.get i * 500)) s.muteRamp
          ∧ up (r.mix.busTrim.get i) (.db (s.busTrim.get i * 500)) s.muteRamp)
      ∧ up r.mix.openCount (.db 0) 50 ∧ up r.mix.standbyComp (.db 0) s.muteRamp
      ∧ up r.mix.classMicOut (.db 0) s.muteRamp ∧ up r.mix.classFar (.db 0) s.muteRamp
      ∧ up r.mix.classBridge (if s.bridging = true then .db 0 else .off) s.muteRamp
      ∧ up r.mix.classProgram (level s.program) s.muteRamp ∧ up r.mix.classAssist (level s.assist) s.muteRamp)
  ∧ (∀ (s : State) (a b : Bool), s.held = true →
      exec (.fullReset .pin a b) s
          = exec (.fullReset (if s.powerSeen then .power else .pin) a b) { s with held := false }
      ∧ exec (.fullReset .power a b) s = .next { s with strapA := a, strapB := b, powerSeen := true }
      ∧ exec (.fullReset .request a b) s = .next { s with strapA := a, strapB := b })

/-! ## Seat maps -/

/-- MAP_DUMP and SEAT_CHECK answer with what stands and change nothing; a field outside its range gets RANGE (R6, R7).
The numbers of the pod kinds, of the lock handlings and of the parts with nothing to report are log 26 and 27; a wait
timer at zero whose expiry is not yet taken is log 71, the code of 'whether a switch is pending' log 72. -/
def Obligations.SeatMapReadsAnswer : Prop :=
  ∀ (s : State) (tag : Byte), s.Free →
    (∀ f c : Nat, 1 ≤ f → 1 ≤ c → f + c ≤ 41 → ∀ w : Bool,
      exec (.mapDump tag (if w then 1 else 0) (byteOf f) (byteOf c)) s
        = .next (s.told ⟨0x11, tag, [if w then 1 else 0, byteOf f, byteOf c]⟩ .ok
            ([if w then 1 else 0, byteOf f, byteOf c]
              ++ ((List.finRange 40).filter fun n => f ≤ n.val + 1 ∧ n.val + 1 < f + c).flatMap fun n =>
                ((if w then s.room.map.staged else s.room.map.running).get n).bytes)))
    ∧ (∀ w f c : Byte, (1 < w.toNat ∨ f.toNat = 0 ∨ c.toNat = 0 ∨ 41 < f.toNat + c.toNat) →
      exec (.mapDump tag w f c) s = .next (s.told ⟨0x11, tag, [w, f, c]⟩ .range []))
    ∧ (∀ n : Seat,
      exec (.seatCheck tag (numByte n)) s
        = .next (s.told ⟨0x13, tag, [numByte n]⟩ .ok
            ((s.room.map.running.get n).bytes ++ (s.room.map.staged.get n).bytes
              ++ [(s.room.presence n).byte,
                  match (s.room.map.running.get n).place with
                  | none => 2
                  | some p => if (s.room.podAt p).present then podKindByte (s.room.podAt p).kind else 2]
              ++ match s.room.map.switch with
                | none => [0, 0, 0]
                | some x => [1, x.lock.byte, byteOf ((x.timer.getD 0 + 999) / 1000)])))
    ∧ (∀ b : Byte, b.toNat = 0 ∨ 40 < b.toNat → exec (.seatCheck tag b) s = .next (s.told ⟨0x13, tag, [b]⟩ .range []))

/-- MAP_LOAD of a run of seats (R5): RANGE where the run or an entry is out of range; BUSY with a switch pending;
CONFLICT where a loaded seat's new entry names the position of another entry; else the run's staged entries are
replaced and nothing else changes. An entry's three bytes are its line, 0 for UNASSIGNED, its position, 0 with UNASSIGNED,
and its attributes: bit 0 set for CHAIR, bit 1 for locked, the others zero (R189). -/
def Obligations.MapLoadReplacesStaged : Prop :=
  (∀ (e : RawEntry) (x : Entry), entryOf e = some x ↔
    e.attributes.toNat ≤ 3 ∧ x.role = (if e.attributes.toNat % 2 = 1 then .chair else .member)
    ∧ x.locked = decide (2 ≤ e.attributes.toNat)
    ∧ (e.line = 0 ∧ e.position = 0 ∧ x.place = none
      ∨ ∃ p : PodPos, e.line.toNat = p.line.val + 1 ∧ e.position.toNat = p.pos.val + 1 ∧ x.place = some p))
  ∧ (∀ (s : State) (tag f c : Byte) (raw : List RawEntry), s.Free → raw.length = c.toNat →
    let fits := fun e : RawEntry => (e.attributes.toNat ≤ 3
      ∧ (e.line = 0 ∧ e.position = 0 ∨ 1 ≤ e.line.toNat ∧ e.line.toNat ≤ 2 ∧ 1 ≤ e.position.toNat ∧ e.position.toNat ≤ 20))
    (f.toNat = 0 ∨ c.toNat = 0 ∨ 41 < f.toNat + c.toNat ∨ ∃ e ∈ raw, ¬ fits e) →
    exec (.mapLoad tag f c raw) s
      = .next (s.told ⟨0x10, tag, f :: c :: raw.flatMap fun e => [e.line, e.position, e.attributes]⟩ .range []))
  ∧ ∀ (s : State) (tag : Byte) (f c : Nat) (raw : List RawEntry) (entries : List Entry) (staged : Tab 40 Entry),
    s.Free → 1 ≤ f → 1 ≤ c → f + c ≤ 41 → raw.length = c → raw.mapM entryOf = some entries →
    (∀ n : Seat, staged.get n
      = if f ≤ n.val + 1 then (entries[n.val + 1 - f]?).getD (s.room.map.staged.get n) else s.room.map.staged.get n) →
    let frame : Frame := ⟨0x10, tag, byteOf f :: byteOf c :: raw.flatMap fun e => [e.line, e.position, e.attributes]⟩
    let clash := ∃ n m : Seat, f ≤ n.val + 1 ∧ n.val + 1 < f + c ∧ m ≠ n ∧ (staged.get n).place.isSome = true
      ∧ (staged.get m).place = (staged.get n).place
    let act := exec (.mapLoad tag (byteOf f) (byteOf c) raw) s
    (s.room.map.switch.isSome = true → act = .next (s.told frame .busy []))
    ∧ (s.room.map.switch = none → clash → act = .next (s.told frame .conflict []))
    ∧ (s.room.map.switch = none → ¬ clash →
        act = .next (s.replied frame ⟨.ok, []⟩ [] { s.room with map := { s.room.map with staged := staged } }))

/-- GROUP_SET replaces the group, and the mutes follow it, in the Mix Engine too (R72); one that leaves the set as it was changes nothing; GROUP_READ
answers with the group's seats in ascending order; a group or a seat out of range gets RANGE (R18). -/
def Obligations.GroupSetReplacesGroup : Prop :=
  (∀ (s : State) (tag : Byte), s.Free →
    (∀ g : Group,
      exec (.groupRead tag (numByte g)) s
        = .next (s.told ⟨0x15, tag, [numByte g]⟩ .ok
            (counting (((List.finRange 40).filter fun n => (s.room.map.groups.get g).get n).map numByte))))
    ∧ (∀ b : Byte, b.toNat = 0 ∨ 8 < b.toNat → exec (.groupRead tag b) s = .next (s.told ⟨0x15, tag, [b]⟩ .range []))
    ∧ (∀ (b : Byte) (seats : List Byte), seats.length ≤ 40 →
        (b.toNat = 0 ∨ 8 < b.toNat ∨ ∃ n ∈ seats, n.toNat = 0 ∨ 40 < n.toNat) →
        exec (.groupSet tag b seats) s = .next (s.told ⟨0x14, tag, b :: seats⟩ .range []))
    ∧ (∀ (g : Group) (seats : List Seat), seats.length ≤ 40 →
        (∀ n, (s.room.map.groups.get g).get n = decide (n ∈ seats)) →
        exec (.groupSet tag (numByte g) (seats.map numByte)) s
          = .next (s.told ⟨0x14, tag, numByte g :: seats.map numByte⟩ .ok [])))
  ∧ ∀ (s : State) (tag : Byte) (g : Group) (seats : List Seat), s.Calm → seats.length ≤ 40 →
    ∃ es r,
      exec (.groupSet tag (numByte g) (seats.map numByte)) s
        = .next (s.replied ⟨0x14, tag, numByte g :: seats.map numByte⟩ ⟨.ok, []⟩ es r)
      ∧ r.standing
        = { s.room.standing with groups := s.room.map.groups.set g (Tab.ofFn fun n => decide (n ∈ seats)) }
      ∧ (s.room.Derived → r.Derived) ∧ MutesReachMix s.room r

/-- MAP_SWITCH with when NOW (R10, R11, R13, R16, R17): the maps are exchanged by the lock handling, any pending
switch is gone, and MAP_SWITCHED comes last, QUIET or FORCED as the floor was; the flags, claims and trip records of
the re-seated seats follow (R80, R81, R166), and no others; the class levels follow the new map over the mute ramp
(R121); a locked field other than KEEP or TAKE gets RANGE. -/
def Obligations.MapSwitchNowSwaps : Prop :=
  (∀ (s : State) (tag lock wait : Byte), s.Free → 1 < lock.toNat →
    exec (.mapSwitchNow tag lock wait) s = .next (s.told ⟨0x12, tag, [0, lock, wait]⟩ .range []))
  ∧ ∀ (s : State) (tag wait : Byte) (take : Bool), s.Free → (wait.toNat ≤ 60 ∨ wait.toNat = 255) →
    ∃ es r,
      exec (.mapSwitchNow tag (if take then 1 else 0) wait) s
        = .next (s.replied ⟨0x12, tag, [0, if take then 1 else 0, wait]⟩ ⟨.ok, []⟩
            (es ++ [.mapSwitched s.room.map.quiet (reseatedSeats s.room.map.running r.map.running).length
              (allSeats.countP (displaced s.room.map.running s.room.map.staged (if take then .take else .keep)))]) r)
      ∧ SwapRule (!take) s.room.map.running s.room.map.staged r.map.running r.map.staged
      ∧ ReseatLeaves s.room r es ∧ NearReachesMix s.room r
      ∧ r.standing
        = { s.room.standing with
            running := r.map.running, staged := r.map.staged, switch := none
            waitLimit := if wait.toNat = 255 then s.room.map.waitLimit else wait.toNat
            flags := r.standing.flags, table := r.standing.table, trips := r.standing.trips }

/-- MAP_SWITCH with when QUIET swaps at once where the floor is quiet, else leaves a pending switch with its wait
timer; with when CANCEL it removes the pending switch, whatever its locked field, or is refused with STATE; a wait
outside 0 to 60 that is not DEFAULT gets RANGE, and so does a locked field of QUIET other than KEEP or TAKE (R9, R10,
R12, R13, R14). The flags, claims and trip records of the seats that the swap re-seats follow (R80, R81, R166), and no
others, and the class levels follow the new map over the mute ramp (R121). -/
def Obligations.MapSwitchQuietPends : Prop :=
  (∀ (s : State) (tag lock wait : Byte), s.Free → 1 < lock.toNat →
    exec (.mapSwitchQuiet tag lock wait) s = .next (s.told ⟨0x12, tag, [1, lock, wait]⟩ .range []))
  ∧ ∀ (s : State) (tag wait : Byte) (take : Bool), s.Free → (wait.toNat ≤ 60 ∨ wait.toNat = 255) →
    let limit := if wait.toNat = 255 then s.room.map.waitLimit else wait.toNat
    let frame : Frame := ⟨0x12, tag, [1, if take then 1 else 0, wait]⟩
    (s.room.map.quiet = true →
      ∃ es r,
        exec (.mapSwitchQuiet tag (if take then 1 else 0) wait) s
          = .next (s.replied frame ⟨.ok, []⟩
              (es ++ [.mapSwitched true (reseatedSeats s.room.map.running r.map.running).length
                (allSeats.countP (displaced s.room.map.running s.room.map.staged (if take then .take else .keep)))]) r)
        ∧ SwapRule (!take) s.room.map.running s.room.map.staged r.map.running r.map.staged
        ∧ ReseatLeaves s.room r es ∧ NearReachesMix s.room r
        ∧ r.standing
          = { s.room.standing with
              running := r.map.running, staged := r.map.staged, switch := none, waitLimit := limit
              flags := r.standing.flags, table := r.standing.table, trips := r.standing.trips })
    ∧ (s.room.map.quiet = false →
      exec (.mapSwitchQuiet tag (if take then 1 else 0) wait) s
        = .next (s.replied frame ⟨.ok, []⟩ [] { s.room with
            map := { s.room.map with
              waitLimit := limit
              switch := some ⟨if take then .take else .keep, if limit = 0 then none else some (limit * 1000)⟩ } }))
    ∧ ∀ lock : Byte,
      (s.room.map.switch.isSome = true →
        exec (.mapSwitchCancel tag lock wait) s
          = .next (s.replied ⟨0x12, tag, [2, lock, wait]⟩ ⟨.ok, []⟩ []
              { s.room with map := { s.room.map with waitLimit := limit, switch := none } }))
      ∧ (s.room.map.switch = none →
        exec (.mapSwitchCancel tag lock wait) s = .next (s.told ⟨0x12, tag, [2, lock, wait]⟩ .state []))
      ∧ ∀ far : Byte, 60 < far.toNat → far.toNat ≠ 255 →
        exec (.mapSwitchCancel tag lock far) s = .next (s.told ⟨0x12, tag, [2, lock, far]⟩ .range [])
        ∧ exec (.mapSwitchQuiet tag lock far) s = .next (s.told ⟨0x12, tag, [1, lock, far]⟩ .range [])
        ∧ exec (.mapSwitchNow tag lock far) s = .next (s.told ⟨0x12, tag, [0, lock, far]⟩ .range [])

/-- WAIT_TIMER_EXPIRY carries out the pending switch as a forced swap. A command within which the floor may go quiet
leaves a pending switch and both maps as they were, or carries the switch out with its lock handling; and in every run
a switch stays pending only while the floor is not quiet (R15). The flags, claims and trip records of the seats that the
forced swap re-seats follow (R80, R81, R166), and no others, and the class levels follow the new map over the mute ramp
(R121). -/
def Obligations.WaitExpirySwaps : Prop :=
  (∀ (s : State) (c : Instr) (lock : LockMode) (timer : Option Nat), s.Free → waitsForQuiet c = true →
    s.room.map.switch = some ⟨lock, timer⟩ →
    ∃ t, exec c s = .next t
      ∧ (t.room.map.switch = some ⟨lock, timer⟩ ∧ t.room.map.running = s.room.map.running
          ∧ t.room.map.staged = s.room.map.staged
        ∨ t.room.map.switch = none
          ∧ SwapRule (lock = .keep) s.room.map.running s.room.map.staged t.room.map.running t.room.map.staged))
  ∧ (∀ s t : State, (s.room.map.switch.isSome = true → s.room.map.quiet = false) → step s = .next t →
      t.room.map.switch.isSome = true → t.room.map.quiet = false)
  ∧ ∀ s : State, s.Awake →
    (∀ lock left, s.room.map.switch = some ⟨lock, some left⟩ →
      ∃ es r,
        exec .waitTimerExpiry s
          = .next (s.moved (es ++ [.mapSwitched false (reseatedSeats s.room.map.running r.map.running).length
            (allSeats.countP (displaced s.room.map.running s.room.map.staged lock))]) r)
        ∧ SwapRule (lock = .keep) s.room.map.running s.room.map.staged r.map.running r.map.staged
        ∧ ReseatLeaves s.room r es ∧ NearReachesMix s.room r
        ∧ r.standing
          = { s.room.standing with
              running := r.map.running, staged := r.map.staged, switch := none
              flags := r.standing.flags, table := r.standing.table, trips := r.standing.trips })
    ∧ ((∀ lock left, s.room.map.switch ≠ some ⟨lock, some left⟩) → exec .waitTimerExpiry s = .next (s.moved [] s.room))

/-! ## Reads -/

/-- The reads of the blocks answer with what stands, field by field as the rules list them and R188 and R190 carry
them, and change nothing; a field outside its range gets RANGE (R41, R53, R83, R84, R116, R139, R151, R171, R182). The
terms of a bus with their components are those of R119, R120 and R122, the terms as O32 lists them. The parts with nothing to report, the widths of
R188's times, the rounding of gains, floors and rates and the codes of the Arbiter's flags are log 19, 20, 26, 27, 28,
34 and 61; a timer at zero whose expiry is not yet taken is log 71, and the codes of the quiet condition and of the
other marks that no table calls yes or no are log 72. -/
def Obligations.ReadsAnswerAndChangeNothing : Prop :=
  ∀ (s : State) (tag : Byte), s.Free →
    let yes := fun b : Bool => if b = true then (1 : Byte) else 0
    let two := fun n : Nat => [byteOf (n / 256), byteOf n]
    let signed := fun v : Int => BitVec.ofInt 8 v
    let signed2 := fun v : Int => [(BitVec.ofInt 16 v).extractLsb' 8 8, (BitVec.ofInt 16 v).extractLsb' 0 8]
    let gain := fun g : Gain =>
      match g with
      | .off => signed (-128)
      | .db m => signed (max (-120) (min 24 ((m + 250) / 500)))
    let level := fun v : Option Int => signed (v.getD (-128))
    let cause := listed [Cause.free, .privacy, .feedback, .room, .chair, .far, .self]
    let gate := listed [GateState.closed, .waiting, .opened, .hold, .queued, .granted]
    let seats := fun ns : List Seat => byteOf ns.length :: ns.map fun n => byteOf (n.val + 1)
    let numbers := fun cs : List Claim => byteOf cs.length :: cs.map fun c => byteOf c.number.val
    let claim := fun c : Claim =>
      byteOf c.number.val ::
        ((match c.who with
          | .room => [3, 0]
          | .chair n => [4, byteOf (n.val + 1)]
          | .far k => [5, byteOf (k.val + 1)])
        ++ (match c.scope with
          | .seat n => [1, byteOf (n.val + 1)]
          | .group g => [2, byteOf (g.val + 1)]
          | .members => [3, 0]
          | .everyone => [4, 0]
          | .link k => [5, byteOf (k.val + 1)])
        ++ [match c.dir with
          | .mic => 1
          | .speaker => 2
          | .send => 3
          | .ret => 4]
        ++ two ((c.expiry.getD 0 + 999) / 1000))
    let table := s.room.mute.table
    let linkMutes := fun k : Link =>
      let e := s.room.mute.links.get k
      [yes e.send, if e.send = true then 3 else 0, yes e.ret, if e.ret = true then 3 else 0]
    let onLink := fun k : Link => numbers (table.filter fun c => decide (c.scope = .link k))
    let fb := s.room.fb.settings
    let fbSettings := [listed [FbMode.report, .latch, .retry] fb.mode, byteOf fb.window, byteOf fb.ratio, byteOf fb.filter,
      byteOf fb.retry]
    let status := fun x : FbSeat =>
      if x.presence ≠ .present then (0 : Byte)
      else if x.flag = true then (if x.retryTimer.isSome = true then 3 else 4)
      else if x.live = true then 1 else 2
    let ms := s.room.mix.settings
    -- LINE_READ
    (∀ l : LineNo, exec (.lineRead tag (numByte l)) s = .next (s.told ⟨0x19, tag, [numByte l]⟩ .ok
      (let x := s.room.line l
      [listed [LineState.scanning, .up, .down] x.lstate, byteOf x.expected, byteOf x.lostLimit, byteOf x.termReported,
        byteOf (match x.rehearsal with
          | some ⟨.brk, p, _⟩ => min x.termReported p.val
          | _ => x.termReported)]
      ++ (match x.probeTimer with
        | none => [0, 0, 0]
        | some left => (match (List.finRange 20).find? fun p => !(x.pods.get p).present with
          | none => 0
          | some p => byteOf (p.val + 1)) :: two left)
      ++ [match x.scan with
        | none => 0
        | some e => byteOf (e.pos.val + 1)]
      ++ (match x.rehearsal with
        | none => [0, 0, 0, 0]
        | some y => [listed [RehearseMode.drop, .brk] y.mode, byteOf (y.pos.val + 1)] ++ two y.left)
      ++ (List.finRange 20).flatMap fun p =>
        let pod := x.pods.get p
        [yes pod.present, listed [PodKind.member, .chair] pod.kind, yes pod.privacy, byteOf pod.bad,
          listed [Ring.off, .green, .amber, .red, .blinkRed] pod.ring, listed [Lamp.off, .steady, .blink] pod.talk,
          listed [Lamp.off, .steady, .blink] pod.room,
          match seatAt s.room.map.running ⟨l, p⟩ with
          | none => 0
          | some n => byteOf (n.val + 1)])))
    ∧ (∀ b : Byte, b.toNat = 0 ∨ 2 < b.toNat → exec (.lineRead tag b) s = .next (s.told ⟨0x19, tag, [b]⟩ .range []))
    -- DETECT_READ
    ∧ (∀ n : Seat, exec (.detectRead tag (numByte n)) s = .next (s.told ⟨0x21, tag, [numByte n]⟩ .ok
      (let d := s.room.det.get n
      [yes d.held, listed [DetState.silent, .rising, .speech, .falling] d.dstate] ++ signed2 d.level
      ++ signed2 ((d.noiseFloor + 250) / 500) ++ signed2 d.reference ++ [byteOf d.acc, yes d.due] ++ two d.endTimer
      ++ [byteOf (d.seed.getD 0)] ++ two (d.rise.getD 0) ++ two (d.fall.getD 0)
      ++ [byteOf d.settings.onsetMargin, byteOf d.settings.echoMargin, byteOf d.settings.onsetTime]
      ++ two d.settings.endTime ++ two d.settings.riseBlank ++ two d.settings.fallGuard)))
    ∧ (∀ b : Byte, b.toNat = 0 ∨ 40 < b.toNat → exec (.detectRead tag b) s = .next (s.told ⟨0x21, tag, [b]⟩ .range []))
    -- MUTE_LIST
    ∧ (∀ b : Byte, b.toNat < 48 → exec (.muteList tag b) s = .next (s.told ⟨0x2A, tag, [b]⟩ .ok
      ([byteOf table.length, b, byteOf (min 10 (table.length - b.toNat))]
        ++ ((table.drop b.toNat).take 10).flatMap claim)))
    ∧ (∀ b : Byte, 48 ≤ b.toNat → exec (.muteList tag b) s = .next (s.told ⟨0x2A, tag, [b]⟩ .range []))
    -- MUTE_READ
    ∧ (∀ n : Seat, exec (.muteRead tag 0 (numByte n)) s = .next (s.told ⟨0x2B, tag, [0, numByte n]⟩ .ok
      (let x := s.room.mseat n
      let e := s.room.eff n
      let covering := fun d : Dir => numbers (table.filter fun c => decide (c.dir = d) &&
        match c.scope with
        | .seat m => decide (m = n)
        | .group g => (s.room.map.groups.get g).get n
        | .members => decide ((s.room.map.running.get n).role = .member)
        | .everyone => true
        | .link _ => false)
      [listed [Presence.present, .absent, .vacant] (s.room.presence n), yes x.privacy, yes x.self, yes x.feedback,
        yes e.micMuted, cause e.micCause, listed [MuteKind.standing, .placed, .free] e.kind, yes e.spkMuted,
        cause e.spkCause, yes x.spell]
      ++ covering .mic ++ covering .speaker)))
    ∧ (∀ k : Link, exec (.muteRead tag 1 (numByte k)) s = .next (s.told ⟨0x2B, tag, [1, numByte k]⟩ .ok
      (linkMutes k ++ onLink k)))
    ∧ (∀ b c : Byte, 1 < b.toNat ∨ c.toNat = 0 ∨ b = 0 ∧ 40 < c.toNat ∨ b = 1 ∧ 4 < c.toNat →
      exec (.muteRead tag b c) s = .next (s.told ⟨0x2B, tag, [b, c]⟩ .range []))
    -- FLOOR_READ
    ∧ (∀ b : Byte, b = 1 ∨ b = 21 → exec (.floorRead tag b) s = .next (s.told ⟨0x35, tag, [b]⟩ .ok
      (let f := s.room.floor
      let seat := fun n : Seat => s.room.fseat n
      let isOpen := fun n : Seat => (seat n).gate = .opened ∨ (seat n).gate = .hold ∨ (seat n).gate = .granted
      let free := fun n : Seat => f.settings.chairFree = true ∧ f.settings.mode ≠ .opened
        ∧ (s.room.map.running.get n).role = .chair
      let held := fun n : Seat => (seat n).gate = .queued ∧ (seat n).muted = true
      [listed [FloorMode.opened, .auto, .request] f.settings.mode, byteOf f.settings.limit] ++ two f.settings.hold
      ++ [yes f.settings.lastMic, yes f.settings.autoGrant, yes f.settings.chairFree] ++ two f.settings.idle
      ++ [byteOf f.settings.attack] ++ two f.settings.release
      ++ [yes f.standby,
        yes (decide (f.openList = [] ∧ f.waitList = []
          ∧ ∀ n : Seat, ¬ (free n ∧ ((seat n).gate = .opened ∨ (seat n).gate = .hold)))),
        byteOf ((List.finRange 40).filter fun n => decide (isOpen n)).length]
      ++ (byteOf f.openList.length :: f.openList.flatMap fun n =>
        [byteOf (n.val + 1), gate (seat n).gate, yes (seat n).kept])
      ++ seats f.waitList
      ++ (byteOf f.queue.length :: f.queue.flatMap fun n => [byteOf (n.val + 1), yes (decide (held n))])
      ++ b :: ((List.finRange 40).filter fun n => decide (b.toNat ≤ n.val + 1 ∧ n.val + 1 < b.toNat + 20)).flatMap fun n =>
        [gate (seat n).gate, yes (seat n).speaking, yes (decide (held n)), yes (seat n).kept, yes (decide (free n))]
        ++ match (seat n).timer with
          | .off => [0, 0, 0]
          | .hold left => 1 :: two left
          | .idle left => 2 :: two ((left + 999) / 1000))))
    ∧ (∀ b : Byte, b ≠ 1 → b ≠ 21 → exec (.floorRead tag b) s = .next (s.told ⟨0x35, tag, [b]⟩ .range []))
    -- MIX_READ
    ∧ exec (.mixRead tag 0) s = .next (s.told ⟨0x3A, tag, [0]⟩ .ok
      (ms.srcTrim.toList.map signed ++ ms.busTrim.toList.map signed
      ++ [level ms.reinforcement, level ms.program, level ms.assist, byteOf ms.near, yes ms.bridging, byteOf ms.muteRamp,
        yes ms.tonesOn, signed ms.toneLevel, byteOf s.room.mix.countIn, yes s.room.mix.standby]))
    ∧ (∀ b : Bus, ∀ i : Byte,
      (match b with
        | .loud n => i.toNat = n.val + 1
        | .send k => i.toNat = 41 + k.val
        | .recorder => i = 45
        | .assist => i = 46) →
      exec (.mixRead tag i) s = .next (s.told ⟨0x3A, tag, [i]⟩ .ok
        (let m := s.room.mix
        let comp := fun c : Comp => [gain c.current, gain c.target] ++ two c.left
        let carried := fun b : Bus =>
          b.terms.filter fun source => decide (m.termNow b source ≠ .off ∨ m.termGoal b source ≠ .off)
        i :: (match b with
          | .loud n => comp (m.speakerMute.get n) ++ comp (m.fbOffset.get n) ++ comp (m.busTrim.get ⟨n.val, by omega⟩)
          | .send k => comp (m.sendMute.get k) ++ comp (m.linkState.get k) ++ comp (m.busTrim.get ⟨40 + k.val, by omega⟩)
          | .recorder => comp (m.busTrim.get 44)
          | .assist => comp (m.busTrim.get 45))
        ++ byteOf (carried b).length :: (carried b).flatMap fun source =>
          [match source with
            | .mic n => byteOf (n.val + 1)
            | .far k => byteOf (41 + k.val)
            | .program false => 45
            | .program true => 46
            | .tone _ => 47,
           gain (m.termNow b source), gain (m.termGoal b source)]
          ++ two (((m.termParts b source).map Comp.left).foldl max 0))))
    ∧ (∀ b : Byte, 46 < b.toNat → exec (.mixRead tag b) s = .next (s.told ⟨0x3A, tag, [b]⟩ .range []))
    -- LINK_READ
    ∧ (∀ k : Link, exec (.linkRead tag (numByte k)) s = .next (s.told ⟨0x44, tag, [numByte k]⟩ .ok
      (let x := s.room.linkRec k
      let c := s.room.mix.linkState.get k
      [listed [LinkSt.idle, .joining, .joined, .held, .leaving, .fault] x.st,
        if x.phase = some .ramp then 1 else 0, yes x.locked,
        match x.rate with
        | none => signed (-128)
        | some v => signed (max (-127) (min 127 (((v : Int) - 48000 + 24) / 48))),
        byteOf x.qual]
      ++ two (x.joinTimer.getD 0) ++ [gain c.current, gain c.target, byteOf c.left, yes x.outstanding] ++ linkMutes k
      ++ numbers (table.filter fun c => decide (c.who = .far k)) ++ onLink k
      ++ [signed (ms.srcTrim.get ⟨40 + k.val, by omega⟩), signed (ms.busTrim.get ⟨40 + k.val, by omega⟩),
        listed [CallSt.idle, .live, .standby] s.room.link.call, byteOf s.room.link.delay]
      ++ two ((s.room.link.timer.getD 0 + 999) / 1000))))
    ∧ (∀ b : Byte, b.toNat = 0 ∨ 4 < b.toNat → exec (.linkRead tag b) s = .next (s.told ⟨0x44, tag, [b]⟩ .range []))
    -- FEEDBACK_READ
    ∧ exec (.feedbackRead tag 0) s = .next (s.told ⟨0x4A, tag, [0]⟩ .ok
      (fbSettings ++ (List.finRange 40).flatMap fun n =>
        let x := s.room.fbSeat n
        [status x, byteOf x.trips, signed x.offset]))
    ∧ (∀ n : Seat, exec (.feedbackRead tag (numByte n)) s = .next (s.told ⟨0x4A, tag, [numByte n]⟩ .ok
      (let x := s.room.fbSeat n
      fbSettings ++ [status x, if x.live = true then 0 else 1, listed [Presence.present, .absent, .vacant] x.presence,
        byteOf x.consecutive]
      ++ (match x.window with
        | none => [0, 0]
        | some w => [byteOf w.elapsed, byteOf w.length])
      ++ [byteOf x.trips,
        match x.tripMode with
        | none => 0
        | some .report => 1
        | some .latch => 2
        | some .retry => 3,
        byteOf (x.tripRetry.getD 0), if x.flag = true then 0 else 1]
      ++ two (x.retryTimer.getD 0) ++ [signed x.offset])))
    ∧ (∀ b : Byte, 40 < b.toNat → exec (.feedbackRead tag b) s = .next (s.told ⟨0x4A, tag, [b]⟩ .range []))
    -- SCENE_LIST
    ∧ (s.room.store.op = none → exec (.sceneList tag) s = .next (s.told ⟨0x55, tag, []⟩ .ok
      (((List.finRange 13).flatMap fun i =>
        if h : i.val = 0 then [1, 7, 0x46, 0x41, 0x43, 0x54, 0x4F, 0x52, 0x59]
        else
          let u := s.room.store.slots.get ⟨i.val - 1, by omega⟩
          listed [SlotState.empty, .valid, .bad] u.state ::
            match u.state, u.image with
            | .valid, some x => byteOf x.scene.name.length :: x.scene.name
            | _, _ => [0])
      ++ [byteOf s.room.store.start.val])))
    ∧ (s.room.store.op.isSome = true → exec (.sceneList tag) s = .next (s.told ⟨0x55, tag, []⟩ .busy []))

/-! ## Pod lines -/

/-- LINE_SET takes the two settings; the probe timer follows the new expected count, and each present pod whose bad
count has reached the new lost limit is lost, with LINE_STATE and the probe timer as the pods that are left call for;
the seat that a lost pod served is muted, closed, cleared and held, and every other seat keeps its flags and its trips
(R26, R50, R56, R59, R109, R166); a value out of range gets RANGE (R23, R29, R39). That the probe condition is checked
before the losses is the model's choice (log 77): it decides whether a running probe timer keeps its time. -/
def Obligations.LineSetTakesSettings : Prop :=
  (∀ (s : State) (tag l e m : Byte), s.Free →
    (l.toNat = 0 ∨ 2 < l.toNat ∨ 20 < e.toNat ∨ m.toNat < 2 ∨ 32 < m.toNat) →
    exec (.lineSet tag l e m) s = .next (s.told ⟨0x18, tag, [l, e, m]⟩ .range []))
  ∧ ∀ (s : State) (tag : Byte) (l : LineNo) (e m : Nat), s.Calm → e ≤ 20 → 2 ≤ m → m ≤ 32 →
    let frame : Frame := ⟨0x18, tag, [numByte l, byteOf e, byteOf m]⟩
    let act := exec (.lineSet tag (numByte l) (byteOf e) (byteOf m)) s
    ((∀ p : Pos, (s.room.podAt ⟨l, p⟩).present = true → (s.room.podAt ⟨l, p⟩).bad < m) →
      act = .next (s.replied frame ⟨.ok, []⟩ [] { s.room with
        lines := s.room.lines.modify l fun x => { x with
          expected := e, lostLimit := m
          probeTimer := if x.lstate ≠ .scanning ∧ x.count < e then some (x.probeTimer.getD 500) else none } }))
    ∧ ∃ es r, act = .next (s.replied frame ⟨.ok, []⟩ es r)
      ∧ (r.line l).expected = e ∧ (r.line l).lostLimit = m
      ∧ (∀ p : Pos, (r.podAt ⟨l, p⟩).present
          = ((s.room.podAt ⟨l, p⟩).present && decide ((s.room.podAt ⟨l, p⟩).bad < m)))
      ∧ (∀ p : Pos, (s.room.podAt ⟨l, p⟩).present = true → m ≤ (s.room.podAt ⟨l, p⟩).bad →
          .podLost ⟨l, p⟩ .slot (seatAt s.room.map.running ⟨l, p⟩) ∈ es)
      ∧ LossLeaves s.room r (fun p => p.line = l ∧ (s.room.podAt p).present = true ∧ m ≤ (s.room.podAt p).bad) es
      ∧ (let x := s.room.line l
        let kept := fun p : Pos => (x.pods.get p).present && decide ((x.pods.get p).bad < m)
        let left := ((List.finRange 20).filter kept).length
        (∃ p : Pos, (x.pods.get p).present = true ∧ kept p = false) →
          (r.line l).lstate = (if x.lstate = .scanning then .scanning else if left = 0 then .down else .up)
          ∧ ((r.line l).lstate ≠ x.lstate → .lineState l (r.line l).lstate ∈ es)
          ∧ (r.line l).probeTimer
            = if x.lstate ≠ .scanning ∧ left < e then
                (if x.count < e then some (x.probeTimer.getD 500) else some 500)
              else none)
      ∧ (∀ k : LineNo, k ≠ l → (r.line k).facts = (s.room.line k).facts)
      ∧ r.standing
        = { s.room.standing with lines := r.standing.lines, flags := r.standing.flags, trips := r.standing.trips }

/-- LINE_SCAN loses the line's present pods with cause SCAN and begins enumeration at position 1; a line in SCANNING
refuses it with BUSY, and a line outside 1 to 2 gets RANGE (R27). LINE_REHEARSE starts a rehearsal; a BREAK loses the
pods from the named position outward at once; a scan or a rehearsal in progress refuses it with BUSY, and a field out
of range gets RANGE (R40). The seat that a lost pod served is muted, closed, cleared and held, and every other seat keeps
its flags and its trips (R26, R50, R56, R59, R109, R166). -/
def Obligations.LineScanAndRehearseStart : Prop :=
  (∀ (s : State) (tag : Byte) (l : LineNo), s.Calm →
     let act := exec (.lineScan tag (numByte l)) s
     (∀ b : Byte, b.toNat = 0 ∨ 2 < b.toNat → exec (.lineScan tag b) s = .next (s.told ⟨0x1A, tag, [b]⟩ .range []))
     ∧ ((s.room.line l).lstate = .scanning → act = .next (s.told ⟨0x1A, tag, [numByte l]⟩ .busy []))
     ∧ ((s.room.line l).lstate ≠ .scanning →
       ∃ es r, act = .next (s.replied ⟨0x1A, tag, [numByte l]⟩ ⟨.ok, []⟩ es r)
         ∧ (r.line l).lstate = .scanning ∧ (r.line l).scan = some ⟨0, 20⟩ ∧ (r.line l).probe = none
         ∧ (r.line l).probeTimer = none ∧ (r.line l).rehearsal = none
         ∧ .lineState l .scanning ∈ es
         ∧ (∀ p : Pos, (r.podAt ⟨l, p⟩).present = false)
         ∧ (∀ p : Pos, (s.room.podAt ⟨l, p⟩).present = true →
             .podLost ⟨l, p⟩ .scan (seatAt s.room.map.running ⟨l, p⟩) ∈ es)
         ∧ LossLeaves s.room r (fun p => p.line = l ∧ (s.room.podAt p).present = true) es
         ∧ (∀ k : LineNo, k ≠ l → (r.line k).facts = (s.room.line k).facts)
         ∧ r.standing
           = { s.room.standing with lines := r.standing.lines, flags := r.standing.flags, trips := r.standing.trips }))
  ∧ (∀ (s : State) (tag : Byte) (l : LineNo) (p : Pos) (ms : Pair), s.Calm → 10 ≤ ms.toNat → ms.toNat ≤ 10000 →
      let body := fun mode : Byte => [numByte l, numByte p, mode, ms.extractLsb' 8 8, ms.extractLsb' 0 8]
      let act := fun mode : Byte => exec (.lineRehearse tag (numByte l) (numByte p) mode ms) s
      (((s.room.line l).lstate = .scanning ∨ (s.room.line l).rehearsal.isSome = true) →
        ∀ mode : Byte, mode.toNat ≤ 1 → act mode = .next (s.told ⟨0x1B, tag, body mode⟩ .busy []))
      ∧ ((s.room.line l).lstate ≠ .scanning → (s.room.line l).rehearsal = none →
        act 0 = .next (s.replied ⟨0x1B, tag, body 0⟩ ⟨.ok, []⟩ [] { s.room with
          lines := s.room.lines.modify l fun x => { x with rehearsal := some ⟨.drop, p, ms.toNat⟩ } })
        ∧ ∃ es r, act 1 = .next (s.replied ⟨0x1B, tag, body 1⟩ ⟨.ok, []⟩ es r)
          ∧ (r.line l).rehearsal = some ⟨.brk, p, ms.toNat⟩
          ∧ (∀ q : Pos, (r.podAt ⟨l, q⟩).present = ((s.room.podAt ⟨l, q⟩).present && decide (q.val < p.val)))
          ∧ (∀ q : Pos, (s.room.podAt ⟨l, q⟩).present = true → p.val ≤ q.val →
              .podLost ⟨l, q⟩ .brk (seatAt s.room.map.running ⟨l, q⟩) ∈ es)
          ∧ LossLeaves s.room r (fun q => q.line = l ∧ (s.room.podAt q).present = true ∧ p.val ≤ q.pos.val) es
          ∧ (∀ k : LineNo, k ≠ l → (r.line k).facts = (s.room.line k).facts)
          ∧ r.standing
            = { s.room.standing with lines := r.standing.lines, flags := r.standing.flags, trips := r.standing.trips }))
  ∧ (∀ (s : State) (tag l p mode : Byte) (ms : Pair), s.Free →
      (l.toNat = 0 ∨ 2 < l.toNat ∨ p.toNat = 0 ∨ 20 < p.toNat ∨ 1 < mode.toNat ∨ ms.toNat < 10 ∨ 10000 < ms.toNat) →
      exec (.lineRehearse tag l p mode ms) s
        = .next (s.told ⟨0x1B, tag, [l, p, mode, ms.extractLsb' 8 8, ms.extractLsb' 0 8]⟩ .range []))

/-- The timers of a line: REHEARSAL_END ends the rehearsal; PROBE_TIMER_EXPIRY probes the first absent position and
runs again while pods are missing; ENUMERATION_TIMEOUT ends a probe, or a scan with LINE_STATE and SCAN_DONE;
ROOM_LAMP_BLINK_END ends a blink, and the indications are recomposed (R28, R29, R35 to R37, R40). That a timer which
does not run changes nothing is the model's choice (log 3). The downstream frame of a line (R21): each slot carries
the bus of the seat that a present pod serves, silence elsewhere, and the three indications as they stand, and the
command field the position of an enumeration command as it begins; none goes out while the reset input is asserted
(R184). That a command stands in one frame alone, the one in which its 20 ms begin, is the model's choice (log 53). -/
def Obligations.LineTimersExpire : Prop :=
  (∀ (s : State) (l : LineNo),
    (s.held = true → s.downFrame l = none)
    ∧ (s.held = false → ∃ d, s.downFrame l = some d
      ∧ (∀ p : Pos,
          let pod := s.room.podAt ⟨l, p⟩
          let slot := d.slots.get p
          slot.ring = pod.ring ∧ slot.talk = pod.talk ∧ slot.room = pod.room
          ∧ (∀ n, pod.present = true → seatAt s.room.map.running ⟨l, p⟩ = some n → slot.loud = s.room.busFrame (.loud n))
          ∧ (pod.present = false ∨ seatAt s.room.map.running ⟨l, p⟩ = none → slot.loud = Tab.fill 48 0))
      ∧ d.command = match (s.room.line l).scan, (s.room.line l).probe with
        | some ⟨p, 20⟩, _ => some p
        | none, some ⟨p, 20⟩ => some p
        | _, _ => none))
  ∧ ∀ (s : State) (l : LineNo), s.Awake →
    let x := s.room.line l
    let with_ := fun y : Line => { s.room with lines := s.room.lines.set l y }
    let rest := if x.count = 0 then LineState.down else .up
    exec (.rehearsalEnd l) s = .next (s.moved [] (with_ { x with rehearsal := none }))
    ∧ (x.probeTimer = none → exec (.probeTimerExpiry l) s = .next (s.moved [] s.room))
    ∧ (∀ left, x.probeTimer = some left →
        exec (.probeTimerExpiry l) s = .next (s.moved [] (with_ { x with
          probe := ((List.finRange 20).find? fun p => !(x.pods.get p).present).map fun p => ⟨p, 20⟩
          probeTimer := if x.lstate ≠ .scanning ∧ x.count < x.expected then some 500 else none })))
    ∧ (x.scan = none → exec (.enumerationTimeout l) s = .next (s.moved [] (with_ { x with probe := none })))
    ∧ (x.scan.isSome = true → x.lstate = .scanning →
        exec (.enumerationTimeout l) s
          = .next (s.moved [.lineState l rest, .scanDone l x.count] (with_ { x with
              scan := none, lstate := rest
              probeTimer := if x.count < x.expected then some (x.probeTimer.getD 500) else none })))
    ∧ (∀ p : Pos,
        ((x.pods.get p).blink = none → exec (.roomLampBlinkEnd l p) s = .next (s.moved [] s.room))
        ∧ ∃ r, exec (.roomLampBlinkEnd l p) s = .next (s.moved [] r) ∧ (r.podAt ⟨l, p⟩).blink = none
          ∧ ((x.pods.get p).blink.isSome = true → r.Shows ⟨l, p⟩)
          ∧ (r.podAt ⟨l, p⟩).view = (x.pods.get p).view ∧ (r.podAt ⟨l, p⟩).facts = (x.pods.get p).facts
          ∧ r.standing = s.room.standing
          ∧ ∀ q : PodPos, q ≠ ⟨l, p⟩ → r.podAt q = s.room.podAt q)

/-- UPSTREAM_FRAME, no answer in it (R22, R24, R25, R31). A present pod's good slot clears its bad count, a bad slot
raises it and loses the pod at the lost limit; a terminator report loses the pods beyond it; each loss gives POD_LOST,
and the line state and the probe timer follow; a good slot's privacy switch is recorded; a good slot's samples are the
position's audio and a bad slot gives silence; that the frame brings the samples of the program inputs too is the
model's choice (log 15). The seat that a lost pod served is muted, closed, cleared and held; every other seat keeps its
feedback flag, its trips and its presence, and its privacy flag follows a switch that its good slot reports as changed
(R26, R31, R50, R56, R59, R109, R166). No setting moves, and without a press no self flag, no claim and no
call state. A press (R32, R33, R34): the frame with one press in a served pod's good slot does what the frame without
it does, and then what the press does, the mute components following the mutes it changes (R72). -/
def Obligations.UpstreamFrameChecksSlots : Prop :=
  let calm := fun st : StatusRecord =>
    st.mic = false ∧ st.talk = false ∧ st.room = false ∧ st.next = false ∧ st.clear = false
  (∀ (s : State) (l : LineNo) (f : UpFrame), s.Awake → f.answer = none →
    let x := s.room.line l
    let term := if f.term.passes = true then min 20 f.term.value else x.termReported
    let reach := match x.rehearsal with
      | some ⟨.brk, p, _⟩ => min term p.val
      | _ => term
    let good := fun p : Pos =>
      (f.slots.get p).passes && decide ((f.slots.get p).status.kind = (x.pods.get p).kind) && !x.dropped p
    let bad := fun p : Pos => if good p = true then 0 else (x.pods.get p).bad + 1
    let kept := fun p : Pos => (x.pods.get p).present && (good p || decide (bad p < x.lostLimit)) && decide (p.val + 1 ≤ reach)
    let lost := fun p : Pos => (x.pods.get p).present = true ∧ kept p = false
    let left := ((List.finRange 20).filter kept).length
    let probing := x.lstate ≠ .scanning ∧ left < x.expected
    ∃ es r, exec (.upstreamFrame l f) s = .next (s.moved es r)
      ∧ (∀ p : Pos, (r.podAt ⟨l, p⟩).present = kept p
          ∧ (kept p = true → (r.podAt ⟨l, p⟩).kind = (x.pods.get p).kind ∧ (r.podAt ⟨l, p⟩).bad = bad p
            ∧ (r.podAt ⟨l, p⟩).privacy
              = if good p = true then (f.slots.get p).status.privacy else (x.pods.get p).privacy))
      ∧ (∀ p : Pos, (r.line l).audio.get p
          = if good p = true ∧ kept p = true then (f.slots.get p).samples else Tab.fill 48 0)
      ∧ r.mix.program = f.program
      ∧ ((∀ p, ¬ lost p) → (r.line l).lstate = x.lstate ∧ (r.line l).probeTimer = x.probeTimer)
      ∧ ((∃ p, lost p) →
          (r.line l).lstate = (if x.lstate = .scanning then .scanning else if left = 0 then .down else .up)
          ∧ (¬ probing → (r.line l).probeTimer = none)
          ∧ (probing → (x.probeTimer = none ∨ x.count < x.expected) →
            (r.line l).probeTimer = some (x.probeTimer.getD 500)))
      ∧ ((r.line l).lstate ≠ x.lstate → .lineState l (r.line l).lstate ∈ es)
      ∧ r.standing.lines = s.room.standing.lines.modify l (fun y => { y with
          pods := (r.line l).facts.pods, lstate := (r.line l).lstate, probeTimer := (r.line l).probeTimer
          termReported := term })
      ∧ (s.room.link.call ≠ .standby → r.standing.dark = s.room.standing.dark ∧ r.link.call = s.room.link.call
        ∧ r.floor.standby = s.room.floor.standby ∧ r.mix.standby = s.room.mix.standby)
      ∧ (s.room.map.switch = none →
        (∀ p, lost p → .podLost ⟨l, p⟩ (if good p = true ∨ bad p < x.lostLimit then .brk else .slot)
          (seatAt s.room.map.running ⟨l, p⟩) ∈ es)
        ∧ r.standing = { s.room.standing with
            lines := r.standing.lines, dark := r.standing.dark, flags := r.standing.flags, table := r.standing.table
            stamp := r.standing.stamp, trips := r.standing.trips, call := r.standing.call
            floorStandby := r.standing.floorStandby, mixStandby := r.standing.mixStandby }
        ∧ (∀ n : Seat,
          (∀ p, lost p → seatAt s.room.map.running ⟨l, p⟩ = some n →
            SeatLost s.room r n es)
          ∧ ((∀ p, lost p → seatAt s.room.map.running ⟨l, p⟩ ≠ some n) →
            (r.fbSeat n).facts = (s.room.fbSeat n).facts ∧ (r.mseat n).feedback = (s.room.mseat n).feedback
            ∧ (r.mseat n).presence = (s.room.mseat n).presence
            ∧ ((∀ p, kept p = true → seatAt s.room.map.running ⟨l, p⟩ ≠ some n) →
              (r.mseat n).privacy = (s.room.mseat n).privacy)
            ∧ ∀ p, kept p = true → seatAt s.room.map.running ⟨l, p⟩ = some n →
              let told := (f.slots.get p).status.privacy
              (r.mseat n).privacy
                = if good p = true ∧ told ≠ (x.pods.get p).privacy ∧ (s.room.mseat n).presence = .present then told
                  else (s.room.mseat n).privacy))
        ∧ ((∀ p, calm (f.slots.get p).status) →
          (∀ n, (r.mseat n).self = (s.room.mseat n).self)
          ∧ r.standing = { s.room.standing with
              lines := r.standing.lines, flags := r.standing.flags, trips := r.standing.trips })))
  ∧ ∀ (s : State) (l : LineNo) (f : UpFrame) (p : Pos) (button : Button), s.Steady → f.answer = none →
    let x := s.room.line l
    let slot := f.slots.get p
    (∀ q, calm (f.slots.get q).status) → (∀ q, q ≠ p → (f.slots.get q).status.privacy = (x.pods.get q).privacy) →
    (x.pods.get p).present = true → slot.passes = true → slot.status.kind = (x.pods.get p).kind → x.dropped p = false →
    let status := slot.status
    let pressed := match button with
      | .mic => { status with mic := true }
      | .talk => { status with talk := true }
      | .room => { status with room := true }
      | .next => { status with next := true }
      | .clear => { status with clear := true }
    ∃ es es' r r', exec (.upstreamFrame l f) s = .next (s.moved es r)
      ∧ exec (.upstreamFrame l { f with slots := f.slots.set p { slot with status := pressed } }) s
        = .next (s.moved (es ++ es') r')
      ∧ ((r.podAt ⟨l, p⟩).present = false ∨ seatAt s.room.map.running ⟨l, p⟩ = none → es' = [] ∧ r' = r)
      ∧ ∀ n, (r.podAt ⟨l, p⟩).present = true → seatAt s.room.map.running ⟨l, p⟩ = some n →
          Press.Taken ⟨r, ⟨l, p⟩, n, es', r'⟩ button

/-- UPSTREAM_FRAME with an answer (R28, R29, R30). A valid answer to a scan step or to a probe: the pod is found as
the answer says, with POD_FOUND, its seat becomes PRESENT and its detector seeds, no level measured yet (log 24); the other pods stand as after the
frame without the answer; the scan moves outward or ends with LINE_STATE and SCAN_DONE, which carries the count of
present pods, and the probe ends. An answer that fails its check, comes from another position or is silenced by a
rehearsal, or one with no enumeration command in flight, changes nothing: the frame acts as it does without it. -/
def Obligations.UpstreamFrameAnswersScan : Prop :=
  (∀ (s : State) (l : LineNo) (f : UpFrame) (p : Pos) (left : Nat) (a : EnumAnswer), s.Steady →
    f.answer = some a → a.passes = true → a.pos = p →
    let x := s.room.line l
    (x.scan = some ⟨p, left⟩ ∨ x.scan = none ∧ x.probe = some ⟨p, left⟩) → x.deaf p = false →
    (s.room.podAt ⟨l, p⟩).present = false →
    ∃ es es' r r', exec (.upstreamFrame l { f with answer := none }) s = .next (s.moved es r)
      ∧ exec (.upstreamFrame l f) s = .next (s.moved es' r')
      ∧ (r'.podAt ⟨l, p⟩).facts = ⟨true, a.kind, a.privacy, 0⟩
      ∧ r'.Shows ⟨l, p⟩
      ∧ (∀ q : Pos, q ≠ p → (r'.podAt ⟨l, q⟩).facts = (r.podAt ⟨l, q⟩).facts)
      ∧ (∀ n, seatAt s.room.map.running ⟨l, p⟩ = some n →
        (r'.fseat n).presence = .present ∧ (r'.mseat n).presence = .present ∧ (r'.fbSeat n).presence = .present
        ∧ (r'.mseat n).privacy = a.privacy ∧ (r'.det.get n).held = false ∧ (r'.det.get n).seed = some 100
        ∧ (r'.det.get n).seedLow = none)
      ∧ r'.standing.lines = r.standing.lines.modify l (fun y => { y with
          pods := (r'.line l).facts.pods, lstate := (r'.line l).lstate, probeTimer := (r'.line l).probeTimer
          scan := (r'.line l).scan, probe := (r'.line l).probe })
      ∧ r'.standing = { s.room.standing with
          lines := r'.standing.lines, dark := r'.standing.dark, flags := r'.standing.flags, table := r'.standing.table
          stamp := r'.standing.stamp, trips := r'.standing.trips, call := r'.standing.call
          floorStandby := r'.standing.floorStandby, mixStandby := r'.standing.mixStandby }
      ∧ .podFound ⟨l, p⟩ a.kind a.privacy (seatAt s.room.map.running ⟨l, p⟩) ∈ es'
      ∧ (x.scan = some ⟨p, left⟩ → (r'.line l).probe = x.probe
        ∧ (∀ h : p.val + 1 < 20, (r'.line l).scan = some ⟨⟨p.val + 1, h⟩, 20⟩
          ∧ (x.lstate = .scanning → (r'.line l).lstate = .scanning ∧ (r'.line l).probeTimer = none))
        ∧ (p.val = 19 → (r'.line l).scan = none ∧ (r'.line l).lstate = .up ∧ .scanDone l (r'.line l).count ∈ es'
          ∧ (x.lstate = .scanning → .lineState l .up ∈ es'
            ∧ (r'.line l).probeTimer = if (r'.line l).count < x.expected then some 500 else none)))
      ∧ (x.scan = none → (r'.line l).scan = none ∧ (r'.line l).probe = none
        ∧ (x.lstate ≠ .scanning → (r'.line l).lstate = .up
          ∧ (r'.line l).probeTimer
            = if (r'.line l).count < x.expected then some ((r.line l).probeTimer.getD 500) else none)))
  ∧ ∀ (s : State) (l : LineNo) (f : UpFrame) (a : EnumAnswer),
    let x := s.room.line l
    (∀ p left, (x.scan = some ⟨p, left⟩ ∨ x.scan = none ∧ x.probe = some ⟨p, left⟩) →
      a.passes = false ∨ a.pos ≠ p ∨ x.deaf p = true) →
    exec (.upstreamFrame l { f with answer := some a }) s = exec (.upstreamFrame l { f with answer := none }) s

/-! ## Talk Detectors -/

/-- DETECT_SET replaces the six settings of the named seat, or of every seat; a value out of range, or a fall guard
greater than the rise blank, gets RANGE (R52). The fall guard and the rise blank end; a RISING detector whose onset
was due reports it as the rise blank ends; the seed timer's end takes the lowest level measured as the noise floor
(R48, R49, R50; where none was measured, the level as it stands: log 18). That the expiry of a timer which does not
run changes nothing is the model's choice (log 3). New settings act at once (R52): a RISING detector that reaches the
new onset time reports its onset, or marks it due while a rise blank runs, and one that does not clears the mark; a
FALLING one that reaches the new end time reports its end. That accumulated speech stops at the onset time, so that
one at or above the new onset time with a rise blank running stands at it, is the model's reading of the range in the
table of 3.1 (log 17). With ALL the same holds of every seat, taken in ascending order; a report of a lower seat may
start step notices (R47), so a seat whose own rise blank such a notice starts before its turn marks its onset due in place
of reporting it, and the rise blank and fall guard timers may run anew (what accumulated speech reads after an onset is log
57). Talking while muted (R79): an onset at a mic-muted seat
begins a spell, with the ring's notice and TALK_WHILE_MUTED; an end ends it. -/
def Obligations.DetectSetAndTimers : Prop :=
  (∀ (s : State) (tag onset echo time : Byte) (endTime rise fall : Pair), s.Calm →
     3 ≤ onset.toNat → onset.toNat ≤ 30 → echo.toNat ≤ 30 → 10 ≤ time.toNat → time.toNat ≤ 200 →
     100 ≤ endTime.toNat → endTime.toNat ≤ 1000 → rise.toNat ≤ 500 → fall.toNat ≤ rise.toNat →
     let set : DetSettings := ⟨onset.toNat, echo.toNat, time.toNat, endTime.toNat, rise.toNat, fall.toNat⟩
     let two := fun p : Pair => [p.extractLsb' 8 8, p.extractLsb' 0 8]
     let frame := fun b : Byte => (⟨0x20, tag, [b, onset, echo, time] ++ two endTime ++ two rise ++ two fall⟩ : Frame)
     (∀ n : Seat, ∃ es r,
       exec (.detectSet tag (numByte n) onset echo time endTime rise fall) s
         = .next (s.replied (frame (numByte n)) ⟨.ok, []⟩ es r)
       ∧ r.standing = { s.room.standing with detectors := s.room.standing.detectors.set n set }
       ∧ (let d := s.room.det.get n
         let y := { d with settings := set }
         let quiet := fun z : Detector => es = [] ∧ r = { s.room with det := s.room.det.set n z }
         (d.held = true ∨ d.dstate = .silent ∨ d.dstate = .speech → quiet y)
         ∧ (d.held = false → d.dstate = .rising →
           (d.acc < set.onsetTime → quiet { y with due := false })
           ∧ (∀ left, set.onsetTime ≤ d.acc → d.rise = some left → quiet { y with acc := set.onsetTime, due := true })
           ∧ (set.onsetTime ≤ d.acc → d.rise = none →
             (r.det.get n).dstate = .speech ∧ (r.det.get n).due = false ∧ (r.mseat n).speaking = true
             ∧ (r.fseat n).speaking = true))
         ∧ (d.held = false → d.dstate = .falling →
           (d.endTimer < set.endTime → quiet y)
           ∧ (set.endTime ≤ d.endTimer →
             (r.det.get n).dstate = .silent ∧ (r.det.get n).endTimer = 0 ∧ (r.mseat n).speaking = false
             ∧ (r.mseat n).spell = false ∧ (r.fseat n).speaking = false
             ∧ ∀ p, (s.room.mseat n).spell = true → s.room.placeOf n = some p → (s.room.podAt p).present = true →
               (r.podAt p).view.talking = false))))
     ∧ ∃ es r,
       exec (.detectSet tag 0 onset echo time endTime rise fall) s = .next (s.replied (frame 0) ⟨.ok, []⟩ es r)
       ∧ r.standing = { s.room.standing with detectors := Tab.fill 40 set }
       ∧ (let begins := fun m : Seat => let d := s.room.det.get m
            d.held = false ∧ d.dstate = .rising ∧ set.onsetTime ≤ d.acc ∧ d.rise = none
         let ends := fun m : Seat => let d := s.room.det.get m
            d.held = false ∧ d.dstate = .falling ∧ set.endTime ≤ d.endTimer
         ∀ n : Seat,
           let d := s.room.det.get n
           let d' := r.det.get n
           let y := { d with settings := set }
           let quiet := fun z : Detector => d' = { z with rise := d'.rise, fall := d'.fall }
             ∧ (r.mseat n).speaking = (s.room.mseat n).speaking ∧ (r.mseat n).spell = (s.room.mseat n).spell
             ∧ (r.fseat n).speaking = (s.room.fseat n).speaking
           let begun := d'.dstate = .speech ∧ d'.due = false ∧ d'.acc = 0 ∧ (r.mseat n).speaking = true
             ∧ (r.fseat n).speaking = true ∧ (r.mseat n).spell = (s.room.eff n).micMuted
             ∧ ((s.room.mseat n).spell = false → (s.room.eff n).micMuted = true →
               .talkWhileMuted n (s.room.eff n).micCause ∈ es ∧ (r.mseat n).reported = true)
           (d.held = true ∨ (∀ m, ¬ begins m ∧ ¬ ends m) → d'.rise = d.rise ∧ d'.fall = d.fall)
           ∧ (d.held = true ∨ d.dstate = .silent ∨ d.dstate = .speech → quiet y)
           ∧ (d.held = false → d.dstate = .rising →
             (d.acc < set.onsetTime → quiet { y with due := false })
             ∧ (∀ left, set.onsetTime ≤ d.acc → d.rise = some left → quiet { y with acc := set.onsetTime, due := true })
             ∧ (begins n →
               (begun ∨ quiet { y with acc := set.onsetTime, due := true } ∧ d'.rise.isSome = true)
               ∧ (d.settings.riseBlank = 0 ∨ (∀ m, m < n → ¬ begins m ∧ ¬ ends m) → begun)))
           ∧ (d.held = false → d.dstate = .falling →
             (d.endTimer < set.endTime → quiet y)
             ∧ (ends n →
               d'.dstate = .silent ∧ d'.endTimer = 0 ∧ (r.mseat n).speaking = false ∧ (r.mseat n).spell = false
               ∧ (r.fseat n).speaking = false
               ∧ ∀ p, (s.room.mseat n).spell = true → s.room.placeOf n = some p → (s.room.podAt p).present = true →
                 (r.podAt p).view.talking = false))))
  ∧ (∀ (s : State) (tag b onset echo time : Byte) (endTime rise fall : Pair), s.Free →
      (40 < b.toNat ∨ onset.toNat < 3 ∨ 30 < onset.toNat ∨ 30 < echo.toNat ∨ time.toNat < 10 ∨ 200 < time.toNat
        ∨ endTime.toNat < 100 ∨ 1000 < endTime.toNat ∨ 500 < rise.toNat ∨ 500 < fall.toNat ∨ rise.toNat < fall.toNat) →
      let two := fun p : Pair => [p.extractLsb' 8 8, p.extractLsb' 0 8]
      exec (.detectSet tag b onset echo time endTime rise fall) s
        = .next (s.told ⟨0x20, tag, [b, onset, echo, time] ++ two endTime ++ two rise ++ two fall⟩ .range []))
  ∧ (∀ (s : State) (n : Seat), s.Steady →
      let d := s.room.det.get n
      let with_ := fun y : Detector => { s.room with det := s.room.det.set n y }
      exec (.fallGuardExpiry n) s = .next (s.moved [] (with_ { d with fall := none }))
      ∧ (d.seed = none → exec (.seedTimerExpiry n) s = .next (s.moved [] s.room))
      ∧ (∀ left low, d.seed = some left → d.seedLow = some low →
          exec (.seedTimerExpiry n) s
            = .next (s.moved [] (with_ { d with seed := none, seedLow := none, noiseFloor := low * 500 })))
      ∧ (∀ left, d.seed = some left → d.seedLow = none →
          exec (.seedTimerExpiry n) s
            = .next (s.moved [] (with_ { d with seed := none, noiseFloor := d.level * 500 })))
      ∧ (d.rise = none → exec (.riseBlankExpiry n) s = .next (s.moved [] s.room))
      ∧ (∀ left, d.rise = some left → (d.dstate ≠ .rising ∨ d.due = false) →
          exec (.riseBlankExpiry n) s = .next (s.moved [] (with_ { d with rise := none })))
      ∧ (∀ left, d.rise = some left → d.dstate = .rising → d.due = true →
          ∃ es r, exec (.riseBlankExpiry n) s = .next (s.moved es r)
            ∧ (r.det.get n).dstate = .speech ∧ (r.mseat n).speaking = true ∧ (r.fseat n).speaking = true
            ∧ r.standing = s.room.standing
            ∧ (r.mseat n).spell = (s.room.eff n).micMuted
            ∧ ((s.room.mseat n).spell = false → (s.room.eff n).micMuted = true →
              .talkWhileMuted n (s.room.eff n).micCause ∈ es ∧ (r.mseat n).reported = true
              ∧ ∀ p, s.room.placeOf n = some p → (s.room.podAt p).present = true → (r.podAt p).view.talking = true)))

/-- The table of R45: the four states of a detector as one frame's decision, and the end of the rise blank, move them,
and what each move reports; what accumulated speech reads after the onset is the model's choice (log 57). The level
(R43): the mean square of the last 10 ms of samples, to the nearest half-decibel (log 14, 20). The reference (R43):
the highest value of the last 30 ms, each the level of the last 10 ms of bus Ln, -100.0 dB once the bus has been silence for
30 ms (log 54). UPSTREAM_FRAME brings
the level, the reference and the noise floor of each seat served on its line up to date (R43, R44): the floor stays
while speech is present, while the fall guard runs and while the detector seeds, and else moves toward the level by
0.006 dB upward or 0.020 dB downward in the 1 ms. The reference is that of bus Ln as it goes out, taken as a seat takes
its 1 ms, with the frame's samples and program inputs held and the seats before it on the line done (log 15, 24, 56). That
accumulated speech stops at the onset time while a rise blank runs is the model's reading (log 17). The terms of each bus
are those of R119. A bus is the sum of its terms, each its source's samples multiplied by the term's gain, the sum
multiplied by the whole-bus gain and limited (R118, R119, R120, R122; how a product is rounded and full scale are log
14, that the limit comes last log 68, that the 48 samples of 1 ms take one gain while a ramp runs log 73); what its sources carry is R2, R24, R118 and R141 (rate conversion and tones: log
64, 65). -/
def Obligations.SpeechDecisionTable : Prop :=
  (∀ (d : Detector) (energy : Nat),
    let total := ((energy :: d.energies).take 10).sum
    let v := (d.hear energy).level
    (d.hear energy).energies = (energy :: d.energies).take 10
    ∧ (total < 480 → v = -200) ∧ (480 * 10 ^ 12 ≤ total → v = 40)
    ∧ (480 ≤ total → total < 480 * 10 ^ 12 → -200 ≤ v ∧ v ≤ 40
      ∧ 480 ^ 40 * 10 ^ (2 * (v + 200).toNat) ≤ 10 * total ^ 40
      ∧ 10 * total ^ 40 < 480 ^ 40 * 10 ^ (2 * (v + 200).toNat + 2)))
  ∧ (∀ (d : Detector) (silent : Bool) (energy : Nat),
    let d' := d.hearBus silent energy
    (silent = true → d'.refEnergies = List.replicate 10 0)
    ∧ (silent = false → d'.refEnergies = (energy :: d.refEnergies).take 10)
    ∧ (∃ v, d'.refLevels = (v :: d.refLevels).take 30 ∧ LevelIs d'.refEnergies.sum 480 v ∧ (silent = true → v = -200))
    ∧ (∀ v ∈ d'.refLevels, v ≤ d'.reference) ∧ (d'.reference ∈ d'.refLevels ∨ d'.reference = -200)
    ∧ ((List.range 30).foldl (fun d _ => d.hearBus true energy) d).reference = -200)
  ∧ (∀ (n : Seat) (k : Link),
    let mics := (List.finRange 40).map Source.mic
    let far := (List.finRange 4).map Source.far
    let programs := [Source.program false, .program true]
    (Bus.loud n).terms = mics.filter (fun t => decide (t ≠ .mic n)) ++ far ++ programs ++ [.tone n]
    ∧ (Bus.send k).terms = mics ++ programs ++ far.filter (fun t => decide (t ≠ .far k))
    ∧ Bus.recorder.terms = mics ++ far ++ programs ∧ Bus.assist.terms = mics ++ far ++ programs)
  ∧ (∀ (r : Room) (b : Bus) (i : Fin 48),
    let sound := fun t : Source => (r.mix.termNow b t).scale ((r.sourceFrame t).get i)
    (r.mix.busNow b = .off → (r.busFrame b).get i = 0)
    ∧ (r.mix.busNow b ≠ .off →
      (r.busFrame b).get i = limited ((r.mix.busNow b).scale (b.terms.map sound).sum)))
  ∧ (∀ (m x : Int), Gain.off.scale x = 0 ∧ (Gain.db 0).scale x = x ∧ (Gain.db m).scale 0 = 0
    ∧ (Gain.db 20000).scale x = 10 * x ∧ (Gain.db (-20000)).scale (10 * x) = x
    ∧ |(Gain.db m).scale x * (gainFactor m).2 - x * (gainFactor m).1| < (gainFactor m).2
    ∧ (gainFactor (m + 20000)).1 * (gainFactor m).2 = 10 * (gainFactor m).1 * (gainFactor (m + 20000)).2
    ∧ (∀ k : Fin 40, let f := gainFactor (k.val * 500)
      |(f.1 : Int) ^ 40 - 10 ^ k.val * (f.2 : Int) ^ 40| * 10 ^ 15 < 10 ^ k.val * (f.2 : Int) ^ 40)
    ∧ (x ≠ 0 → limited x = max (-(Config.fullScale : Int)) (min (Config.fullScale : Int) x)) ∧ limited 0 = 0)
  ∧ (∀ (r : Room) (n : Seat) (k : Link) (second : Bool),
    r.sourceFrame (.mic n) = (match (r.map.running.get n).place with
        | none => Tab.fill 48 0
        | some p => if (r.podAt p).present = true then (r.line p.line).audio.get p.pos else Tab.fill 48 0)
    ∧ r.sourceFrame (.far k) = (match (r.linkRec k).locked, (r.linkRec k).rate with
        | true, some rate => samplesOf (converted rate 48000 (r.linkRec k).inbound)
        | _, _ => Tab.fill 48 0)
    ∧ r.sourceFrame (.program second) = r.mix.program.get (if second = true then 1 else 0)
    ∧ (r.mix.players.get n = none → r.sourceFrame (.tone n) = Tab.fill 48 0)
    ∧ ∀ x, r.mix.players.get n = some x →
        r.sourceFrame (.tone n) = Tab.ofFn fun i => Config.tone (match x.tone with
          | .muted => 0
          | .live => 1
          | .held => 2
          | .granted => 3) x.elapsed i.val)
  ∧ (∀ (r : Room) (n : Seat),
    let silent := decide (r.mix.busNow (.loud n) = .off)
      || (Bus.loud n).terms.all fun t => decide (r.mix.termNow (.loud n) t = .off)
    let energy := ((r.busFrame (.loud n)).toList.map fun v => v.natAbs * v.natAbs).sum
    let d := (r.det.get n).hearBus silent energy
    ((r.audio n).det.get n).refLevels = d.refLevels ∧ ((r.audio n).det.get n).reference = d.reference
    ∧ ((r.audio n).det.get n).refEnergies = d.refEnergies)
  ∧ (∀ (s : State) (l : LineNo) (f : UpFrame) (n : Seat) (p : Pos), s.Steady → f.answer = none →
    s.room.placeOf n = some ⟨l, p⟩ → (s.room.det.get n).held = false →
    let x := s.room.line l
    let d := s.room.det.get n
    let good := (f.slots.get p).passes && decide ((f.slots.get p).status.kind = (x.pods.get p).kind) && !x.dropped p
    let squares := fun y : Samples => (y.toList.map fun v => v.natAbs * v.natAbs).sum
    let energy := if good = true then squares (f.slots.get p).samples else 0
    let held := s.room.hearFrame l f
    let turn := ((held.seatsOn l).takeWhile fun m => decide (m ≠ n)).foldl Room.audio held
    let silent := decide (turn.mix.busNow (.loud n) = .off)
      || (Bus.loud n).terms.all fun t => decide (turn.mix.termNow (.loud n) t = .off)
    let bus := squares (turn.busFrame (.loud n))
    ∃ es r, exec (.upstreamFrame l f) s = .next (s.moved es r)
      ∧ ((r.podAt ⟨l, p⟩).present = true →
        let d' := r.det.get n
        let present := d.noiseFloor + d.settings.onsetMargin * 1000 < d'.level * 500
          ∧ d'.reference * 500 + d.settings.echoMargin * 1000 < d'.level * 500
        d'.energies = (energy :: d.energies).take 10 ∧ d'.level = (d.hear energy).level
        ∧ d'.refEnergies = (d.hearBus silent bus).refEnergies ∧ d'.refLevels = (d.hearBus silent bus).refLevels
        ∧ d'.reference = (d.hearBus silent bus).reference
        ∧ d'.settings = d.settings
        ∧ ((d.seed.isSome = true ∨ present ∨ d.fall.isSome = true) → d'.noiseFloor = d.noiseFloor)
        ∧ (d.seed = none → ¬ present → d'.fall = none →
          d'.noiseFloor = if d.noiseFloor < d'.level * 500 then min (d'.level * 500) (d.noiseFloor + 6)
            else max (d'.level * 500) (d.noiseFloor - 20))))
  ∧ (∀ (s : State) (l : LineNo) (f : UpFrame), s.Steady →
    let x := s.room.line l
    let held := s.room.hearFrame l f
    let good := fun p : Pos => (x.pods.get p).present && (f.slots.get p).passes
      && decide ((f.slots.get p).status.kind = (x.pods.get p).kind) && !x.dropped p
    held.mix.program = f.program
    ∧ (∀ p, (held.line l).audio.get p
      = if (good p && (held.podAt ⟨l, p⟩).present) = true then (f.slots.get p).samples else Tab.fill 48 0)
    ∧ (∀ k, k ≠ l → (held.line k).audio = (s.room.line k).audio)
    ∧ ((∀ p, (held.podAt ⟨l, p⟩).present = (s.room.podAt ⟨l, p⟩).present) →
      held.mix = { s.room.mix with program := f.program } ∧ held.map = s.room.map ∧ held.link = s.room.link
      ∧ held.det = s.room.det ∧ held.floor = s.room.floor))
  ∧ ∀ d : Detector,
    (d.dstate = .silent → d.decide true = ({ d with dstate := .rising, acc := 0, due := false }, none)
      ∧ d.decide false = (d, none))
    ∧ (d.dstate = .rising → d.acc < d.settings.onsetTime →
        (d.acc + 1 < d.settings.onsetTime → d.decide true = ({ d with acc := d.acc + 1 }, none))
        ∧ (d.acc + 1 = d.settings.onsetTime → d.rise = none →
            d.decide true = ({ d with dstate := .speech, acc := 0, due := false }, some true))
        ∧ (∀ left, d.acc + 1 = d.settings.onsetTime → d.rise = some left →
            d.decide true = ({ d with acc := d.acc + 1, due := true }, none)))
    ∧ (∀ left, d.dstate = .rising → d.rise = some left →
        (d.acc = d.settings.onsetTime → d.decide true = ({ d with due := true }, none))
        ∧ (d.due = true →
            d.riseExpiry = ({ d with rise := none, dstate := .speech, acc := 0, due := false }, some true))
        ∧ (d.due = false → d.riseExpiry = ({ d with rise := none }, none)))
    ∧ (∀ left, d.dstate ≠ .rising → d.rise = some left → d.riseExpiry = ({ d with rise := none }, none))
    ∧ (d.dstate = .rising → d.decide false = ({ d with dstate := .silent, acc := 0, due := false }, none))
    ∧ (d.dstate = .speech → d.decide true = (d, none)
        ∧ d.decide false = ({ d with dstate := .falling, endTimer := 0 }, none))
    ∧ (d.dstate = .falling → d.decide true = ({ d with dstate := .speech, endTimer := 0 }, none)
        ∧ (d.endTimer + 1 < d.settings.endTime → d.decide false = ({ d with endTimer := d.endTimer + 1 }, none))
        ∧ (d.settings.endTime ≤ d.endTimer + 1 →
            d.decide false = ({ d with dstate := .silent, endTimer := 0 }, some false)))

/-! ## Mutes -/

/-- MUTE_PLACE (R60, R61, R62, R63): RANGE for a field out of range or a claim the class may not have; STATE while the
link of a FAR claimant is IDLE; an existing record takes the expiry; FULL where the table is full; else a new record
stands at the end of the table under the lowest free number, and the mutes follow: each seat and link whose effective
mute changes has its mute component sent to its new target (R72, R124 to R126). The fields are the codes of R190: a class
3 ROOM with identity 0, 4 CHAIR with a seat, 5 FAR with a link, a host's being ROOM or FAR; a scope 1 SEAT, 2 GROUP,
3 MEMBERS, 4 ALL, 5 LINK with its index, 0 for MEMBERS and ALL; a direction 1 MIC, 2 SPEAKER, 3 SEND, 4 RETURN. The scopes
and directions of a class are those of the table of R61. -/
def Obligations.MutePlacePlacesClaim : Prop :=
  (∀ (a b : Byte) (who : Claimant),
    (claimantOf a b = some who ↔ a = 3 ∧ b = 0 ∧ who = .room
      ∨ a = 4 ∧ (∃ n : Seat, b.toNat = n.val + 1 ∧ who = .chair n)
      ∨ a = 5 ∧ ∃ k : Link, b.toNat = k.val + 1 ∧ who = .far k)
    ∧ (hostClaimant a b = some who ↔ a = 3 ∧ b = 0 ∧ who = .room
      ∨ a = 5 ∧ ∃ k : Link, b.toNat = k.val + 1 ∧ who = .far k))
  ∧ (∀ (a b : Byte) (scope : Scope), scopeOf a b = some scope ↔
      a = 1 ∧ (∃ n : Seat, b.toNat = n.val + 1 ∧ scope = .seat n)
      ∨ a = 2 ∧ (∃ g : Group, b.toNat = g.val + 1 ∧ scope = .group g)
      ∨ a = 3 ∧ b = 0 ∧ scope = .members ∨ a = 4 ∧ b = 0 ∧ scope = .everyone
      ∨ a = 5 ∧ ∃ k : Link, b.toNat = k.val + 1 ∧ scope = .link k)
  ∧ (∀ (a : Byte) (way : Dir), dirOf a = some way ↔
      a = 1 ∧ way = .mic ∨ a = 2 ∧ way = .speaker ∨ a = 3 ∧ way = .send ∨ a = 4 ∧ way = .ret)
  ∧ (∀ (who : Claimant) (scope : Scope) (way : Dir), permitted who scope way = true ↔ match who with
      | .room => if ∃ k, scope = .link k then way = .send ∨ way = .ret else way = .mic ∨ way = .speaker
      | .chair _ => scope = .members ∧ way = .mic
      | .far _ => (scope = .members ∨ ∃ n, scope = .seat n) ∧ way = .mic)
  ∧ (∀ (s : State) (tag cls identity kind index dir : Byte) (expiry : Pair), s.Free →
    (hostClaimant cls identity = none ∨ scopeOf kind index = none ∨ dirOf dir = none ∨ 3600 < expiry.toNat
      ∨ ∃ who scope way, hostClaimant cls identity = some who ∧ scopeOf kind index = some scope ∧ dirOf dir = some way
        ∧ permitted who scope way = false) →
    exec (.mutePlace tag cls identity kind index dir expiry) s
      = .next (s.told ⟨0x28, tag, [cls, identity, kind, index, dir, expiry.extractLsb' 8 8, expiry.extractLsb' 0 8]⟩
          .range []))
  ∧ ∀ (s : State) (tag cls identity kind index dir : Byte) (expiry : Pair) (who : Claimant) (scope : Scope) (way : Dir)
    (ms : Option Nat), s.Calm →
    hostClaimant cls identity = some who → scopeOf kind index = some scope → dirOf dir = some way →
    (expiry.toNat = 0 ∧ ms = none ∨ 1 ≤ expiry.toNat ∧ expiry.toNat ≤ 3600 ∧ ms = some (expiry.toNat * 1000)) →
    permitted who scope way = true →
    let frame : Frame :=
      ⟨0x28, tag, [cls, identity, kind, index, dir, expiry.extractLsb' 8 8, expiry.extractLsb' 0 8]⟩
    let act := exec (.mutePlace tag cls identity kind index dir expiry) s
    let same := fun c : Claim => c.who = who ∧ c.scope = scope ∧ c.dir = way
    (∀ k, who = .far k → s.room.mute.linkIdle.get k = true → act = .next (s.told frame .state []))
    ∧ ((∀ k, who = .far k → s.room.mute.linkIdle.get k = false) →
        (∀ c, s.room.mute.table.find? (fun c => same c) = some c →
          act = .next (s.replied frame ⟨.ok, [byteOf c.number.val, 0]⟩ [] { s.room with mute := { s.room.mute with
            table := s.room.mute.table.map fun x => if x.number = c.number then { x with expiry := ms } else x } }))
        ∧ ((∀ c ∈ s.room.mute.table, ¬ same c) → (∀ i : Fin 48, ∃ c ∈ s.room.mute.table, c.number = i) →
          act = .next (s.told frame .full []))
        ∧ ∀ i : Fin 48, (∀ c ∈ s.room.mute.table, ¬ same c) → (∀ c ∈ s.room.mute.table, c.number ≠ i) →
          (∀ j : Fin 48, j < i → ∃ c ∈ s.room.mute.table, c.number = j) →
          ∃ es r, act = .next (s.replied frame ⟨.ok, [byteOf i.val, 1]⟩ es r)
            ∧ r.standing = { s.room.standing with
                table := s.room.mute.table ++ [⟨i, who, scope, way, ms, s.room.mute.stamp⟩]
                stamp := s.room.mute.stamp + 1 }
            ∧ r.Derived ∧ MutesReachMix s.room r)

/-- MUTE_LIFT by number or by name (R66): RANGE for a field out of range, a direction that the named scope does not have
among them; ABSENT where no such record stands; the record's own claimant, or a higher one
with force, removes it and the mutes follow, their components with them (R72); any other is refused with HELD and the
record's class, 3 ROOM, 4 CHAIR or 5 FAR. ROOM stands above CHAIR and CHAIR above FAR (R55). The fields are the codes of
R190, as O33 spells them. That a named scope or direction which the class may not have by R61 is not refused with RANGE is
the model's choice (log 79). -/
def Obligations.MuteLiftLiftsClaim : Prop :=
  (∀ (n : Seat) (k : Link),
    (Claimant.far k).rank < (Claimant.chair n).rank ∧ (Claimant.chair n).rank < Claimant.room.rank
    ∧ Claimant.room.cls.byte = 3 ∧ (Claimant.chair n).cls.byte = 4 ∧ (Claimant.far k).cls.byte = 5)
  ∧ (∀ (s : State) (tag cls identity force : Byte) (ref : ClaimRef), s.Free →
    (hostClaimant cls identity = none ∨ 1 < force.toNat ∨ (∃ b, ref = .byNumber b ∧ 48 ≤ b.toNat)
      ∨ ∃ a b c d e, ref = .byName a b c d e ∧ (claimantOf a b = none ∨ scopeOf c d = none ∨ dirOf e = none
        ∨ ∃ scope way, scopeOf c d = some scope ∧ dirOf e = some way
          ∧ ((∃ k, scope = .link k) ↔ way = .mic ∨ way = .speaker))) →
    exec (.muteLift tag cls identity force ref) s
      = .next (s.told ⟨0x29, tag, cls :: identity :: force :: refBytes ref⟩ .range []))
  ∧ ∀ (s : State) (tag cls identity force : Byte) (ref : ClaimRef) (who : Claimant) (forced : Bool)
    (found : Option Claim), s.Calm → hostClaimant cls identity = some who → boolOf force = some forced →
    (∀ b, ref = .byNumber b → b.toNat < 48
      ∧ found = s.room.mute.table.find? fun c => decide (c.number.val = b.toNat)) →
    (∀ a b c d e, ref = .byName a b c d e → ∃ owner scope way, claimantOf a b = some owner ∧ scopeOf c d = some scope
      ∧ dirOf e = some way ∧ ((∃ k, scope = .link k) ↔ way = .send ∨ way = .ret)
      ∧ found = s.room.mute.table.find? fun x => decide (x.who = owner ∧ x.scope = scope ∧ x.dir = way)) →
    let frame : Frame := ⟨0x29, tag, cls :: identity :: force :: refBytes ref⟩
    let act := exec (.muteLift tag cls identity force ref) s
    (found = none → act = .next (s.told frame .absent []))
    ∧ ∀ c, found = some c →
        ((who = c.who ∨ forced = true ∧ c.who.rank < who.rank) →
          ∃ es r, act = .next (s.replied frame ⟨.ok, [byteOf c.number.val]⟩ es r)
            ∧ r.standing = { s.room.standing with table := s.room.mute.table.filter fun x => x.number ≠ c.number }
            ∧ r.Derived ∧ MutesReachMix s.room r)
        ∧ (¬ (who = c.who ∨ forced = true ∧ c.who.rank < who.rank) →
          act = .next (s.told frame .held [c.who.cls.byte]))

/-- CLAIM_EXPIRY removes a record that has an expiry, with CLAIM_GONE, and the mutes follow, their components with them
(R68, R69, R72); that any other
number changes nothing is the model's choice (log 3). -/
def Obligations.ClaimExpiryRemovesClaim : Prop :=
  ∀ (s : State) (i : Fin 48), s.Steady →
    let found := s.room.mute.table.find? fun c => decide (c.number = i) && c.expiry.isSome
    (found = none → exec (.claimExpiry i) s = .next (s.moved [] s.room))
    ∧ ∀ c, found = some c →
        ∃ es r, exec (.claimExpiry i) s = .next (s.moved (.claimGone c .expired :: es) r)
          ∧ r.standing = { s.room.standing with table := s.room.mute.table.filter fun x => x.number ≠ i }
          ∧ r.Derived ∧ MutesReachMix s.room r

/-- The effective mute of a seat and of a link, with the seat's mic mute kind, and the cause of each, highest authority
first, NONE where nothing covers it (R55, R61, R70): a loudspeaker's is FEEDBACK, ROOM or NONE, a link direction's ROOM or
NONE. -/
def Obligations.AuthorityOrder : Prop :=
  ∀ (r : Room) (n : Seat),
    let x := r.mute.seats.get n
    let e := r.effOf n
    let held := fun (c : Cause) (d : Dir) => ∃ k ∈ r.mute.table, k.dir = d ∧ k.who.cls = c ∧
      (match k.scope with
        | .seat m => m = n
        | .group g => (r.map.groups.get g).get n = true
        | .members => (r.map.running.get n).role = .member
        | .everyone => True
        | .link _ => False)
    (e.micMuted = true ↔ x.privacy = true ∨ held .room .mic ∨ held .chair .mic ∨ held .far .mic ∨ x.self = true)
    ∧ (x.privacy = true → e.micCause = .privacy)
    ∧ (x.privacy = false → held .room .mic → e.micCause = .room)
    ∧ (x.privacy = false → ¬ held .room .mic → held .chair .mic → e.micCause = .chair)
    ∧ (x.privacy = false → ¬ held .room .mic → ¬ held .chair .mic → held .far .mic → e.micCause = .far)
    ∧ (x.privacy = false → ¬ held .room .mic → ¬ held .chair .mic → ¬ held .far .mic →
        e.micCause = if x.self = true then .self else .free)
    ∧ (x.feedback = true → e.spkMuted = true ∧ e.spkCause = .feedback)
    ∧ (x.feedback = false → held .room .speaker → e.spkMuted = true ∧ e.spkCause = .room)
    ∧ (e.spkMuted = true ↔ x.feedback = true ∨ ∃ c, held c .speaker)
    ∧ (x.feedback = false → (∀ c, ¬ held c .speaker) → e.spkCause = .free)
    ∧ e.kind = (if x.privacy = true ∨ x.self = true then .standing else if e.micMuted = true then .placed else .free)
    ∧ (∀ k : Link,
        ((r.linkEffOf k).send = true ↔ ∃ c ∈ r.mute.table, c.scope = .link k ∧ c.dir = .send)
        ∧ ((r.linkEffOf k).ret = true ↔ ∃ c ∈ r.mute.table, c.scope = .link k ∧ c.dir = .ret)
        ∧ linkCause (r.linkEffOf k).send = (if ∃ c ∈ r.mute.table, c.scope = .link k ∧ c.dir = .send then .room else .free)
        ∧ linkCause (r.linkEffOf k).ret = (if ∃ c ∈ r.mute.table, c.scope = .link k ∧ c.dir = .ret then .room else .free))

/-! ## The floor -/

/-- FLOOR_SET replaces the nine settings; a value out of range gets RANGE (R113). A change of mode or of chair-free
closes every seat with reason MODE and starts the new mode: OPEN opens every admissible seat (R93), AUTO admits the
admissible seats that speak, in ascending order (R95, R98, R100), REQUEST opens nothing (R113). A lower open limit
closes the seats beyond it, newest first, or sends them back to the head of the Request Queue (R114); last-mic hold
turned off closes a kept seat, and a new idle limit restarts the idle timers (R115); fills and auto-grant follow (R99,
R103, R114, R115). The premise on the floor is the invariant that every step keeps: a kept seat and a hold timer
belong to HOLD, and HOLD to AUTO mode (R96 to R98). -/
def Obligations.FloorSetTakesSettings : Prop :=
  (∀ (s : State) (tag mode limit last auto chair attack : Byte) (hold idle release : Pair), s.Free →
    (floorModeOf mode = none ∨ limit.toNat = 0 ∨ 6 < limit.toNat ∨ hold.toNat < 100 ∨ 5000 < hold.toNat
      ∨ hold.toNat % 50 ≠ 0 ∨ 1 < last.toNat ∨ 1 < auto.toNat ∨ 1 < chair.toNat
      ∨ (1 ≤ idle.toNat ∧ idle.toNat ≤ 9) ∨ 600 < idle.toNat ∨ attack.toNat < 5 ∨ 50 < attack.toNat
      ∨ release.toNat < 50 ∨ 1000 < release.toNat) →
    let two := fun p : Pair => [p.extractLsb' 8 8, p.extractLsb' 0 8]
    exec (.floorSet tag mode limit hold last auto chair idle attack release) s
      = .next (s.told
          ⟨0x30, tag, [mode, limit] ++ two hold ++ [last, auto, chair] ++ two idle ++ [attack] ++ two release⟩
          .range []))
  ∧ ∀ (s : State) (tag mode limit last auto chair attack : Byte) (hold idle release : Pair) (m : FloorMode)
    (last' auto' chair' : Bool), s.Calm → s.room.floor.HoldSound → floorModeOf mode = some m → boolOf last = some last' →
    boolOf auto = some auto' → boolOf chair = some chair' → 1 ≤ limit.toNat → limit.toNat ≤ 6 →
    100 ≤ hold.toNat → hold.toNat ≤ 5000 → hold.toNat % 50 = 0 →
    (idle.toNat = 0 ∨ 10 ≤ idle.toNat ∧ idle.toNat ≤ 600) → 5 ≤ attack.toNat → attack.toNat ≤ 50 →
    50 ≤ release.toNat → release.toNat ≤ 1000 →
    let two := fun p : Pair => [p.extractLsb' 8 8, p.extractLsb' 0 8]
    let f := s.room.floor
    let old := f.settings
    let seat := fun n : Seat => f.seats.get n
    let admissible := fun n : Seat => (seat n).presence = .present ∧ (seat n).muted = false ∧ f.standby = false
    let free := fun n : Seat => chair' = true ∧ (s.room.map.running.get n).role = .chair
    let asking := (List.finRange 40).filter fun n => decide (admissible n ∧ (seat n).speaking = true ∧ ¬ free n)
    let same := m = old.mode ∧ chair' = old.chairFree
    let beyond := f.openList.drop limit.toNat
    let excess := beyond.length + f.queue.length - 16
    ∃ es r,
      exec (.floorSet tag mode limit hold last auto chair idle attack release) s
        = .next (s.replied
            ⟨0x30, tag, [mode, limit] ++ two hold ++ [last, auto, chair] ++ two idle ++ [attack] ++ two release⟩
            ⟨.ok, []⟩ es r)
      ∧ r.standing = { s.room.standing with
          floor := ⟨m, limit.toNat, hold.toNat, last', auto', chair', idle.toNat, attack.toNat, release.toNat⟩ }
      ∧ (¬ same →
        (∀ n, ((seat n).gate = .waiting → .dequeuedEv n .wait .mode ∈ es)
          ∧ ((seat n).gate = .queued → .dequeuedEv n .request .mode ∈ es)
          ∧ ((seat n).gate.isOpen = true → .closedEv n (seat n).gate .mode ∈ es))
        ∧ (m = .opened → ∀ n, (r.fseat n).gate = if admissible n then .opened else .closed)
        ∧ ((∀ n, n ∈ f.openList ++ f.waitList ++ f.queue → (seat n).gate ≠ .closed) →
          (m = .request → (∀ n, (r.fseat n).gate = .closed) ∧ r.floor.openList = [] ∧ r.floor.waitList = []
            ∧ r.floor.queue = [])
          ∧ (m = .auto → r.floor.openList = asking.take limit.toNat
            ∧ r.floor.waitList = (asking.drop limit.toNat).take 8 ∧ r.floor.queue = []
            ∧ (∀ n, (r.fseat n).gate
              = if n ∈ asking.take limit.toNat ∨ admissible n ∧ (seat n).speaking = true ∧ free n then .opened
                else if n ∈ (asking.drop limit.toNat).take 8 then .waiting else .closed)
            ∧ ∀ n ∈ (asking.drop limit.toNat).drop 8, .refusedEv n .waitFull ∈ es)))
      ∧ (same → limit.toNat < old.limit → m = .auto → f.openList.Nodup →
        (∀ n ∈ f.openList, (seat n).gate = .opened ∨ (seat n).gate = .hold) →
        (beyond.reverse.map fun n => Event.closedEv n (seat n).gate .limit).Sublist es
        ∧ ∀ n ∈ beyond, (r.fseat n).gate = .closed)
      ∧ (same → limit.toNat < old.limit → m = .request → (f.openList ++ f.queue).Nodup →
        (∀ n ∈ f.openList, (seat n).gate = .granted) → beyond ≠ [] →
        r.floor.openList = f.openList.take limit.toNat ∧ r.floor.queue = beyond.drop excess ++ f.queue
        ∧ (∀ n ∈ beyond, .closedEv n .granted .limit ∈ es ∧ (r.fseat n).timer = .off)
        ∧ (∀ n ∈ beyond.take excess, (r.fseat n).gate = .closed)
        ∧ ∀ (j : Nat) (n : Seat), (beyond.drop excess)[j]? = some n →
          (r.fseat n).gate = .queued ∧ .queuedEv n .request (j + 1) ∈ es)
      ∧ (same → old.limit ≤ limit.toNat →
        (∀ n, old.lastMic = true → last' = false → (seat n).kept = true → (seat n).gate = .hold →
          (r.fseat n).gate = .closed ∧ .closedEv n .hold .ended ∈ es)
        ∧ ∀ n, n ∉ f.waitList → n ∉ f.queue → (seat n).kept = false →
          ((seat n).gate = .hold → (r.fseat n).timer = (seat n).timer)
          ∧ ((seat n).gate = .granted → (r.fseat n).timer =
            if old.idle = idle.toNat ∨ (seat n).speaking = true then (seat n).timer
            else if idle.toNat = 0 then .off else .idle (idle.toNat * 1000)))
      ∧ (f.standby = false →
        (m = .auto → r.floor.openList.length < limit.toNat → r.floor.waitList = [])
        ∧ (m = .request → auto' = true → r.floor.openList.length < limit.toNat →
          ∀ n ∈ r.floor.queue, (r.fseat n).muted = true))

/-- FLOOR_GRANT grants a seat that may be granted, bumping the oldest granted member where asked, and answers with its
place in the Open List, 0 for a chair-free seat; in the order of R104 it is refused with RANGE, STATE, HELD or FULL
(R103, R104). The gate components of the seats and the open count go with them (R87, R123, R128). -/
def Obligations.FloorGrantGrants : Prop :=
  ∀ (s : State) (tag : Byte) (n : Seat) (bump : Bool), s.Calm →
    let frame : Frame := ⟨0x31, tag, [numByte n, if bump then 1 else 0]⟩
    let act := exec (.floorGrant tag (numByte n) (if bump then 1 else 0)) s
    let f := s.room.floor
    let x := f.seats.get n
    let room := s.room.chairFree n = true ∨ f.openList.length < f.settings.limit
    let oldest := f.openList.find? fun m =>
      decide ((s.room.map.running.get m).role = .member ∧ (f.seats.get m).gate = .granted)
    (∀ seat bump' : Byte, seat.toNat = 0 ∨ 40 < seat.toNat ∨ 1 < bump'.toNat →
      exec (.floorGrant tag seat bump') s = .next (s.told ⟨0x31, tag, [seat, bump']⟩ .range []))
    ∧ ((f.settings.mode ≠ .request ∨ f.standby = true ∨ x.gate = .granted) → act = .next (s.told frame .state []))
    ∧ (f.settings.mode = .request → f.standby = false → x.gate ≠ .granted →
      (x.muted = true → act = .next (s.told frame .held []))
      ∧ (x.muted = false → ¬ room → (bump = false ∨ oldest = none) → act = .next (s.told frame .full []))
      ∧ (x.muted = false → room →
        ∃ es r place, act = .next (s.replied frame ⟨.ok, [byteOf place]⟩ es r)
          ∧ (s.room.chairFree n = false → place = (f.openList.filter (· ≠ n)).length + 1)
          ∧ (s.room.chairFree n = true → place = 0)
          ∧ (r.fseat n).gate = .granted ∧ .openedEv n .granted place ∈ es ∧ r.standing = s.room.standing
          ∧ GateReachesMix s.room r n true ∧ CountReachesMix s.room r)
      ∧ (∀ m, x.muted = false → ¬ room → bump = true → oldest = some m →
        ∃ es r place, act = .next (s.replied frame ⟨.ok, [byteOf place]⟩ es r)
          ∧ place = (f.openList.filter fun k => decide (k ≠ m ∧ k ≠ n)).length + 1
          ∧ (r.fseat n).gate = .granted ∧ (r.fseat m).gate = .closed ∧ .closedEv m .granted .bumped ∈ es
          ∧ .openedEv n .granted place ∈ es ∧ r.standing = s.room.standing
          ∧ GateReachesMix s.room r n true ∧ GateReachesMix s.room r m false ∧ CountReachesMix s.room r))

/-- FLOOR_QUEUE asks for a seat as a TALK press would (R101, R111): RANGE for a seat outside 1 to 40; STATE where it
cannot ask, FULL where the queue is full, HELD where the seat stays mic-muted; else it is granted, or queued, and the
reply and the events carry its place, 0 for a chair-free seat. Its self mute ends (R58), and the mute component follows
(R72). -/
def Obligations.FloorQueueAsks : Prop :=
  ∀ (s : State) (tag : Byte) (n : Seat), s.Calm →
    let frame : Frame := ⟨0x32, tag, [numByte n]⟩
    let act := exec (.floorQueue tag (numByte n)) s
    let f := s.room.floor
    let x := f.seats.get n
    let direct := s.room.chairFree n = true ∨ f.settings.autoGrant = true ∧ f.openList.length < f.settings.limit
      ∧ ∀ m ∈ f.queue, (f.seats.get m).muted = true
    let freed := s.room.setMuteSeat n fun y => { y with self := false }
    (∀ seat : Byte, seat.toNat = 0 ∨ 40 < seat.toNat →
      exec (.floorQueue tag seat) s = .next (s.told ⟨0x32, tag, [seat]⟩ .range []))
    ∧ ((f.settings.mode ≠ .request ∨ f.standby = true ∨ x.gate = .queued ∨ x.gate = .granted) →
      act = .next (s.told frame .state []))
    ∧ (f.settings.mode = .request → f.standby = false → x.gate ≠ .queued → x.gate ≠ .granted →
      (¬ direct → f.queue.length = 16 → act = .next (s.told frame .full []))
      ∧ ((direct ∨ f.queue.length ≠ 16) → (freed.effOf n).micMuted = true →
        ∃ es r cause, act = .next (s.replied frame ⟨.held, []⟩ es r) ∧ .heldPress n .talk cause ∈ es
          ∧ r.standing = { s.room.standing with flags := freed.standing.flags } ∧ MutesReachMix s.room r)
      ∧ (direct → (freed.effOf n).micMuted = false →
        ∃ es r place, act = .next (s.replied frame ⟨.ok, [5, byteOf place]⟩ es r) ∧ (r.fseat n).gate = .granted
          ∧ .openedEv n .granted place ∈ es
          ∧ (s.room.chairFree n = true → place = 0)
          ∧ (s.room.chairFree n = false → s.room.Derived → place = (f.openList.filter (· ≠ n)).length + 1)
          ∧ r.standing = { s.room.standing with flags := freed.standing.flags } ∧ MutesReachMix s.room r
          ∧ (r.mix.gate.get n).target = .db 0)
      ∧ (¬ direct → f.queue.length ≠ 16 → (freed.effOf n).micMuted = false →
        ∃ es r place i, act = .next (s.replied frame ⟨.ok, [4, place]⟩ es r)
          ∧ ((r.fseat n).gate = .queued ∨ (r.fseat n).gate = .granted) ∧ .queuedEv n .request i ∈ es
          ∧ (s.room.Derived → n ∉ f.queue → n ∉ f.openList →
            (f.settings.autoGrant = false ∨ f.settings.limit ≤ f.openList.length) →
            i = f.queue.length + 1 ∧ place = byteOf i)
          ∧ r.standing = { s.room.standing with flags := freed.standing.flags } ∧ MutesReachMix s.room r))

/-- FLOOR_DROP closes the seat with reason DROPPED, its timer cancelled and its kept field cleared; in OPEN mode or
for a CLOSED seat it is refused with STATE, and a seat outside 1 to 40 with RANGE (R112). FLOOR_CLEAR closes the
members of the floor with reason CLEARED: in AUTO mode every member seat, in REQUEST mode the granted members and the
whole Request Queue; in OPEN mode and in standby it changes nothing (R107). The gate component of each open seat that
they close falls over the release ramp, and the open count follows (R87, R123, R128). -/
def Obligations.FloorDropAndClearClose : Prop :=
  (∀ (s : State) (tag : Byte) (n : Seat), s.Calm →
     let frame : Frame := ⟨0x33, tag, [numByte n]⟩
     let act := exec (.floorDrop tag (numByte n)) s
     let gate := (s.room.floor.seats.get n).gate
     (∀ b : Byte, b.toNat = 0 ∨ 40 < b.toNat → exec (.floorDrop tag b) s = .next (s.told ⟨0x33, tag, [b]⟩ .range []))
     ∧ ((s.room.floor.settings.mode = .opened ∨ gate = .closed) → act = .next (s.told frame .state []))
     ∧ (s.room.floor.settings.mode ≠ .opened → gate ≠ .closed →
       ∃ es r, act = .next (s.replied frame ⟨.ok, []⟩ es r) ∧ (r.fseat n).gate = .closed
         ∧ (r.fseat n).timer = .off ∧ (r.fseat n).kept = false
         ∧ (r.fseat n).speaking = (s.room.floor.seats.get n).speaking
         ∧ (gate = .waiting → .dequeuedEv n .wait .dropped ∈ es)
         ∧ (gate = .queued → .dequeuedEv n .request .dropped ∈ es)
         ∧ (gate.isOpen = true → .closedEv n gate .dropped ∈ es ∧ GateReachesMix s.room r n false)
         ∧ CountReachesMix s.room r ∧ r.standing = s.room.standing))
  ∧ (∀ (s : State) (tag : Byte), s.Calm →
      let frame : Frame := ⟨0x34, tag, []⟩
      let act := exec (.floorClear tag) s
      let f := s.room.floor
      let member := fun n : Seat => (s.room.map.running.get n).role = .member
      ((f.standby = true ∨ f.settings.mode = .opened) → act = .next (s.replied frame ⟨.ok, []⟩ [] s.room))
      ∧ (f.standby = false → f.settings.mode = .auto → (∀ n ∈ f.waitList, (f.seats.get n).gate = .waiting) →
        ∃ es r, act = .next (s.replied frame ⟨.ok, []⟩ es r) ∧ (∀ n, member n → (r.fseat n).gate = .closed)
          ∧ (∀ n, member n → (f.seats.get n).gate.isOpen = true →
            .closedEv n (f.seats.get n).gate .cleared ∈ es ∧ GateReachesMix s.room r n false)
          ∧ (∀ n, member n → (f.seats.get n).gate = .waiting → .dequeuedEv n .wait .cleared ∈ es)
          ∧ CountReachesMix s.room r
          ∧ r.standing = s.room.standing)
      ∧ (f.standby = false → f.settings.mode = .request → (∀ n ∈ f.queue, (f.seats.get n).gate = .queued) →
        ∃ es r, act = .next (s.replied frame ⟨.ok, []⟩ es r) ∧ (∀ n, member n → (r.fseat n).gate ≠ .granted)
          ∧ r.floor.queue = [] ∧ (∀ n ∈ f.queue, .dequeuedEv n .request .cleared ∈ es)
          ∧ (∀ n, member n → (f.seats.get n).gate = .granted →
            .closedEv n .granted .cleared ∈ es ∧ GateReachesMix s.room r n false)
          ∧ CountReachesMix s.room r
          ∧ r.standing = s.room.standing))

/-- HOLD_TIMER_EXPIRY closes the seat with reason ENDED, or keeps the last microphone open; in AUTO mode the oldest
WAITING seat is then admitted where there is room (R97, R98, R99). IDLE_TIMER_EXPIRY closes a granted seat with reason
IDLE (R105). That they change nothing where no such timer runs is the model's choice (log 3). RISE_BLANK_EXPIRY with
an onset due, at the floor: in AUTO mode an admissible CLOSED seat is opened, taking over a kept seat or, where there
is no room, a seat in HOLD, or else waits, or else is refused; a seat in HOLD is open again; in REQUEST mode a GRANTED
seat's idle timer stops (R89, R95, R96, R98, R105). An end, reported as DETECT_SET shortens the end time of a FALLING
detector (R52), at the floor: in AUTO mode an OPEN seat goes to HOLD with its hold timer and a WAITING seat to CLOSED;
in REQUEST mode a GRANTED seat's idle timer starts; in OPEN mode it is floor activity (R93, R96, R98, R105, R153; log
21). The gate component of a seat that is opened or closed goes with it, over the attack or the release ramp, and the open
count follows (R87, R123, R128). -/
def Obligations.FloorTimersExpire : Prop :=
  (∀ (s : State) (tag onset echo time : Byte) (endTime rise fall : Pair) (n : Seat), s.Calm →
    3 ≤ onset.toNat → onset.toNat ≤ 30 → echo.toNat ≤ 30 → 10 ≤ time.toNat → time.toNat ≤ 200 →
    100 ≤ endTime.toNat → endTime.toNat ≤ 1000 → rise.toNat ≤ 500 → fall.toNat ≤ rise.toNat →
    let f := s.room.floor
    let x := f.seats.get n
    let d := s.room.det.get n
    let two := fun p : Pair => [p.extractLsb' 8 8, p.extractLsb' 0 8]
    d.held = false → d.dstate = .falling → endTime.toNat ≤ d.endTimer →
    x.presence = .present → x.muted = false → f.standby = false →
    ∃ es r, exec (.detectSet tag (numByte n) onset echo time endTime rise fall) s
        = .next (s.replied ⟨0x20, tag, [numByte n, onset, echo, time] ++ two endTime ++ two rise ++ two fall⟩
            ⟨.ok, []⟩ es r)
      ∧ (r.fseat n).speaking = false
      ∧ (f.settings.mode = .auto →
        (x.gate = .opened → n ∉ f.waitList →
          (r.fseat n).gate = .hold ∧ (r.fseat n).timer = .hold f.settings.hold ∧ (r.fseat n).kept = x.kept)
        ∧ (x.gate = .waiting →
          (r.fseat n).gate = .closed ∧ n ∉ r.floor.waitList ∧ .dequeuedEv n .wait .ended ∈ es)
        ∧ (x.gate = .closed → n ∉ f.waitList → (r.fseat n).gate = .closed))
      ∧ (f.settings.mode = .request → x.gate = .granted →
        (r.fseat n).gate = .granted
        ∧ (r.fseat n).timer = if f.settings.idle = 0 then .off else .idle (f.settings.idle * 1000))
      ∧ (f.settings.mode = .opened → (r.fseat n).gate = x.gate
        ∧ (s.room.link.call = .idle →
          r.link.timer = if s.room.link.delay = 0 then none else some (s.room.link.delay * 60000)))) ∧
  (∀ (s : State) (n : Seat), s.Steady →
    let f := s.room.floor
    let x := f.seats.get n
    let last := f.settings.lastMic = true ∧ f.openList = [n] ∧ f.waitList = []
    ((∀ left, x.timer ≠ .hold left) → exec (.holdTimerExpiry n) s = .next (s.moved [] s.room))
    ∧ ((∀ left, x.timer ≠ .idle left) → exec (.idleTimerExpiry n) s = .next (s.moved [] s.room))
    ∧ (∀ left, x.timer = .hold left → x.gate = .hold →
      (last → f.settings.mode = .auto → ∃ es r, exec (.holdTimerExpiry n) s = .next (s.moved es r) ∧ (r.fseat n).gate = .hold
        ∧ (r.fseat n).kept = true ∧ (r.fseat n).timer = .off ∧ r.standing = s.room.standing)
      ∧ (¬ last → ∃ es r, exec (.holdTimerExpiry n) s = .next (s.moved es r) ∧ (r.fseat n).gate = .closed
        ∧ .closedEv n .hold .ended ∈ es ∧ r.standing = s.room.standing
        ∧ GateReachesMix s.room r n false ∧ CountReachesMix s.room r
        ∧ ∀ m rest, f.settings.mode = .auto → f.standby = false → f.waitList = m :: rest → m ≠ n →
          (f.openList.filter (· ≠ n)).length < f.settings.limit →
          (r.fseat m).gate = .opened ∧ ((f.seats.get m).gate = .waiting → .dequeuedEv m .wait .admitted ∈ es)
          ∧ (s.room.chairFree m = false →
            .openedEv m .opened ((f.openList.filter fun k => decide (k ≠ n ∧ k ≠ m)).length + 1) ∈ es)))
    ∧ (∀ left, x.timer = .idle left → x.gate = .granted →
      ∃ es r, exec (.idleTimerExpiry n) s = .next (s.moved es r) ∧ (r.fseat n).gate = .closed
        ∧ .closedEv n .granted .idle ∈ es ∧ r.standing = s.room.standing
        ∧ GateReachesMix s.room r n false ∧ CountReachesMix s.room r))
  ∧ ∀ (s : State) (n : Seat) (left : Nat), s.Steady →
    let f := s.room.floor
    let x := f.seats.get n
    let d := s.room.det.get n
    let kept := f.openList.find? fun m => (f.seats.get m).kept
    let holding := f.openList.find? fun m => decide ((f.seats.get m).gate = .hold)
    let free := s.room.chairFree n
    d.rise = some left → d.dstate = .rising → d.due = true →
    x.presence = .present → x.muted = false → f.standby = false →
    ∃ es r, exec (.riseBlankExpiry n) s = .next (s.moved es r) ∧ r.standing = s.room.standing
      ∧ (f.settings.mode = .request → x.gate = .granted → (r.fseat n).gate = .granted ∧ (r.fseat n).timer = .off)
      ∧ (f.settings.mode = .auto →
        let enters := fun taken : Option Seat =>
          (r.fseat n).gate = .opened
          ∧ .openedEv n .opened ((f.openList.filter fun k => decide (some k ≠ taken)).length + 1) ∈ es
          ∧ GateReachesMix s.room r n true ∧ CountReachesMix s.room r
          ∧ ∀ m, taken = some m → (r.fseat m).gate = .closed ∧ .closedEv m (f.seats.get m).gate .takenOver ∈ es
            ∧ GateReachesMix s.room r m false
        (x.gate = .hold →
          (r.fseat n).gate = .opened ∧ (r.fseat n).kept = false ∧ (r.fseat n).timer = .off)
        ∧ (x.gate = .closed → free = true →
          (r.fseat n).gate = .opened ∧ .openedEv n .opened 0 ∈ es ∧ GateReachesMix s.room r n true)
        ∧ (x.gate = .closed → free = false → n ∉ f.openList → n ∉ f.waitList →
          (∀ k ∈ f.openList, (f.seats.get k).gate.isOpen = true) →
          (∀ m, kept = some m → enters (some m))
          ∧ (kept = none →
            (f.openList.length < f.settings.limit → enters none)
            ∧ (f.settings.limit ≤ f.openList.length →
              (∀ m, holding = some m → enters (some m))
              ∧ (holding = none → f.waitList.length < 8 →
                (r.fseat n).gate = .waiting ∧ .queuedEv n .wait (f.waitList.length + 1) ∈ es)
              ∧ (holding = none → 8 ≤ f.waitList.length →
                (r.fseat n).gate = .closed ∧ .refusedEv n .waitFull ∈ es)))))


/-! ## The mix -/

/-- MIX_SET changes one setting, and each component it sets takes its new target by a ramp over the time given; a
value equal to the setting in force changes nothing; an item, an index, a value or a ramp time out of range gets RANGE
(R130, R131, R136, R137, R138). A component that a notice moves: its ramp begins, and detector n gets a rise or a fall
notice for each whole-bus component and each term of Ln that moves by 6 dB or more, or from or to off, judged on
current and target gains (R47 to R49, R132; that the notices go out with each notice taken is log 6), but for the rise
notice of the gate of a seat that opens where the speaker mute component of Ln stands at off (R132; log 66). The notices of the other
blocks and the targets and ramp times they bring: the gate over the attack or the release ramp, the mic, speaker and
link mutes over the mute ramp, a speaker mute for feedback over 10 ms, a feedback offset and the open count over 50 ms
(R123 to R126, R128). That the open-count target is the formula of R128 to the nearest 0.001 dB is the model's resolution
(log 30, 45). The terms of Ln are those of R119, as O32 lists them, and the components of a term those of R122. -/
def Obligations.MixSetChangesSetting : Prop :=
  (∀ (s : State) (tag item index value : Byte) (ramp : Pair), s.Free →
    ¬ ((item.toNat ≤ 1 ∧ 1 ≤ index.toNat ∧ index.toNat ≤ 46 ∧ -60 ≤ value.toInt ∧ value.toInt ≤ 24
        ∨ index.toNat = 0 ∧
          (2 ≤ item.toNat ∧ item.toNat ≤ 4 ∧ (value.toInt = -128 ∨ -80 ≤ value.toInt ∧ value.toInt ≤ 0)
            ∨ item.toNat = 5 ∧ value.toNat ≤ 3 ∨ item.toNat = 6 ∧ value.toNat ≤ 1
            ∨ item.toNat = 7 ∧ 5 ≤ value.toNat ∧ value.toNat ≤ 200))
      ∧ ramp.toNat ≤ 2000) →
    exec (.mixSet tag item index value ramp) s
      = .next (s.told ⟨0x38, tag, [item, index, value, ramp.extractLsb' 8 8, ramp.extractLsb' 0 8]⟩ .range []))
  ∧ (∀ (m : Mix) (b : Bus) (t : Source), (termComps b t).map m.comp = m.termParts b t)
  ∧ (∀ (r : Room) (id : CompId) (g : Gain) (ms : Nat), r.begun = [] →
    let c := r.mix.comp id
    let r' := r.ramp id g ms
    let sum := fun (gain : Comp → Gain) (ids : List CompId) => sumGains (ids.map fun i => gain (r.mix.comp i))
    let rises := fun (old new : Gain) => match old, new with
      | .off, .db _ => True
      | .db a, .db b => 6000 ≤ b - a
      | _, .off => False
    let falls := fun (old new : Gain) => match old, new with
      | .db _, .off => True
      | .db a, .db b => 6000 ≤ a - b
      | .off, _ => False
    let steps := fun (test : Gain → Gain → Prop) (n : Seat) =>
      ((id = .speakerMute n ∨ id = .feedbackOffset n ∨ id = .busTrim ⟨n.val, by omega⟩) ∧ test c.current g)
      ∨ ∃ t ∈ (Bus.loud n).terms, id ∈ termComps (.loud n) t
        ∧ test (sum Comp.current (termComps (.loud n) t)) (sumGains ((termComps (.loud n) t).map fun i => (r'.mix.comp i).target))
    let muted := fun n : Seat => ∃ m, id = .gate m ∧ g ≠ .off ∧ (r.mix.speakerMute.get n).current = .off
    (c.target = g → r' = r)
    ∧ (c.target ≠ g →
      r'.mix = r.mix.setComp id ⟨g, some ⟨(match c.current with
        | .off => -80000
        | .db v => v), c.isOff, max 1 ms, 0⟩⟩
      ∧ r' = { r with mix := r'.mix, det := r'.det }
      ∧ (∀ n, let d := r.det.get n
        let heard := d.held = false
        let risen := steps rises n ∧ ¬ muted n ∧ heard ∧ d.settings.riseBlank ≠ 0
        (risen → (r'.det.get n).rise = some d.settings.riseBlank)
        ∧ (¬ risen → (r'.det.get n).rise = d.rise)
        ∧ ((steps falls n ∧ heard ∧ d.settings.fallGuard ≠ 0) → (r'.det.get n).fall = some d.settings.fallGuard)
        ∧ (¬ (steps falls n ∧ heard ∧ d.settings.fallGuard ≠ 0) → (r'.det.get n).fall = d.fall)
        ∧ r'.det.get n = { d with rise := (r'.det.get n).rise, fall := (r'.det.get n).fall })))
  ∧ (∀ (r : Room) (n : Seat) (k : Link) (on : Bool) (cause : Cause) (offset : Int) (count : Nat), r.begun = [] →
    let toward := fun up : Bool => if up = true then Gain.db 0 else .off
    let ms := r.mix.settings.muteRamp
    r.mixGate n on
        = r.ramp (.gate n) (toward on) (if on = true then r.floor.settings.attack else r.floor.settings.release)
    ∧ r.mixMic n on = r.ramp (.micMute n) (toward !on) ms
    ∧ r.mixLink k .send on = r.ramp (.sendMute k) (toward !on) ms
    ∧ r.mixLink k .ret on = r.ramp (.returnMute k) (toward !on) ms
    ∧ (let y := r.ramp (.speakerMute n) (toward !on) (if on = true ∧ cause = .feedback then 10 else ms)
      (r.mixSpeaker n on cause).mix = y.mix ∧ (r.mixSpeaker n on cause).det = y.det
      ∧ ((r.mixSpeaker n on cause).fbSeat n).live
        = ((r.fbSeat n).live || (!on && (r.mix.speakerMute.get n).isOff)))
    ∧ r.mixOffset n offset = r.ramp (.feedbackOffset n) (.db (offset * 500)) 50
    ∧ (count ≤ 40 → ∃ v : Nat,
        r.mixCount count = { r with mix := { r.mix with countIn := count } }.ramp .openCount (.db (-v)) 50
        ∧ 10 ^ (2 * v - 1) ≤ (max 1 count) ^ 20000 ∧ (max 1 count) ^ 20000 ≤ 10 ^ (2 * v + 1)))
  ∧ ∀ (s : State) (tag item index value : Byte) (ramp : Pair) (new : MixSettings), s.Free → ramp.toNat ≤ 2000 →
    let old := s.room.mix.settings
    (item.toNat = 0 ∧ (∃ i : Fin 46, index.toNat = i.val + 1 ∧ -60 ≤ value.toInt ∧ value.toInt ≤ 24
        ∧ new = { old with srcTrim := old.srcTrim.set i value.toInt })
      ∨ item.toNat = 1 ∧ (∃ i : Fin 46, index.toNat = i.val + 1 ∧ -60 ≤ value.toInt ∧ value.toInt ≤ 24
        ∧ new = { old with busTrim := old.busTrim.set i value.toInt })
      ∨ index.toNat = 0 ∧
        (item.toNat = 2 ∧ offLevelOf (-80) 0 value = some new.reinforcement
            ∧ new = { old with reinforcement := new.reinforcement }
          ∨ item.toNat = 3 ∧ offLevelOf (-80) 0 value = some new.program ∧ new = { old with program := new.program }
          ∨ item.toNat = 4 ∧ offLevelOf (-80) 0 value = some new.assist ∧ new = { old with assist := new.assist }
          ∨ item.toNat = 5 ∧ value.toNat ≤ 3 ∧ new = { old with near := value.toNat }
          ∨ item.toNat = 6 ∧ value.toNat ≤ 1 ∧ new = { old with bridging := decide (value.toNat = 1) }
          ∨ item.toNat = 7 ∧ 5 ≤ value.toNat ∧ value.toNat ≤ 200 ∧ new = { old with muteRamp := value.toNat })) →
    let aimed := fun (c : Comp) (g : Gain) => if c.target = g then c else c.moved g ramp.toNat
    ∃ r, exec (.mixSet tag item index value ramp) s
        = .next (s.replied ⟨0x38, tag, [item, index, value, ramp.extractLsb' 8 8, ramp.extractLsb' 0 8]⟩
            ⟨.ok, [item, index, value]⟩ [] r)
      ∧ r.standing = { s.room.standing with mix := new }
      ∧ (new = old → r = s.room)
      ∧ (new ≠ old →
        (∀ i, r.mix.srcTrim.get i = aimed (s.room.mix.srcTrim.get i) (halfDb (new.srcTrim.get i)))
        ∧ (∀ i, r.mix.busTrim.get i = aimed (s.room.mix.busTrim.get i) (halfDb (new.busTrim.get i)))
        ∧ (∀ n m, n ≠ m → (r.mix.classMic.get n).get m
            = aimed ((s.room.mix.classMic.get n).get m)
                (if nearIn s.room.map.running new.near m n then .off else levelGain new.reinforcement))
        ∧ r.mix.classProgram = aimed s.room.mix.classProgram (levelGain new.program)
        ∧ r.mix.classAssist = aimed s.room.mix.classAssist (levelGain new.assist)
        ∧ r.mix.classBridge = aimed s.room.mix.classBridge (if new.bridging then .db 0 else .off)
        ∧ r.mix.gate = s.room.mix.gate ∧ r.mix.micMute = s.room.mix.micMute
        ∧ r.mix.speakerMute = s.room.mix.speakerMute ∧ r.mix.linkState = s.room.mix.linkState)

/-- A tone request at a seat's player (R133): discarded where tones are off, the room is in standby or the seat's
loudspeaker is speaker-muted, and the player then stands as it was; else the tone starts, or replaces the one that
plays, from its start, and the envelope takes 0 dB over 5 ms from where it stands, unless that is its target already.
A tone that has played for its length less 5 ms falls due once, and the standby entry notice ends every one that plays
(R129, R133, R134). TONE_SET takes the two tone settings: every tone term takes the level, and tones turned off end every playing
tone; a value out of range gets RANGE (R134, R135). TONE_FADE: the envelope of a playing tone takes the target off
over 5 ms (R133); that it changes nothing at an idle player is the model's choice (log 38). -/
def Obligations.ToneSetAndFade : Prop :=
  (∀ (r : Room) (n : Seat) (t : Tone),
    let m := r.mix
    let e := m.envelope.get n
    let discarded := m.settings.tonesOn = false ∨ m.standby = true ∨ (m.speakerMute.get n).target = .off
    let started := { m with players := m.players.set n (some ⟨t, 0⟩) }
    let length := match t with
      | .muted => 250
      | .live => 250
      | .held => 150
      | .granted => 150
    (discarded → r.tone n t = r)
    ∧ (¬ discarded → r.tone n t = { r with mix := started }.ramp (.envelope n) (.db 0) 5
      ∧ (r.tone n t).mix
        = { started with envelope := if e.target = .db 0 then m.envelope else m.envelope.set n (e.moved (.db 0) 5) })
    ∧ (m.players.get n = none → .toneFade n ∉ r.dueLists.flatten)
    ∧ (∀ elapsed, m.players.get n = some ⟨t, elapsed⟩ →
      (.toneFade n ∈ r.dueLists.flatten ↔ length - 5 ≤ elapsed ∧ e.target ≠ .off))
    ∧ r.mixRest.mix.players = m.players
    ∧ r.mixRest.mix.envelope.get n
      = if (m.players.get n).isSome = true ∧ e.target ≠ .off then e.moved .off 5 else e) ∧
  (∀ (s : State) (tag on level : Byte), s.Free → 1 < on.toNat ∨ level.toInt < -60 ∨ 0 < level.toInt →
     exec (.toneSet tag on level) s = .next (s.told ⟨0x39, tag, [on, level]⟩ .range []))
  ∧ (∀ (s : State) (tag on level : Byte), s.Free → on.toNat ≤ 1 → -60 ≤ level.toInt → level.toInt ≤ 0 →
     ∃ r, exec (.toneSet tag on level) s = .next (s.replied ⟨0x39, tag, [on, level]⟩ ⟨.ok, []⟩ [] r)
       ∧ r.standing = { s.room.standing with
           mix := { s.room.mix.settings with tonesOn := decide (on.toNat = 1), toneLevel := level.toInt } }
       ∧ (∀ n, (r.mix.toneLevel.get n).target = halfDb level.toInt)
       ∧ (s.room.mix.settings.tonesOn = true → on.toNat = 0 →
           ∀ n, (s.room.mix.players.get n).isSome = true → (r.mix.envelope.get n).target = .off)
       ∧ r.mix.players = s.room.mix.players)
  ∧ (∀ (s : State) (n : Seat), s.Awake →
      (s.room.mix.players.get n = none → exec (.toneFade n) s = .next (s.moved [] s.room))
      ∧ ((s.room.mix.players.get n).isSome = true →
        ∃ r, exec (.toneFade n) s = .next (s.moved [] r)
          ∧ r.mix.envelope.get n
            = (if (s.room.mix.envelope.get n).target = .off then s.room.mix.envelope.get n
               else (s.room.mix.envelope.get n).moved .off 5)
          ∧ r.mix.players = s.room.mix.players ∧ r.mix.gate = s.room.mix.gate ∧ r.standing = s.room.standing))

/-- RAMP_COMPLETE: the component holds its target; a speaker mute component at off clears the speaker mark, an
envelope at off ends its tone (R130, R133, R160); that a component with no ramp in flight changes nothing is the
model's choice (log 38). -/
def Obligations.RampCompleteHoldsTarget : Prop :=
  ∀ (s : State) (id : CompId), s.Awake →
    let c := s.room.mix.comp id
    let done : Room := { s.room with mix := s.room.mix.setComp id ⟨c.target, none⟩ }
    (c.ramp = none → exec (.rampComplete id) s = .next (s.moved [] s.room))
    ∧ (c.ramp.isSome = true → (∀ k, id ≠ .linkState k) →
        (∀ n, id = .speakerMute n → c.target ≠ .off) → (∀ n, id = .envelope n → c.target ≠ .off) →
        exec (.rampComplete id) s = .next (s.moved [] done))
    ∧ (∀ n, c.ramp.isSome = true → id = .envelope n → c.target = .off →
        exec (.rampComplete id) s = .next (s.moved []
          { done with mix := { done.mix with players := done.mix.players.set n none } }))
    ∧ (∀ n, c.ramp.isSome = true → id = .speakerMute n → c.target = .off →
        exec (.rampComplete id) s = .next (s.moved []
          { done with fb := { done.fb with seats := (done.fb.seats.set n
            { done.fb.seats.get n with live := false, window := none, consecutive := 0 }) } }))

/-! ## Links and the call -/

/-- LINK_JOIN of an IDLE link: JOINING, in RAMP at once where its port is LOCKED, with the link-state component sent
to 0 dB over 100 ms (R145), else in WAIT with the join timer at 2000 ms; a room in standby wakes first, with CALL_STATE,
its standby timer started (R153) and its standby component sent up (R129), and in any other the timer goes on; LEAVING
refuses it with BUSY and any other state with STATE, and a link outside 1 to 4 gets RANGE (R144, R155). -/
def Obligations.LinkJoinJoins : Prop :=
  ∀ (s : State) (tag : Byte) (k : Link), s.Calm →
    let frame : Frame := ⟨0x40, tag, [numByte k]⟩
    let act := exec (.linkJoin tag (numByte k)) s
    let x := s.room.linkRec k
    let woken := decide (s.room.link.call = .standby)
    (∀ b : Byte, b.toNat = 0 ∨ 4 < b.toNat → exec (.linkJoin tag b) s = .next (s.told ⟨0x40, tag, [b]⟩ .range []))
    ∧ (x.st = .leaving → act = .next (s.told frame .busy []))
    ∧ ((x.st = .joining ∨ x.st = .joined ∨ x.st = .held ∨ x.st = .fault) → act = .next (s.told frame .state []))
    ∧ (x.st = .idle →
      ∃ es r, act = .next (s.replied frame ⟨.ok, []⟩ es r) ∧ .linkStateEv k .joining .idle .request ∈ es
        ∧ (woken = true → .callStateEv (k.val + 1) .idle .standby .join ∈ es ∧ StandbyReachesMix s.room r true)
        ∧ r.link.timer = (if woken = true then
            (if s.room.link.delay = 0 then none else some (s.room.link.delay * 60000)) else s.room.link.timer)
        ∧ (let c := s.room.mix.linkState.get k
          r.mix.linkState.get k
            = if x.locked = true ∧ x.up = false ∧ c.target ≠ .db 0 then c.moved (.db 0) 100 else c)
        ∧ r.standing = { s.room.standing with
            linkIdle := s.room.mute.linkIdle.set k false
            links := s.room.link.links.set k
              (if x.locked = true then
                { x with st := .joining, phase := some .ramp, joinTimer := none, up := true
                         outstanding := x.outstanding || !x.up }
               else { x with st := .joining, phase := some .wait, joinTimer := some 2000 })
            call := if woken then .idle else s.room.link.call
            floorStandby := s.room.floor.standby && !woken
            mixStandby := s.room.mix.standby && !woken
            dark := if woken then Tab.fill 2 false else s.room.lines.map Line.dark })

/-- LINK_HOLD of a JOINED link and LINK_RESUME of a HELD one, with the link-state component sent to off or to 0 dB
over 50 ms from where it stands; any other state refuses them with STATE, and a link outside 1 to 4 gets RANGE (R143,
R146, R147, R150). The ramp reaches the detectors: each Ln that Fk enters, rises or leaves on gives detector n its
rise or fall notice (R47 to R49, R132). -/
def Obligations.LinkHoldAndResume : Prop :=
  ∀ (s : State) (tag : Byte) (k : Link), s.Free →
    let x := s.room.linkRec k
    let ramped := fun g : Gain =>
      let c := s.room.mix.linkState.get k
      if c.target = g then c else c.moved g 50
    let sum := fun (gain : Comp → Gain) (own : Gain) => sumGains
      [gain (s.room.mix.returnMute.get k), own, gain (s.room.mix.srcTrim.get ⟨40 + k.val, by omega⟩),
        gain s.room.mix.classFar, gain s.room.mix.standbyComp]
    let rises : Gain → Gain → Bool := fun low high => match low, high with
      | .off, .db _ => true
      | .db a, .db b => decide (6000 ≤ b - a)
      | _, .off => false
    (∀ b : Byte, b.toNat = 0 ∨ 4 < b.toNat →
      exec (.linkHold tag b) s = .next (s.told ⟨0x42, tag, [b]⟩ .range [])
      ∧ exec (.linkResume tag b) s = .next (s.told ⟨0x43, tag, [b]⟩ .range []))
    ∧ (x.st ≠ .joined → exec (.linkHold tag (numByte k)) s = .next (s.told ⟨0x42, tag, [numByte k]⟩ .state []))
    ∧ (x.st ≠ .held → exec (.linkResume tag (numByte k)) s = .next (s.told ⟨0x43, tag, [numByte k]⟩ .state []))
    ∧ (x.st = .joined →
      ∃ r, exec (.linkHold tag (numByte k)) s
          = .next (s.replied ⟨0x42, tag, [numByte k]⟩ ⟨.ok, []⟩ [.linkStateEv k .held .joined .request] r)
        ∧ r.standing = { s.room.standing with links := (s.room.link.links.set k
            { x with st := .held, phase := none, joinTimer := none, up := false
                     outstanding := x.outstanding || x.up }) }
        ∧ (x.up = true → r.mix.linkState.get k = ramped .off)
        ∧ (∀ n, let d := s.room.det.get n
          r.det.get n = if x.up = true ∧ (s.room.mix.linkState.get k).target ≠ .off
              ∧ sum Comp.current (s.room.mix.linkState.get k).current ≠ .off ∧ d.held = false ∧ d.settings.fallGuard ≠ 0 then
            { d with fall := some d.settings.fallGuard } else d))
    ∧ (x.st = .held →
      ∃ r, exec (.linkResume tag (numByte k)) s
          = .next (s.replied ⟨0x43, tag, [numByte k]⟩ ⟨.ok, []⟩ [.linkStateEv k .joined .held .request] r)
        ∧ r.standing = { s.room.standing with links := (s.room.link.links.set k
            { x with st := .joined, phase := none, joinTimer := none, up := true
                     outstanding := x.outstanding || !x.up }) }
        ∧ (x.up = false → r.mix.linkState.get k = ramped (.db 0))
        ∧ (∀ n, let d := s.room.det.get n
          let moves := x.up = false ∧ (s.room.mix.linkState.get k).target ≠ .db 0
          let old := sum Comp.current (s.room.mix.linkState.get k).current
          let new := sum Comp.target (.db 0)
          let d' := if moves ∧ rises old new = true ∧ d.held = false ∧ d.settings.riseBlank ≠ 0 then
              { d with rise := some d.settings.riseBlank } else d
          r.det.get n = if moves ∧ rises new old = true ∧ d.held = false ∧ d.settings.fallGuard ≠ 0 then
              { d' with fall := some d.settings.fallGuard } else d'))

/-- LINK_LEAVE: LEAVING while the component has still to fall, a target of 0 dB sent to off over 100 ms, else IDLE at
once, where the link's FAR claims are removed (R63) and the mutes follow, their components with them (R72); a LIVE call
that no link holds any more goes to IDLE with CALL_STATE, and the standby timer starts (R152, R153); in any other case no
CALL_STATE comes and the timer goes on, or starts afresh where the claims' going is floor activity in an IDLE call; a link
outside 1 to 4 gets RANGE (R148). -/
def Obligations.LinkLeaveLeaves : Prop :=
  ∀ (s : State) (tag : Byte) (k : Link), s.Calm → s.room.mute.TableSound →
    let frame : Frame := ⟨0x41, tag, [numByte k]⟩
    let act := exec (.linkLeave tag (numByte k)) s
    let x := s.room.linkRec k
    let others := ∃ j, j ≠ k ∧ ((s.room.linkRec j).st = .joined ∨ (s.room.linkRec j).st = .held)
    let falls := x.outstanding || x.up
    let delayed := if s.room.link.delay = 0 then none else some (s.room.link.delay * 60000)
    (∀ b : Byte, b.toNat = 0 ∨ 4 < b.toNat → exec (.linkLeave tag b) s = .next (s.told ⟨0x41, tag, [b]⟩ .range []))
    ∧ (x.st = .leaving → act = .next (s.told frame .busy []))
    ∧ (x.st = .idle → act = .next (s.told frame .state []))
    ∧ (x.st ≠ .leaving → x.st ≠ .idle → (s.room.link.call = .live ∨ ¬ others) →
      ∃ es r call, act = .next (s.replied frame ⟨.ok, []⟩ es r)
        ∧ (let c := s.room.mix.linkState.get k
          r.mix.linkState.get k = if x.up = true ∧ c.target ≠ .off then c.moved .off 100 else c)
        ∧ (s.room.link.call = .live → ¬ others → call = .idle ∧ .callStateEv (k.val + 1) .idle .live .link ∈ es
          ∧ r.link.timer = delayed)
        ∧ (s.room.link.call ≠ .live ∨ others → call = s.room.link.call
          ∧ (∀ subject new old cause, .callStateEv subject new old cause ∉ es)
          ∧ (r.link.timer = s.room.link.timer
            ∨ s.room.link.call = .idle ∧ falls = false ∧ r.link.timer = delayed))
        ∧ (falls = true → .linkStateEv k .leaving x.st .request ∈ es
          ∧ r.standing = { s.room.standing with
              call := call
              links := (s.room.link.links.set k
                { x with st := .leaving, phase := none, joinTimer := none, up := false, outstanding := true }) })
        ∧ (falls = false → .linkStateEv k .idle x.st .request ∈ es ∧ r.Derived ∧ MutesReachMix s.room r
          ∧ r.standing = { s.room.standing with
              call := call
              table := s.room.mute.table.filter fun c => c.who ≠ .far k
              linkIdle := s.room.mute.linkIdle.set k true
              links := s.room.link.links.set k { x with st := .idle, phase := none, joinTimer := none } }))

/-- RAMP_COMPLETE of a link-state component: a JOINING link in RAMP is JOINED and the call LIVE; a LEAVING link is IDLE
and its FAR claims are removed, the mutes and their components following (R72); any other link only has no ramp
outstanding (R63, R127, R145, R148, R152). A call that becomes LIVE gives CALL_STATE and stops the standby timer, and a
room in standby wakes (R152, R153, R155); as a link goes to IDLE the timer goes on, or starts afresh where the claims'
going is floor activity in an IDLE call. -/
def Obligations.LinkRampCompletes : Prop :=
  ∀ (s : State) (k : Link), s.Steady → s.room.mute.TableSound → (s.room.mix.linkState.get k).ramp.isSome = true →
    let x := s.room.linkRec k
    let act := exec (.rampComplete (.linkState k)) s
    (x.st = .joining → x.phase = some .ramp →
      ∃ es r, act = .next (s.moved (.linkStateEv k .joined .joining .rampDone :: es) r)
        ∧ (s.room.link.call ≠ .live → .callStateEv (k.val + 1) .live s.room.link.call .link ∈ es
          ∧ r.link.timer = none)
        ∧ (s.room.link.call = .live → es = [] ∧ r.link.timer = s.room.link.timer)
        ∧ (s.room.link.call = .standby → StandbyReachesMix s.room r true)
        ∧ r.standing = { s.room.standing with
            call := .live
            floorStandby := s.room.floor.standby && decide (s.room.link.call ≠ .standby)
            mixStandby := s.room.mix.standby && decide (s.room.link.call ≠ .standby)
            dark := if s.room.link.call = .standby then Tab.fill 2 false else s.room.lines.map Line.dark
            links := (s.room.link.links.set k
              { x with st := .joined, phase := none, joinTimer := none, outstanding := false }) })
    ∧ (x.st = .leaving →
      ∃ es r, act = .next (s.moved (.linkStateEv k .idle .leaving .rampDone :: es) r) ∧ r.Derived
        ∧ MutesReachMix s.room r ∧ (∀ subject new old cause, .callStateEv subject new old cause ∉ es)
        ∧ (r.link.timer = s.room.link.timer ∨ s.room.link.call = .idle
          ∧ r.link.timer = if s.room.link.delay = 0 then none else some (s.room.link.delay * 60000))
        ∧ r.standing = { s.room.standing with
            table := s.room.mute.table.filter fun c => c.who ≠ .far k
            linkIdle := s.room.mute.linkIdle.set k true
            links := (s.room.link.links.set k
              { x with st := .idle, phase := none, joinTimer := none, outstanding := false }) })
    ∧ (x.st ≠ .leaving → (x.st ≠ .joining ∨ x.phase ≠ some .ramp) →
      act = .next (s.moved [] { s.room with
        mix := s.room.mix.setComp (.linkState k) ⟨(s.room.mix.linkState.get k).target, none⟩
        link := { s.room.link with links := s.room.link.links.set k { x with outstanding := false } } }))

/-- CLOCK_MEASUREMENT: 50 good milliseconds in a row lock an UNLOCKED port; 2 ms without an edge, or 50 ms out of
band, unlock a LOCKED one (R142); good is within 0.5 percent of 48 kHz; the samples the reading brought are kept
(R141; that they come with the measurement is the model's choice, log 15). That the lock or loss notice comes at once
is log 33; that the counts stop at 2, 50 and 50, and that the good count stays while LOCKED, is log 51. The port's
outbound line (R141): bus Ek at the bridge's rate while the port is LOCKED and the link is not IDLE and not in FAULT,
else silence (the conversion: log 64). -/
def Obligations.ClockMeasurementCounts : Prop :=
  (∀ (r : Room) (k : Link),
    let x := r.linkRec k
    let silent := x.locked = false ∨ x.rate = none ∨ x.st = .idle ∨ x.st = .fault
    (silent → r.portOut k = List.replicate 48 0)
    ∧ ∀ rate, ¬ silent → x.rate = some rate →
      r.portOut k = if ∀ v ∈ (r.busFrame (.send k)).toList, v = 0 then (r.busFrame (.send k)).toList
        else Config.convert 48000 rate (r.busFrame (.send k)).toList)
  ∧ ∀ (s : State) (k : Link), s.Awake →
    let x := s.room.linkRec k
    let dead := { x with rate := none, inbound := [] }
    let read := fun m : PortReading => { x with rate := some m.rate, inbound := m.inbound }
    let counted := fun (m : Option PortReading) (y : LinkRec) =>
      exec (.clockMeasurement k m) s
        = .next (s.moved [] { s.room with link := { s.room.link with links := s.room.link.links.set k y } })
    let ends := fun (m : Option PortReading) (locked : Bool) (y : LinkRec) =>
      (∃ es r, exec (.clockMeasurement k m) s = .next (s.moved es r) ∧ (r.linkRec k).locked = locked
        ∧ (r.linkRec k).rate = m.map PortReading.rate)
      ∧ exec (.clockMeasurement k m) s
        = exec (if locked then .lockNotice k else .lossNotice k)
            { s with room := { s.room with link := { s.room.link with links := s.room.link.links.set k y } } }
    let good := fun m : PortReading => 47760 ≤ m.rate ∧ m.rate ≤ 48240
    (x.locked = false → counted none { dead with qual := 0, noEdge := min 2 (x.noEdge + 1), outBand := 0 })
    ∧ (∀ m, x.locked = false → ¬ good m →
        counted (some m) { read m with qual := 0, noEdge := 0, outBand := min 50 (x.outBand + 1) })
    ∧ (∀ m, x.locked = false → good m → x.qual + 1 < 50 →
        counted (some m) { read m with qual := x.qual + 1, noEdge := 0, outBand := 0 })
    ∧ (∀ m, x.locked = false → good m → 50 ≤ x.qual + 1 →
        ends (some m) true { read m with qual := 50, noEdge := 0, outBand := 0 })
    ∧ (∀ m, x.locked = true → good m → counted (some m) { read m with noEdge := 0, outBand := 0 })
    ∧ (x.locked = true → x.noEdge + 1 < 2 → counted none { dead with noEdge := x.noEdge + 1, outBand := 0 })
    ∧ (x.locked = true → 2 ≤ x.noEdge + 1 → ends none false { dead with noEdge := 2, outBand := 0 })
    ∧ (∀ m, x.locked = true → ¬ good m → x.outBand + 1 < 50 →
        counted (some m) { read m with noEdge := 0, outBand := x.outBand + 1 })
    ∧ (∀ m, x.locked = true → ¬ good m → 50 ≤ x.outBand + 1 →
        ends (some m) false { read m with noEdge := 0, outBand := 50 })

/-- LOCK_NOTICE starts the join ramp of a link in JOINING WAIT or in FAULT; LOSS_NOTICE sends a link that is JOINED,
HELD or in JOINING RAMP to FAULT, and a LIVE call that no other link holds to IDLE, with CALL_STATE and the standby timer
started (R152, R153), in any other case with neither; JOIN_TIMER_EXPIRY sends one in
JOINING WAIT to FAULT; in every other state they change the port's lock alone, or nothing (R145, R149, R152). The
link-state component is sent to 0 dB over 100 ms for a join and to off over 5 ms for a fault. That LOCK_NOTICE and
LOSS_NOTICE set the port's lock themselves is log 33; that JOIN_TIMER_EXPIRY acts whatever is left, and changes
nothing where no timer runs, is log 3. -/
def Obligations.LinkClockNotices : Prop :=
  ∀ (s : State) (k : Link), s.Steady →
    let x := s.room.linkRec k
    let ramping := { x with
      locked := true, noEdge := 0, outBand := 0, st := .joining, phase := some .ramp, joinTimer := none, up := true
      outstanding := x.outstanding || !x.up }
    let lost := { x with locked := false, qual := 0, noEdge := 0, outBand := 0 }
    let others := ∃ j, j ≠ k ∧ ((s.room.linkRec j).st = .joined ∨ (s.room.linkRec j).st = .held)
    let c := s.room.mix.linkState.get k
    let joins := if x.up = false ∧ c.target ≠ .db 0 then c.moved (.db 0) 100 else c
    (x.st ≠ .fault → (x.st ≠ .joining ∨ x.phase ≠ some .wait) →
      exec (.lockNotice k) s
        = .next (s.moved [] { s.room with link := { s.room.link with
            links := s.room.link.links.set k { x with locked := true, noEdge := 0, outBand := 0 } } }))
    ∧ ((x.st ≠ .joining ∨ x.phase ≠ some .wait ∨ x.joinTimer = none) →
      exec (.joinTimerExpiry k) s = .next (s.moved [] s.room)) ∧
    (x.st = .joining → x.phase = some .wait →
      ∃ r, exec (.lockNotice k) s = .next (s.moved [] r)
        ∧ r.standing = { s.room.standing with links := s.room.link.links.set k ramping }
        ∧ r.mix.linkState.get k = joins)
    ∧ (x.st = .fault →
      ∃ r, exec (.lockNotice k) s = .next (s.moved [.linkStateEv k .joining .fault .lock] r)
        ∧ r.standing = { s.room.standing with links := s.room.link.links.set k ramping }
        ∧ r.mix.linkState.get k = joins)
    ∧ ((x.st = .joined ∨ x.st = .held ∨ x.st = .joining ∧ x.phase = some .ramp) →
      ∃ es r, exec (.lossNotice k) s = .next (s.moved (.linkStateEv k .fault x.st .clockLost :: es) r)
        ∧ (r.linkRec k).st = .fault ∧ (r.linkRec k).locked = false ∧ (r.linkRec k).up = false
        ∧ r.mix.linkState.get k = (if x.up = true ∧ c.target ≠ .off then c.moved .off 5 else c)
        ∧ ((s.room.link.call = .live ∨ ¬ others) → ∃ call,
          (s.room.link.call = .live → ¬ others → call = .idle ∧ es = [.callStateEv (k.val + 1) .idle .live .link]
            ∧ r.link.timer = if s.room.link.delay = 0 then none else some (s.room.link.delay * 60000))
          ∧ (s.room.link.call ≠ .live ∨ others → call = s.room.link.call ∧ es = []
            ∧ r.link.timer = s.room.link.timer)
          ∧ r.standing = { s.room.standing with
              call := call
              links := (s.room.link.links.set k
                { lost with st := .fault, phase := none, joinTimer := none, up := false
                            outstanding := x.outstanding || x.up }) }))
    ∧ ((x.st = .idle ∨ x.st = .leaving ∨ x.st = .fault ∨ x.st = .joining ∧ x.phase = some .wait) →
      exec (.lossNotice k) s
        = .next (s.moved [] { s.room with link := { s.room.link with links := s.room.link.links.set k lost } }))
    ∧ (∀ left, x.st = .joining → x.phase = some .wait → x.joinTimer = some left →
      exec (.joinTimerExpiry k) s
        = .next (s.moved [.linkStateEv k .fault .joining .noLock] { s.room with
            link := { s.room.link with
              links := s.room.link.links.set k { x with st := .fault, phase := none, joinTimer := none } } }))

/-- Every step keeps the call LIVE exactly while some link is JOINED or HELD (R152), and the standby timer running exactly
while the call is IDLE and the standby delay is not 0 (R153); a step that brings the call to IDLE leaves the timer at the
whole delay, and one that takes it from IDLE leaves it stopped. -/
def Obligations.StepKeepsCallState : Prop :=
  let follows := fun s : State =>
    s.room.link.call = .live ↔ ∃ k, (s.room.linkRec k).st = .joined ∨ (s.room.linkRec k).st = .held
  let runs := fun s : State => s.room.link.timer.isSome = true ↔ s.room.link.call = .idle ∧ s.room.link.delay ≠ 0
  follows State.reset ∧ (∀ s t : State, follows s → step s = .next t → follows t)
  ∧ runs State.reset ∧ (∀ s t : State, runs s → step s = .next t → runs t)
  ∧ ∀ s t : State, step s = .next t →
    (s.room.link.call ≠ .idle → t.room.link.call = .idle →
      t.room.link.timer = if t.room.link.delay = 0 then none else some (t.room.link.delay * 60000))
    ∧ (s.room.link.call = .idle → t.room.link.call ≠ .idle → t.room.link.timer = none)

/-- CALL_SET takes the standby delay, the timer starting afresh or stopping while the call is IDLE; CALL_WAKE restarts
the timer, or wakes a room in standby (R153, R155, R156, R157): a present pod that serves a seat then has its view
read afresh and shows what it calls for (R35 to R38), and in OPEN mode every admissible seat is opened (R93, R110).
STANDBY_TIMER_EXPIRY: the room enters standby, the timer stopped, every gate closed, its component with it, the standby
component sent to off over the mute ramp, every indication OFF and every blink ended (R38, R87, R110, R123, R128, R129,
R154). That it changes nothing where no timer runs is the model's choice (log 3). -/
def Obligations.CallSetWakeAndStandby : Prop :=
  (∀ (s : State) (tag : Byte), s.Calm →
     (∀ delay : Byte, delay.toNat ≤ 120 →
       exec (.callSet tag delay) s
         = .next (s.replied ⟨0x45, tag, [delay]⟩ ⟨.ok, [s.room.link.call.byte]⟩ [] { s.room with
             link := { s.room.link with
               delay := delay.toNat
               timer := if s.room.link.call = .idle then (if delay.toNat = 0 then none else some (delay.toNat * 60000))
                 else s.room.link.timer } }))
     ∧ (∀ delay : Byte, 120 < delay.toNat →
       exec (.callSet tag delay) s = .next (s.told ⟨0x45, tag, [delay]⟩ .range []))
     ∧ (s.room.link.call = .idle →
       ∃ r, exec (.callWake tag) s
           = .next (s.replied ⟨0x46, tag, []⟩ ⟨.ok, 0 :: bytes2 (s.room.link.delay * 60)⟩ [] r)
         ∧ r = { s.room with link := { s.room.link with
             timer := if s.room.link.delay = 0 then none else some (s.room.link.delay * 60000) } })
     ∧ (s.room.link.call = .live →
       exec (.callWake tag) s
         = .next (s.told ⟨0x46, tag, []⟩ .ok (1 :: bytes2 ((s.room.link.timer.getD 0 + 999) / 1000))))
     ∧ (s.room.link.call = .standby →
       ∃ es r, exec (.callWake tag) s
           = .next (s.replied ⟨0x46, tag, []⟩ ⟨.ok, 0 :: bytes2 (s.room.link.delay * 60)⟩ (.callStateEv 0 .idle .standby .request :: es) r)
         ∧ r.standing = { s.room.standing with
             call := .idle, floorStandby := false, mixStandby := false, dark := Tab.fill 2 false }
         ∧ r.link.timer = (if s.room.link.delay = 0 then none else some (s.room.link.delay * 60000))
         ∧ StandbyReachesMix s.room r true
         ∧ (∀ p, (r.podAt p).facts = (s.room.podAt p).facts ∧ (r.podAt p).blink = none)
         ∧ (∀ p n, (s.room.podAt p).present = true → seatAt s.room.map.running p = some n →
             (r.podAt p).view = r.viewOf n ∧ r.Shows p)
         ∧ (s.room.floor.settings.mode = .opened → ∀ n, (s.room.fseat n).gate = .closed →
             (r.fseat n).gate = if (s.room.fseat n).presence = .present ∧ (s.room.fseat n).muted = false then .opened
               else .closed)))
  ∧ (∀ s : State, s.Steady →
      (s.room.link.timer = none → exec .standbyTimerExpiry s = .next (s.moved [] s.room))
      ∧ (s.room.link.timer.isSome = true → s.room.link.call = .idle →
        ∃ es r, exec .standbyTimerExpiry s = .next (s.moved (.callStateEv 0 .standby .idle .delay :: es) r)
          ∧ r.link.timer = none ∧ StandbyReachesMix s.room r false
          ∧ (∀ n, (r.fseat n).gate = .closed ∧ ((s.room.fseat n).gate.isOpen = true → GateReachesMix s.room r n false))
          ∧ CountReachesMix s.room r
          ∧ (∀ p, (r.podAt p).facts = (s.room.podAt p).facts ∧ (r.podAt p).blink = none ∧ r.Shows p
            ∧ (r.podAt p).ring = .off ∧ (r.podAt p).talk = .off ∧ (r.podAt p).room = .off)
          ∧ r.standing = { s.room.standing with
              call := .standby, floorStandby := true, mixStandby := true, dark := Tab.fill 2 true }))

/-! ## The Feedback Monitor -/

/-- FEEDBACK_SET replaces the five settings and leaves every seat's record as it stands (R169). -/
def Obligations.FeedbackSetTakesSettings : Prop :=
  ∀ (s : State) (tag mode window ratio filter retry : Byte) (m : FbMode), s.Free →
    let frame : Frame := ⟨0x48, tag, [mode, window, ratio, filter, retry]⟩
    let act := exec (.feedbackSet tag mode window ratio filter retry) s
    let fits := 20 ≤ window.toNat ∧ window.toNat ≤ 100 ∧ 6 ≤ ratio.toNat ∧ ratio.toNat ≤ 30
      ∧ filter.toNat ∈ [2, 4, 8, 16] ∧ 1 ≤ retry.toNat ∧ retry.toNat ≤ 30
    (fbModeOf mode = some m → fits →
      act = .next (s.replied frame ⟨.ok, []⟩ [] { s.room with
        fb := { s.room.fb with settings := ⟨m, window.toNat, ratio.toNat, filter.toNat, retry.toNat⟩ } }))
    ∧ (¬ fits ∨ fbModeOf mode = none → act = .next (s.told frame .range []))

/-- FEEDBACK_RELEASE clears a tripped seat's record and its flag, and answers with the trip count and offset it had; a
seat that is not tripped is refused with STATE, and one outside 1 to 40 with RANGE (R59, R166, R167, R168).
RETRY_TIMER_EXPIRY ends the rest of a RESTING seat: the flag is cleared, here and at the Mute Arbiter, and the offset
and the trip count stay (R59, R165, R167). The speaker mute component goes up again with the mute's end (R72, R126); that it changes nothing where the seat is not RESTING is the model's choice
(log 3). -/
def Obligations.FeedbackReleaseAndRetryEnd : Prop :=
  (∀ (s : State) (tag : Byte) (n : Seat), s.Calm →
     let frame : Frame := ⟨0x49, tag, [numByte n]⟩
     let act := exec (.feedbackRelease tag (numByte n)) s
     let x := s.room.fbSeat n
     (∀ b : Byte, b.toNat = 0 ∨ 40 < b.toNat →
       exec (.feedbackRelease tag b) s = .next (s.told ⟨0x49, tag, [b]⟩ .range []))
     ∧ ((x.trips = 0 ∨ x.presence ≠ .present) → act = .next (s.told frame .state []))
     ∧ (x.trips ≠ 0 → x.presence = .present →
       ∃ es r, act = .next (s.replied frame ⟨.ok, [byteOf x.trips, signedByte x.offset]⟩
           (.releaseEv n .request 0 0 :: es) r)
         ∧ r.standing = { s.room.standing with
             trips := s.room.standing.trips.set n ⟨x.presence, 0, none, none, false, none, 0⟩
             flags := if x.flag = true then
                 s.room.standing.flags.modify n fun y => { y with feedback := false }
               else s.room.standing.flags }
         ∧ (x.flag = true → r.Derived) ∧ MutesReachMix s.room r
         ∧ (r.fbSeat n).consecutive = 0
         ∧ (x.presence = .present → x.flag = false → x.live = true →
             (r.fbSeat n).window = some ⟨0, s.room.fb.settings.window, []⟩)
         ∧ (x.offset < 0 → r.mix.fbOffset.get n
             = let c := s.room.mix.fbOffset.get n
               if c.target = .db 0 then c else c.moved (.db 0) 50)))
  ∧ (∀ (s : State) (n : Seat), s.Steady →
      let x := s.room.fbSeat n
      let act := exec (.retryTimerExpiry n) s
      ((x.flag = false ∨ x.retryTimer = none) → act = .next (s.moved [] s.room))
      ∧ (∀ left, x.flag = true → x.retryTimer = some left →
        ∃ es r, act = .next (s.moved (.releaseEv n .retry x.trips x.offset :: es) r) ∧ r.Derived
          ∧ MutesReachMix s.room r
          ∧ r.standing = { s.room.standing with
              trips := s.room.standing.trips.set n { x.facts with flag := false, retryTimer := none }
              flags := s.room.standing.flags.modify n fun y => { y with feedback := false } }))

/-- FEEDBACK_REHEARSE trips a seat that is WATCHING at once, its window discarded and its event marked rehearsed, and
answers with the action and the trip count; a trip that mutes raises the seat's feedback flag where the Arbiter holds the
seat PRESENT, and no other flag moves (R59), its speaker mute component falling over 10 ms (R72, R126); any other seat is refused with STATE, and one outside 1 to 40 with RANGE
(R170). That a TRIP whose action is not RETRY carries 0 as its retry time is the model's choice (log 62). -/
def Obligations.FeedbackRehearseTrips : Prop :=
  ∀ (s : State) (tag : Byte) (n : Seat), s.Calm →
    let frame : Frame := ⟨0x4B, tag, [numByte n]⟩
    let act := exec (.feedbackRehearse tag (numByte n)) s
    let x := s.room.fbSeat n
    let watching := x.presence = .present ∧ x.flag = false ∧ x.live = true
    (∀ b : Byte, b.toNat = 0 ∨ 40 < b.toNat →
      exec (.feedbackRehearse tag b) s = .next (s.told ⟨0x4B, tag, [b]⟩ .range []))
    ∧ (¬ watching → act = .next (s.told frame .state []))
    ∧ (watching →
      ∃ es r action, act = .next (s.replied frame ⟨.ok, [action.byte, byteOf (min 255 (x.trips + 1))]⟩ es r)
        ∧ TripLeaves s.room.fb.settings x.facts (r.fbSeat n).facts action
        ∧ tripEvent n (r.fbSeat n).facts action true ∈ es
        ∧ (r.fbSeat n).window = (if action = .report then some ⟨0, s.room.fb.settings.window, []⟩ else none)
        ∧ r.standing = { s.room.standing with
            trips := s.room.standing.trips.set n (r.fbSeat n).facts
            flags := if action ≠ .report ∧ (s.room.mseat n).presence = .present then
                s.room.standing.flags.modify n fun y => { y with feedback := true }
              else s.room.standing.flags }
        ∧ (action ≠ .report → (s.room.mseat n).presence = .present → (r.mseat n).feedback = true ∧ r.Derived)
        ∧ MutesReachMix s.room r)

/-- WINDOW_END: a window is hot with a broadband level, the mean square of the samples it took, of at least -60 dB,
and a strongest band between 100 Hz and 12 kHz whose level is over it by at least the peak ratio; a hot window raises
the consecutive count, one that is not clears it, and the filter count trips the seat (R161, R162); a trip that mutes
raises the seat's feedback flag where the Arbiter holds the seat PRESENT, and no other flag moves (R59), its speaker mute
component falling over 10 ms (R72, R126). That a level is
in full-scale units, rounded to the nearest half-decibel and kept within -100.0 and +20.0 dB is log 14 and 20. That the
command acts whatever is left of the window, and that the strongest band comes with it, is log 3 and 46; that the band's centre
decides where it lies is log 70; a TRIP whose action is not RETRY carries 0 as retry time (log 62). -/
def Obligations.WindowEndJudges : Prop :=
  (∀ w : Window, 0 < w.length →
    LevelIs (w.frames.map fun f => (f.toList.map fun v => v.natAbs * v.natAbs).sum).sum (48 * w.length) w.broadband)
  ∧ ∀ (s : State) (n : Seat) (centre : Nat) (peak : Int), s.Steady →
    let x := s.room.fbSeat n
    let set := s.room.fb.settings
    let act := exec (.windowEnd n centre peak) s
    let hot := ∃ w, x.window = some w ∧ 100 ≤ centre ∧ centre ≤ 12000 ∧ -120 ≤ w.broadband
      ∧ w.broadband + 2 * set.ratio ≤ peak
    let watching := x.presence = .present ∧ x.flag = false ∧ x.live = true
    let fresh := fun count : Nat => { s.room with fb := { s.room.fb with
      seats := s.room.fb.seats.set n { x with window := some ⟨0, set.window, []⟩, consecutive := count } } }
    (x.window = none → act = .next (s.moved [] s.room))
    ∧ (x.window.isSome = true → watching → ¬ hot → act = .next (s.moved [] (fresh 0)))
    ∧ (x.window.isSome = true → watching → hot → min 16 (x.consecutive + 1) < set.filter →
        act = .next (s.moved [] (fresh (min 16 (x.consecutive + 1)))))
    ∧ (x.window.isSome = true → watching → hot → set.filter ≤ min 16 (x.consecutive + 1) →
      ∃ es r action, act = .next (s.moved es r)
        ∧ TripLeaves set x.facts (r.fbSeat n).facts action
        ∧ tripEvent n (r.fbSeat n).facts action false ∈ es
        ∧ (action ≠ .report → (s.room.mseat n).presence = .present → (r.mseat n).feedback = true ∧ r.Derived)
        ∧ MutesReachMix s.room r
        ∧ (r.fbSeat n).consecutive = 0
        ∧ (r.fbSeat n).window = (if action = .report then some ⟨0, set.window, []⟩ else none)
        ∧ r.standing = { s.room.standing with
            trips := s.room.standing.trips.set n (r.fbSeat n).facts
            flags := if action ≠ .report ∧ (s.room.mseat n).presence = .present then
                s.room.standing.flags.modify n fun y => { y with feedback := true }
              else s.room.standing.flags })

/-! ## The Scene Store -/

/-- SCENE_SAVE and SCENE_ERASE of a user slot mark it BAD and begin the operation, a save with the settings as they
stand and their check; slot 0 is refused with PROTECTED, a store that is not IDLE with BUSY, and a slot or a name out
of range with RANGE (R173, R174, R176, R178). -/
def Obligations.SceneSaveAndEraseBegin : Prop :=
  (∀ (s : State) (tag slot : Byte) (name : List Byte), s.Free →
    ((12 < slot.toNat ∨ 16 < name.length ∨ ∃ c ∈ name, c.toNat < 0x20 ∨ 0x7E < c.toNat) →
      exec (.sceneSave tag slot name) s = .next (s.told ⟨0x50, tag, slot :: name⟩ .range []))
    ∧ (12 < slot.toNat → exec (.sceneErase tag slot) s = .next (s.told ⟨0x52, tag, [slot]⟩ .range [])))
  ∧ ∀ (s : State) (tag : Byte) (name : List Byte), s.Free → name.length ≤ 16 →
    (∀ c ∈ name, 0x20 ≤ c.toNat ∧ c.toNat ≤ 0x7E) →
    let store := fun (i : Fin 12) (op : StoreOp) => { s.room with store := { s.room.store with
      slots := s.room.store.slots.modify i fun u => { u with state := .bad }, op := some op } }
    (∀ i : Fin 13, s.room.store.op.isSome = true →
      exec (.sceneSave tag (byteOf i.val) name) s = .next (s.told ⟨0x50, tag, byteOf i.val :: name⟩ .busy [])
      ∧ exec (.sceneErase tag (byteOf i.val)) s = .next (s.told ⟨0x52, tag, [byteOf i.val]⟩ .busy []))
    ∧ (s.room.store.op = none →
      exec (.sceneSave tag 0 name) s = .next (s.told ⟨0x50, tag, 0 :: name⟩ .guarded [])
      ∧ exec (.sceneErase tag 0) s = .next (s.told ⟨0x52, tag, [0]⟩ .guarded [])
      ∧ ∀ i : Fin 12,
        exec (.sceneSave tag (numByte i) name) s
          = .next (s.replied ⟨0x50, tag, numByte i :: name⟩ ⟨.ok, [numByte i]⟩ []
              (store i (.saving i ⟨sceneOf s.room name, crc (sceneOf s.room name).bytes⟩)))
        ∧ exec (.sceneErase tag (numByte i)) s
          = .next (s.replied ⟨0x52, tag, [numByte i]⟩ ⟨.ok, [numByte i]⟩ [] (store i (.erasing i))))

/-- SAVE_DONE, ERASE_DONE and START_DONE end the operation in flight: a slot that reads back and whose check passes is
VALID, one that reads erased is EMPTY, any other is BAD; the start slot changes where it reads back; each queues its
event (R177, R178, R183). That a slot which turns BAD keeps the image it had is the model's choice (log 63), and so is
that an end with no operation of its kind in flight, none at all or one of another kind, changes nothing (log 38). The
bytes that the check of a scene is computed over: the items in the order of the table of R174, each setting as its
request carries it (R174, R188, R189; the numbers of the modes are log 27; that all of the running map comes before all
of the staged one is the model's choice, log 78). -/
def Obligations.StoreOperationsEnd : Prop :=
  (∀ (s : State) (good : Bool), s.Awake →
    let st := s.room.store
    let with_ := fun t : Store => { s.room with store := t }
    (∀ (i : Fin 12) (x : Image), st.op = some (.saving i x) →
      let passed := good && decide (crc x.scene.bytes = x.check)
      exec (.saveDone good) s = .next (s.moved [.saveDone (i.val + 1) passed x.check] (with_ { st with
        op := none
        slots := if passed then st.slots.set i ⟨.valid, some x⟩
          else st.slots.modify i fun u => { u with state := .bad } })))
    ∧ (∀ i : Fin 12, st.op = some (.erasing i) →
      exec (.eraseDone good) s = .next (s.moved [.eraseDone (i.val + 1) good] (with_ { st with
        op := none
        slots := if good then st.slots.set i ⟨.empty, none⟩
          else st.slots.modify i fun u => { u with state := .bad } })))
    ∧ (∀ i : Fin 13, st.op = some (.settingStart i) →
      exec (.startDone good) s = .next (s.moved [.startDone i.val good] (with_ { st with
        op := none, start := if good then i else st.start })))
    ∧ ((∀ i x, st.op ≠ some (.saving i x)) → exec (.saveDone good) s = .next (s.moved [] s.room))
    ∧ ((∀ i, st.op ≠ some (.erasing i)) → exec (.eraseDone good) s = .next (s.moved [] s.room))
    ∧ ((∀ i, st.op ≠ some (.settingStart i)) → exec (.startDone good) s = .next (s.moved [] s.room)))
  ∧ ∀ c : Scene,
    let yes := fun b : Bool => if b = true then (1 : Byte) else 0
    let two := fun n : Nat => [byteOf (n / 256), byteOf n]
    let signed := fun v : Int => BitVec.ofInt 8 v
    let level := fun v : Option Int => signed (v.getD (-128))
    let entry := fun e : Entry =>
      (match e.place with
        | none => [0, 0]
        | some p => [byteOf (p.line.val + 1), byteOf (p.pos.val + 1)])
      ++ [BitVec.ofNat 8 ((if e.role = .chair then 1 else 0) + (if e.locked = true then 2 else 0))]
    let seats := fun g : Tab 40 Bool =>
      ((List.finRange 40).filter fun n => g.get n).map fun n => byteOf (n.val + 1)
    let f := c.floor
    let m := c.mix
    c.bytes = [
      byteOf c.name.length :: c.name,
      (List.finRange 40).flatMap fun n => entry (c.running.get n),
      (List.finRange 40).flatMap fun n => entry (c.staged.get n),
      (List.finRange 8).flatMap fun g => byteOf (seats (c.groups.get g)).length :: seats (c.groups.get g),
      [byteOf c.waitLimit],
      (List.finRange 2).flatMap fun l => [byteOf (c.lines.get l).expected, byteOf (c.lines.get l).lostLimit],
      (List.finRange 40).flatMap fun n =>
        let d := c.detectors.get n
        [byteOf d.onsetMargin, byteOf d.echoMargin, byteOf d.onsetTime] ++ two d.endTime ++ two d.riseBlank
          ++ two d.fallGuard,
      [listed [FloorMode.opened, .auto, .request] f.mode, byteOf f.limit] ++ two f.hold
        ++ [yes f.lastMic, yes f.autoGrant, yes f.chairFree] ++ two f.idle ++ [byteOf f.attack] ++ two f.release,
      (List.finRange 46).map fun i => signed (m.srcTrim.get i),
      (List.finRange 46).map fun i => signed (m.busTrim.get i),
      [level m.reinforcement, level m.program, level m.assist, byteOf m.near, yes m.bridging, byteOf m.muteRamp],
      [yes m.tonesOn, signed m.toneLevel],
      [listed [FbMode.report, .latch, .retry] c.feedback.mode, byteOf c.feedback.window, byteOf c.feedback.ratio,
        byteOf c.feedback.filter, byteOf c.feedback.retry],
      [byteOf c.delay]].flatten

/-- SCENE_START and SCENE_VERIFY examine slots (R174, R181, R183): a VALID slot whose check fails is marked BAD; a start
slot that passes begins its write, one that does not is refused with STORE; a verify answers the state of each slot of
its run, cut off at slot 12. A field out of range gets RANGE, a store that is not IDLE BUSY. -/
def Obligations.SceneStartAndVerify : Prop :=
  (∀ (s : State) (tag : Byte), s.Free →
    (∀ b : Byte, 12 < b.toNat → exec (.sceneStart tag b) s = .next (s.told ⟨0x54, tag, [b]⟩ .range []))
    ∧ (∀ first count : Byte, (12 < first.toNat ∨ count.toNat = 0 ∨ 13 < count.toNat) →
        exec (.sceneVerify tag first count) s = .next (s.told ⟨0x53, tag, [first, count]⟩ .range []))
    ∧ (s.room.store.op.isSome = true →
        (∀ b : Byte, b.toNat ≤ 12 → exec (.sceneStart tag b) s = .next (s.told ⟨0x54, tag, [b]⟩ .busy []))
        ∧ ∀ first count : Byte, first.toNat ≤ 12 → 1 ≤ count.toNat → count.toNat ≤ 13 →
          exec (.sceneVerify tag first count) s = .next (s.told ⟨0x53, tag, [first, count]⟩ .busy [])))
  ∧ ∀ (s : State) (tag : Byte), s.Free → s.room.store.op = none →
    let st := s.room.store
    let sound := fun i : Fin 12 => (st.slots.get i).state = .valid
      ∧ ∃ x, (st.slots.get i).image = some x ∧ crc x.scene.bytes = x.check
    let spoiled := fun i : Fin 12 => (st.slots.get i).state = .valid ∧ ¬ sound i
    (exec (.sceneStart tag 0) s = .next (s.replied ⟨0x54, tag, [0]⟩ ⟨.ok, [0]⟩ []
      { s.room with store := { st with op := some (.settingStart 0) } }))
    ∧ (∀ i : Fin 12, sound i →
      exec (.sceneStart tag (numByte i)) s = .next (s.replied ⟨0x54, tag, [numByte i]⟩ ⟨.ok, [numByte i]⟩ []
        { s.room with store := { st with op := some (.settingStart i.succ) } }))
    ∧ (∀ i : Fin 12, spoiled i →
      exec (.sceneStart tag (numByte i)) s = .next (s.replied ⟨0x54, tag, [numByte i]⟩ ⟨.store, []⟩ []
        { s.room with store := { st with slots := st.slots.modify i fun u => { u with state := .bad } } }))
    ∧ (∀ i : Fin 12, (st.slots.get i).state ≠ .valid →
      exec (.sceneStart tag (numByte i)) s = .next (s.told ⟨0x54, tag, [numByte i]⟩ .store []))
    ∧ (∀ (first count : Nat), first ≤ 12 → 1 ≤ count → count ≤ 13 →
      ∃ t : Store,
        exec (.sceneVerify tag (byteOf first) (byteOf count)) s
          = .next (s.replied ⟨0x53, tag, [byteOf first, byteOf count]⟩
              ⟨.ok, [byteOf first, byteOf (min count (13 - first))]
                ++ ((List.finRange 13).filter fun i => first ≤ i.val ∧ i.val < first + count).map fun i =>
                  if h : i.val = 0 then SlotState.valid.byte else (t.slots.get ⟨i.val - 1, by omega⟩).state.byte⟩ []
              { s.room with store := t })
        ∧ t.start = st.start ∧ t.op = none
        ∧ ∀ i : Fin 12, (t.slots.get i).image = (st.slots.get i).image
          ∧ (spoiled i → first ≤ i.val + 1 → i.val + 1 < first + count → (t.slots.get i).state = .bad)
          ∧ (¬ (spoiled i ∧ first ≤ i.val + 1 ∧ i.val + 1 < first + count) → t.slots.get i = st.slots.get i))

/-- SCENE_RECALL applies a scene whose slot is VALID and passes its check: every setting it holds is in force, any
pending switch is cancelled, and the links, the call and the store stay. The standby timer starts afresh at the scene's
delay, or stops for 0, where the call is IDLE (R156); trims and levels that differ take the scene's targets by ramps over
the scene's mute ramp, the near relation by the map in force and then by the scene's (R121, R180). A pod whose bad count has reached its new
lost limit is lost. A re-seated seat's self flag is cleared and its privacy flag is that of its new pod; a seat not
re-seated whose presence stays keeps its flags. The claims stay with their numbers, claimants, scopes, directions and
expiries, but for the CHAIR claims of re-seated seats that have lost role CHAIR, which go with CLAIM_GONE; a seat that
stays PRESENT keeps its trip record, and one that ceases to be PRESENT has it cleared. The floor is reset whatever its
mode: where no pod is lost and no detector reports, each seat leaves its gate state with reason MODE (R113, R117). A
slot that is EMPTY or BAD is refused with STORE, one whose check fails is marked BAD, a store that is not IDLE refuses
with BUSY, and a slot outside 0 to 12 gets RANGE (R39, R80, R81, R166, R179, R180). -/
def Obligations.SceneRecallApplies : Prop :=
  ∀ (s : State) (tag : Byte), s.Free →
    let st := s.room.store
    let applied := fun (slot : Byte) (c : Scene) =>
      let reseated := fun n : Seat => (s.room.map.running.get n).place ≠ (c.running.get n).place
        ∨ (s.room.map.running.get n).role ≠ (c.running.get n).role
      let lost := fun p : PodPos =>
        (s.room.podAt p).present && decide ((c.lines.get p.line).lostLimit ≤ (s.room.podAt p).bad)
      let ended := fun x : Claim => match x.who with
        | .chair n => decide (reseated n ∧ (c.running.get n).role ≠ .chair)
        | _ => false
      ∃ es r, exec (.sceneRecall tag slot) s
          = .next (s.replied ⟨0x51, tag, [slot]⟩
              ⟨.ok, slot :: byteOf c.name.length :: c.name
                ++ [byteOf ((List.finRange 40).filter fun n => decide (reseated n)).length]⟩ es r)
        ∧ (s.room.map.switch.isSome = true → .mapSwitchCancelled ∈ es)
        ∧ r.standing = { s.room.standing with
            running := c.running, staged := c.staged, groups := c.groups, switch := none, waitLimit := c.waitLimit
            detectors := c.detectors, floor := c.floor, mix := c.mix, feedback := c.feedback, delay := c.delay
            lines := Tab.ofFn fun l => { (s.room.line l).facts with
              expected := (c.lines.get l).expected, lostLimit := (c.lines.get l).lostLimit
              pods := (r.line l).facts.pods, lstate := (r.line l).lstate, probeTimer := (r.line l).probeTimer }
            flags := r.standing.flags, table := r.standing.table, trips := r.standing.trips }
        ∧ (∀ p, (r.podAt p).present = ((s.room.podAt p).present && !lost p)
          ∧ (lost p = false → (r.podAt p).facts = (s.room.podAt p).facts)
          ∧ (lost p = true → .podLost p .slot (seatAt s.room.map.running p) ∈ es))
        ∧ (∀ l, (∀ p : Pos, lost ⟨l, p⟩ = false) → (r.line l).lstate = (s.room.line l).lstate
          ∧ (r.line l).probeTimer
            = if (s.room.line l).lstate ≠ .scanning ∧ (s.room.line l).count < (c.lines.get l).expected then
                some ((s.room.line l).probeTimer.getD 500) else none)
        ∧ (s.room.mute.TableSound →
          r.mute.table = s.room.mute.table.filter (fun x => !ended x)
          ∧ ∀ x ∈ s.room.mute.table, ended x = true → .claimGone x .roleLost ∈ es)
        ∧ (∀ n, (reseated n → (r.mseat n).self = false
            ∧ (r.mseat n).privacy = (decide (r.presence n ≠ .present)
              || match (c.running.get n).place with
                | none => true
                | some p => (r.podAt p).privacy))
          ∧ (¬ reseated n → r.presence n = s.room.presence n → (r.mseat n).facts = (s.room.mseat n).facts)
          ∧ (s.room.presence n = .present → r.presence n = .present →
            (∀ p, (s.room.map.running.get n).place = some p → lost p = false) →
            (r.fbSeat n).facts = (s.room.fbSeat n).facts)
          ∧ (s.room.Distinct → s.room.presence n = .present → r.presence n ≠ .present →
            (r.fbSeat n).facts = ⟨r.presence n, 0, none, none, false, none, 0⟩))
        ∧ r.link.timer = (if s.room.link.call = .idle then (if c.delay = 0 then none else some (c.delay * 60000))
            else s.room.link.timer)
        ∧ (let m := s.room.mix
          let aimed := fun (y : Comp) (g : Gain) => if y.target = g then y else y.moved g c.mix.muteRamp
          let mic := fun (map : Tab 40 Entry) (n k : Seat) =>
            if nearIn map c.mix.near k n = true then Gain.off else levelGain c.mix.reinforcement
          (∀ i, r.mix.srcTrim.get i = aimed (m.srcTrim.get i) (halfDb (c.mix.srcTrim.get i))
            ∧ r.mix.busTrim.get i = aimed (m.busTrim.get i) (halfDb (c.mix.busTrim.get i)))
          ∧ (∀ n k, n ≠ k → (r.mix.classMic.get n).get k
            = aimed (aimed ((m.classMic.get n).get k) (mic s.room.map.running n k)) (mic c.running n k))
          ∧ r.mix.classProgram = aimed m.classProgram (levelGain c.mix.program)
          ∧ r.mix.classAssist = aimed m.classAssist (levelGain c.mix.assist)
          ∧ r.mix.classBridge = aimed m.classBridge (if c.mix.bridging = true then .db 0 else .off)
          ∧ ∀ n, (r.mix.toneLevel.get n).target = halfDb c.mix.toneLevel)
        ∧ ((∀ p, lost p = false) → (∀ n, let d := (s.room.det.get n).dstate; d = .silent ∨ d = .speech) →
          ∀ n, let gate := (s.room.fseat n).gate
            (gate = .waiting → .dequeuedEv n .wait .mode ∈ es) ∧ (gate = .queued → .dequeuedEv n .request .mode ∈ es)
            ∧ (gate.isOpen = true → .closedEv n gate .mode ∈ es))
    (∀ b : Byte, 12 < b.toNat → exec (.sceneRecall tag b) s = .next (s.told ⟨0x51, tag, [b]⟩ .range []))
    ∧ (st.op.isSome = true → ∀ i : Fin 13,
      exec (.sceneRecall tag (byteOf i.val)) s = .next (s.told ⟨0x51, tag, [byteOf i.val]⟩ .busy []))
    ∧ (st.op = none → applied 0 factoryScene)
    ∧ (∀ (i : Fin 12) (x : Image), st.op = none → (st.slots.get i).state = .valid →
        (st.slots.get i).image = some x →
        (crc x.scene.bytes = x.check → applied (numByte i) x.scene)
        ∧ (crc x.scene.bytes ≠ x.check →
          exec (.sceneRecall tag (numByte i)) s = .next (s.replied ⟨0x51, tag, [numByte i]⟩ ⟨.store, []⟩ []
            { s.room with store := { st with slots := st.slots.modify i fun u => { u with state := .bad } } })))
    ∧ (∀ i : Fin 12, st.op = none → (st.slots.get i).state ≠ .valid →
        exec (.sceneRecall tag (numByte i)) s = .next (s.told ⟨0x51, tag, [numByte i]⟩ .store []))
end

