-- ==== Sys2Proof/Laws/Check.lean ====
section
/-! SUPPORT. The cyclic check (R174) bit by bit: what one byte does to the check register, which the proofs about the check
cite in place of the definition. -/

namespace Sys2Proof.Machine

open Sys2Proof

/-- One bit of data taken into the check register: the register shifts, and where the bit that leaves it differs from the
data the polynomial is added (R174). -/
def crcShift (c : Pair) (bit : Bool) : Pair :=
  (c <<< 1) ^^^ (if (c.getLsbD 15 ^^ bit) = true then 0x8005#16 else 0#16)

/-- The bits of a byte, most significant first. -/
def Byte.bitsDown (b : Byte) : List Bool :=
  [b.getLsbD 7, b.getLsbD 6, b.getLsbD 5, b.getLsbD 4, b.getLsbD 3, b.getLsbD 2, b.getLsbD 1, b.getLsbD 0]

theorem crcBit_eq_shift (c : Pair) : crcBit c = crcShift c false := by
  have top : c.msb = c.getLsbD 15 := by simp [BitVec.msb, BitVec.getMsbD]
  unfold crcBit crcShift
  rw [top]
  cases c.getLsbD 15 <;> simp

/-- A register's shift is linear: the data and the register may be taken apart. -/
theorem crcShift_xor (a b : Pair) (x y : Bool) : crcShift (a ^^^ b) (x ^^ y) = crcShift a x ^^^ crcShift b y := by
  have tail : ∀ p q : Bool, (if (p ^^ q) = true then 0x8005#16 else 0#16)
      = (if p = true then 0x8005#16 else 0#16) ^^^ (if q = true then 0x8005#16 else 0#16) := by decide
  have bits : ((a ^^^ b).getLsbD 15 ^^ (x ^^ y)) = ((a.getLsbD 15 ^^ x) ^^ (b.getLsbD 15 ^^ y)) := by
    rw [BitVec.getLsbD_xor]
    cases a.getLsbD 15 <;> cases b.getLsbD 15 <;> cases x <;> cases y <;> rfl
  unfold crcShift
  rw [bits, tail, BitVec.shiftLeft_xor_distrib]
  ac_rfl

theorem foldl_crcShift_xor (bits : List Bool) (a b : Pair) :
    bits.foldl crcShift (a ^^^ b) = bits.foldl (fun c _ => crcBit c) a ^^^ bits.foldl crcShift b := by
  induction bits generalizing a b with
  | nil => rfl
  | cons x bits ih =>
    rw [List.foldl_cons, List.foldl_cons, List.foldl_cons, ← ih, crcBit_eq_shift, ← crcShift_xor, Bool.false_xor]

theorem crcBit_xor (a b : Pair) : crcBit (a ^^^ b) = crcBit a ^^^ crcBit b := by
  simp only [crcBit_eq_shift, ← crcShift_xor, Bool.xor_false]

/-- One byte taken into the check is its eight bits, most significant first. -/
theorem crcByte_eq_bits (c : Pair) (b : Byte) : crcByte c b = (Byte.bitsDown b).foldl crcShift c := by
  have zero : (Byte.bitsDown b).foldl crcShift 0 = crcByte 0 b := by revert b; decide +kernel
  have split := foldl_crcShift_xor (Byte.bitsDown b) c 0
  rw [zero, BitVec.ofNat_eq_ofNat, BitVec.xor_zero] at split
  rw [split]
  simp only [Byte.bitsDown, crcByte, List.foldl_cons, List.foldl_nil, crcBit_xor, BitVec.zero_xor]

/-- The check over bytes with one more is that byte taken into the check over the others. -/
theorem crc_append_byte (bs : List Byte) (b : Byte) : crc (bs ++ [b]) = crcByte (crc bs) b := by
  simp [crc, List.foldl_append]

end Sys2Proof.Machine
end

