-- ==== Sys2Proof/Laws/State.lean ====
section
/-! SUPPORT. The fields of the state after each primitive update: a field an update does not touch is as before. Every
lemma is true by `rfl`, so that no later proof unfolds a record update. -/

namespace Sys2Proof.Machine

open Sys2Proof

/-! ## The port and the queue -/

@[simp] theorem State.withPort_port (s : State) (f : Port → Port) : (s.withPort f).port = f s.port := rfl
@[simp] theorem State.withPort_room (s : State) (f : Port → Port) : (s.withPort f).room = s.room := rfl
@[simp] theorem State.withPort_pending (s : State) (f : Port → Port) : (s.withPort f).pending = s.pending := rfl
@[simp] theorem State.withPort_held (s : State) (f : Port → Port) : (s.withPort f).held = s.held := rfl

@[simp] theorem State.flush_room (s : State) : s.flush.room = { s.room with out := [] } := rfl
@[simp] theorem State.flush_port (s : State) : s.flush.port = s.port.queueAll s.room.out := rfl
@[simp] theorem State.flush_pending (s : State) : s.flush.pending = s.pending := rfl
@[simp] theorem State.flush_held (s : State) : s.flush.held = s.held := rfl

@[simp] theorem State.replied_room (s : State) (f : Frame) (a : Answer) (es : List Event) (r : Room) :
    (s.replied f a es r).room = r := rfl
@[simp] theorem State.replied_pending (s : State) (f : Frame) (a : Answer) (es : List Event) (r : Room) :
    (s.replied f a es r).pending = s.pending := rfl
@[simp] theorem State.replied_held (s : State) (f : Frame) (a : Answer) (es : List Event) (r : Room) :
    (s.replied f a es r).held = s.held := rfl

@[simp] theorem State.moved_room (s : State) (es : List Event) (r : Room) : (s.moved es r).room = r := rfl
@[simp] theorem State.moved_pending (s : State) (es : List Event) (r : Room) : (s.moved es r).pending = s.pending := rfl
@[simp] theorem State.moved_held (s : State) (es : List Event) (r : Room) : (s.moved es r).held = s.held := rfl

/-! ## The blocks -/

/-! emit -/

@[simp] theorem Room.emit_map (r : Room) (e : Event) : (r.emit e).map = r.map := rfl
@[simp] theorem Room.emit_lines (r : Room) (e : Event) : (r.emit e).lines = r.lines := rfl
@[simp] theorem Room.emit_det (r : Room) (e : Event) : (r.emit e).det = r.det := rfl
@[simp] theorem Room.emit_mute (r : Room) (e : Event) : (r.emit e).mute = r.mute := rfl
@[simp] theorem Room.emit_floor (r : Room) (e : Event) : (r.emit e).floor = r.floor := rfl
@[simp] theorem Room.emit_mix (r : Room) (e : Event) : (r.emit e).mix = r.mix := rfl
@[simp] theorem Room.emit_link (r : Room) (e : Event) : (r.emit e).link = r.link := rfl
@[simp] theorem Room.emit_fb (r : Room) (e : Event) : (r.emit e).fb = r.fb := rfl
@[simp] theorem Room.emit_store (r : Room) (e : Event) : (r.emit e).store = r.store := rfl
@[simp] theorem Room.emit_box (r : Room) (e : Event) : (r.emit e).box = r.box := rfl
@[simp] theorem Room.emit_begun (r : Room) (e : Event) : (r.emit e).begun = r.begun := rfl

/-! setPod -/

@[simp] theorem Room.setPod_map (r : Room) (p : PodPos) (f : Pod → Pod) : (r.setPod p f).map = r.map := rfl
@[simp] theorem Room.setPod_det (r : Room) (p : PodPos) (f : Pod → Pod) : (r.setPod p f).det = r.det := rfl
@[simp] theorem Room.setPod_mute (r : Room) (p : PodPos) (f : Pod → Pod) : (r.setPod p f).mute = r.mute := rfl
@[simp] theorem Room.setPod_floor (r : Room) (p : PodPos) (f : Pod → Pod) : (r.setPod p f).floor = r.floor := rfl
@[simp] theorem Room.setPod_mix (r : Room) (p : PodPos) (f : Pod → Pod) : (r.setPod p f).mix = r.mix := rfl
@[simp] theorem Room.setPod_link (r : Room) (p : PodPos) (f : Pod → Pod) : (r.setPod p f).link = r.link := rfl
@[simp] theorem Room.setPod_fb (r : Room) (p : PodPos) (f : Pod → Pod) : (r.setPod p f).fb = r.fb := rfl
@[simp] theorem Room.setPod_store (r : Room) (p : PodPos) (f : Pod → Pod) : (r.setPod p f).store = r.store := rfl
@[simp] theorem Room.setPod_out (r : Room) (p : PodPos) (f : Pod → Pod) : (r.setPod p f).out = r.out := rfl
@[simp] theorem Room.setPod_box (r : Room) (p : PodPos) (f : Pod → Pod) : (r.setPod p f).box = r.box := rfl
@[simp] theorem Room.setPod_begun (r : Room) (p : PodPos) (f : Pod → Pod) : (r.setPod p f).begun = r.begun := rfl

/-! setLine -/

@[simp] theorem Room.setLine_map (r : Room) (l : LineNo) (f : Line → Line) : (r.setLine l f).map = r.map := rfl
@[simp] theorem Room.setLine_det (r : Room) (l : LineNo) (f : Line → Line) : (r.setLine l f).det = r.det := rfl
@[simp] theorem Room.setLine_mute (r : Room) (l : LineNo) (f : Line → Line) : (r.setLine l f).mute = r.mute := rfl
@[simp] theorem Room.setLine_floor (r : Room) (l : LineNo) (f : Line → Line) : (r.setLine l f).floor = r.floor := rfl
@[simp] theorem Room.setLine_mix (r : Room) (l : LineNo) (f : Line → Line) : (r.setLine l f).mix = r.mix := rfl
@[simp] theorem Room.setLine_link (r : Room) (l : LineNo) (f : Line → Line) : (r.setLine l f).link = r.link := rfl
@[simp] theorem Room.setLine_fb (r : Room) (l : LineNo) (f : Line → Line) : (r.setLine l f).fb = r.fb := rfl
@[simp] theorem Room.setLine_store (r : Room) (l : LineNo) (f : Line → Line) : (r.setLine l f).store = r.store := rfl
@[simp] theorem Room.setLine_out (r : Room) (l : LineNo) (f : Line → Line) : (r.setLine l f).out = r.out := rfl
@[simp] theorem Room.setLine_box (r : Room) (l : LineNo) (f : Line → Line) : (r.setLine l f).box = r.box := rfl
@[simp] theorem Room.setLine_begun (r : Room) (l : LineNo) (f : Line → Line) : (r.setLine l f).begun = r.begun := rfl

/-! setDet -/

@[simp] theorem Room.setDet_map (r : Room) (n : Seat) (f : Detector → Detector) : (r.setDet n f).map = r.map := rfl
@[simp] theorem Room.setDet_lines (r : Room) (n : Seat) (f : Detector → Detector) : (r.setDet n f).lines = r.lines := rfl
@[simp] theorem Room.setDet_mute (r : Room) (n : Seat) (f : Detector → Detector) : (r.setDet n f).mute = r.mute := rfl
@[simp] theorem Room.setDet_floor (r : Room) (n : Seat) (f : Detector → Detector) : (r.setDet n f).floor = r.floor := rfl
@[simp] theorem Room.setDet_mix (r : Room) (n : Seat) (f : Detector → Detector) : (r.setDet n f).mix = r.mix := rfl
@[simp] theorem Room.setDet_link (r : Room) (n : Seat) (f : Detector → Detector) : (r.setDet n f).link = r.link := rfl
@[simp] theorem Room.setDet_fb (r : Room) (n : Seat) (f : Detector → Detector) : (r.setDet n f).fb = r.fb := rfl
@[simp] theorem Room.setDet_store (r : Room) (n : Seat) (f : Detector → Detector) : (r.setDet n f).store = r.store := rfl
@[simp] theorem Room.setDet_out (r : Room) (n : Seat) (f : Detector → Detector) : (r.setDet n f).out = r.out := rfl
@[simp] theorem Room.setDet_box (r : Room) (n : Seat) (f : Detector → Detector) : (r.setDet n f).box = r.box := rfl
@[simp] theorem Room.setDet_begun (r : Room) (n : Seat) (f : Detector → Detector) : (r.setDet n f).begun = r.begun := rfl

/-! setSeat -/

@[simp] theorem Room.setSeat_map (r : Room) (n : Seat) (f : FloorSeat → FloorSeat) : (r.setSeat n f).map = r.map := rfl
@[simp] theorem Room.setSeat_lines (r : Room) (n : Seat) (f : FloorSeat → FloorSeat) : (r.setSeat n f).lines = r.lines := rfl
@[simp] theorem Room.setSeat_det (r : Room) (n : Seat) (f : FloorSeat → FloorSeat) : (r.setSeat n f).det = r.det := rfl
@[simp] theorem Room.setSeat_mute (r : Room) (n : Seat) (f : FloorSeat → FloorSeat) : (r.setSeat n f).mute = r.mute := rfl
@[simp] theorem Room.setSeat_mix (r : Room) (n : Seat) (f : FloorSeat → FloorSeat) : (r.setSeat n f).mix = r.mix := rfl
@[simp] theorem Room.setSeat_link (r : Room) (n : Seat) (f : FloorSeat → FloorSeat) : (r.setSeat n f).link = r.link := rfl
@[simp] theorem Room.setSeat_fb (r : Room) (n : Seat) (f : FloorSeat → FloorSeat) : (r.setSeat n f).fb = r.fb := rfl
@[simp] theorem Room.setSeat_store (r : Room) (n : Seat) (f : FloorSeat → FloorSeat) : (r.setSeat n f).store = r.store := rfl
@[simp] theorem Room.setSeat_out (r : Room) (n : Seat) (f : FloorSeat → FloorSeat) : (r.setSeat n f).out = r.out := rfl
@[simp] theorem Room.setSeat_box (r : Room) (n : Seat) (f : FloorSeat → FloorSeat) : (r.setSeat n f).box = r.box := rfl
@[simp] theorem Room.setSeat_begun (r : Room) (n : Seat) (f : FloorSeat → FloorSeat) : (r.setSeat n f).begun = r.begun := rfl

/-! unlist -/

@[simp] theorem Room.unlist_map (r : Room) (n : Seat) : (r.unlist n).map = r.map := rfl
@[simp] theorem Room.unlist_lines (r : Room) (n : Seat) : (r.unlist n).lines = r.lines := rfl
@[simp] theorem Room.unlist_det (r : Room) (n : Seat) : (r.unlist n).det = r.det := rfl
@[simp] theorem Room.unlist_mute (r : Room) (n : Seat) : (r.unlist n).mute = r.mute := rfl
@[simp] theorem Room.unlist_mix (r : Room) (n : Seat) : (r.unlist n).mix = r.mix := rfl
@[simp] theorem Room.unlist_link (r : Room) (n : Seat) : (r.unlist n).link = r.link := rfl
@[simp] theorem Room.unlist_fb (r : Room) (n : Seat) : (r.unlist n).fb = r.fb := rfl
@[simp] theorem Room.unlist_store (r : Room) (n : Seat) : (r.unlist n).store = r.store := rfl
@[simp] theorem Room.unlist_out (r : Room) (n : Seat) : (r.unlist n).out = r.out := rfl
@[simp] theorem Room.unlist_box (r : Room) (n : Seat) : (r.unlist n).box = r.box := rfl
@[simp] theorem Room.unlist_begun (r : Room) (n : Seat) : (r.unlist n).begun = r.begun := rfl

/-! setMuteSeat -/

@[simp] theorem Room.setMuteSeat_map (r : Room) (n : Seat) (f : MuteSeat → MuteSeat) : (r.setMuteSeat n f).map = r.map := rfl
@[simp] theorem Room.setMuteSeat_lines (r : Room) (n : Seat) (f : MuteSeat → MuteSeat) : (r.setMuteSeat n f).lines = r.lines := rfl
@[simp] theorem Room.setMuteSeat_det (r : Room) (n : Seat) (f : MuteSeat → MuteSeat) : (r.setMuteSeat n f).det = r.det := rfl
@[simp] theorem Room.setMuteSeat_floor (r : Room) (n : Seat) (f : MuteSeat → MuteSeat) : (r.setMuteSeat n f).floor = r.floor := rfl
@[simp] theorem Room.setMuteSeat_mix (r : Room) (n : Seat) (f : MuteSeat → MuteSeat) : (r.setMuteSeat n f).mix = r.mix := rfl
@[simp] theorem Room.setMuteSeat_link (r : Room) (n : Seat) (f : MuteSeat → MuteSeat) : (r.setMuteSeat n f).link = r.link := rfl
@[simp] theorem Room.setMuteSeat_fb (r : Room) (n : Seat) (f : MuteSeat → MuteSeat) : (r.setMuteSeat n f).fb = r.fb := rfl
@[simp] theorem Room.setMuteSeat_store (r : Room) (n : Seat) (f : MuteSeat → MuteSeat) : (r.setMuteSeat n f).store = r.store := rfl
@[simp] theorem Room.setMuteSeat_out (r : Room) (n : Seat) (f : MuteSeat → MuteSeat) : (r.setMuteSeat n f).out = r.out := rfl
@[simp] theorem Room.setMuteSeat_box (r : Room) (n : Seat) (f : MuteSeat → MuteSeat) : (r.setMuteSeat n f).box = r.box := rfl
@[simp] theorem Room.setMuteSeat_begun (r : Room) (n : Seat) (f : MuteSeat → MuteSeat) : (r.setMuteSeat n f).begun = r.begun := rfl

/-! addClaim -/

@[simp] theorem Room.addClaim_map (r : Room) (i : Fin 48) (w : Claimant) (c : Scope) (d : Dir) (x : Option Nat) : (r.addClaim i w c d x).map = r.map := rfl
@[simp] theorem Room.addClaim_lines (r : Room) (i : Fin 48) (w : Claimant) (c : Scope) (d : Dir) (x : Option Nat) : (r.addClaim i w c d x).lines = r.lines := rfl
@[simp] theorem Room.addClaim_det (r : Room) (i : Fin 48) (w : Claimant) (c : Scope) (d : Dir) (x : Option Nat) : (r.addClaim i w c d x).det = r.det := rfl
@[simp] theorem Room.addClaim_floor (r : Room) (i : Fin 48) (w : Claimant) (c : Scope) (d : Dir) (x : Option Nat) : (r.addClaim i w c d x).floor = r.floor := rfl
@[simp] theorem Room.addClaim_mix (r : Room) (i : Fin 48) (w : Claimant) (c : Scope) (d : Dir) (x : Option Nat) : (r.addClaim i w c d x).mix = r.mix := rfl
@[simp] theorem Room.addClaim_link (r : Room) (i : Fin 48) (w : Claimant) (c : Scope) (d : Dir) (x : Option Nat) : (r.addClaim i w c d x).link = r.link := rfl
@[simp] theorem Room.addClaim_fb (r : Room) (i : Fin 48) (w : Claimant) (c : Scope) (d : Dir) (x : Option Nat) : (r.addClaim i w c d x).fb = r.fb := rfl
@[simp] theorem Room.addClaim_store (r : Room) (i : Fin 48) (w : Claimant) (c : Scope) (d : Dir) (x : Option Nat) : (r.addClaim i w c d x).store = r.store := rfl
@[simp] theorem Room.addClaim_out (r : Room) (i : Fin 48) (w : Claimant) (c : Scope) (d : Dir) (x : Option Nat) : (r.addClaim i w c d x).out = r.out := rfl
@[simp] theorem Room.addClaim_box (r : Room) (i : Fin 48) (w : Claimant) (c : Scope) (d : Dir) (x : Option Nat) : (r.addClaim i w c d x).box = r.box := rfl
@[simp] theorem Room.addClaim_begun (r : Room) (i : Fin 48) (w : Claimant) (c : Scope) (d : Dir) (x : Option Nat) : (r.addClaim i w c d x).begun = r.begun := rfl

/-! dropClaim -/

@[simp] theorem Room.dropClaim_map (r : Room) (i : Fin 48) : (r.dropClaim i).map = r.map := rfl
@[simp] theorem Room.dropClaim_lines (r : Room) (i : Fin 48) : (r.dropClaim i).lines = r.lines := rfl
@[simp] theorem Room.dropClaim_det (r : Room) (i : Fin 48) : (r.dropClaim i).det = r.det := rfl
@[simp] theorem Room.dropClaim_floor (r : Room) (i : Fin 48) : (r.dropClaim i).floor = r.floor := rfl
@[simp] theorem Room.dropClaim_mix (r : Room) (i : Fin 48) : (r.dropClaim i).mix = r.mix := rfl
@[simp] theorem Room.dropClaim_link (r : Room) (i : Fin 48) : (r.dropClaim i).link = r.link := rfl
@[simp] theorem Room.dropClaim_fb (r : Room) (i : Fin 48) : (r.dropClaim i).fb = r.fb := rfl
@[simp] theorem Room.dropClaim_store (r : Room) (i : Fin 48) : (r.dropClaim i).store = r.store := rfl
@[simp] theorem Room.dropClaim_out (r : Room) (i : Fin 48) : (r.dropClaim i).out = r.out := rfl
@[simp] theorem Room.dropClaim_box (r : Room) (i : Fin 48) : (r.dropClaim i).box = r.box := rfl
@[simp] theorem Room.dropClaim_begun (r : Room) (i : Fin 48) : (r.dropClaim i).begun = r.begun := rfl

/-! setExpiry -/

@[simp] theorem Room.setExpiry_map (r : Room) (i : Fin 48) (x : Option Nat) : (r.setExpiry i x).map = r.map := rfl
@[simp] theorem Room.setExpiry_lines (r : Room) (i : Fin 48) (x : Option Nat) : (r.setExpiry i x).lines = r.lines := rfl
@[simp] theorem Room.setExpiry_det (r : Room) (i : Fin 48) (x : Option Nat) : (r.setExpiry i x).det = r.det := rfl
@[simp] theorem Room.setExpiry_floor (r : Room) (i : Fin 48) (x : Option Nat) : (r.setExpiry i x).floor = r.floor := rfl
@[simp] theorem Room.setExpiry_mix (r : Room) (i : Fin 48) (x : Option Nat) : (r.setExpiry i x).mix = r.mix := rfl
@[simp] theorem Room.setExpiry_link (r : Room) (i : Fin 48) (x : Option Nat) : (r.setExpiry i x).link = r.link := rfl
@[simp] theorem Room.setExpiry_fb (r : Room) (i : Fin 48) (x : Option Nat) : (r.setExpiry i x).fb = r.fb := rfl
@[simp] theorem Room.setExpiry_store (r : Room) (i : Fin 48) (x : Option Nat) : (r.setExpiry i x).store = r.store := rfl
@[simp] theorem Room.setExpiry_out (r : Room) (i : Fin 48) (x : Option Nat) : (r.setExpiry i x).out = r.out := rfl
@[simp] theorem Room.setExpiry_box (r : Room) (i : Fin 48) (x : Option Nat) : (r.setExpiry i x).box = r.box := rfl
@[simp] theorem Room.setExpiry_begun (r : Room) (i : Fin 48) (x : Option Nat) : (r.setExpiry i x).begun = r.begun := rfl

/-! linkLeftIdle -/

@[simp] theorem Room.linkLeftIdle_map (r : Room) (k : Link) : (r.linkLeftIdle k).map = r.map := rfl
@[simp] theorem Room.linkLeftIdle_lines (r : Room) (k : Link) : (r.linkLeftIdle k).lines = r.lines := rfl
@[simp] theorem Room.linkLeftIdle_det (r : Room) (k : Link) : (r.linkLeftIdle k).det = r.det := rfl
@[simp] theorem Room.linkLeftIdle_floor (r : Room) (k : Link) : (r.linkLeftIdle k).floor = r.floor := rfl
@[simp] theorem Room.linkLeftIdle_mix (r : Room) (k : Link) : (r.linkLeftIdle k).mix = r.mix := rfl
@[simp] theorem Room.linkLeftIdle_link (r : Room) (k : Link) : (r.linkLeftIdle k).link = r.link := rfl
@[simp] theorem Room.linkLeftIdle_fb (r : Room) (k : Link) : (r.linkLeftIdle k).fb = r.fb := rfl
@[simp] theorem Room.linkLeftIdle_store (r : Room) (k : Link) : (r.linkLeftIdle k).store = r.store := rfl
@[simp] theorem Room.linkLeftIdle_out (r : Room) (k : Link) : (r.linkLeftIdle k).out = r.out := rfl
@[simp] theorem Room.linkLeftIdle_box (r : Room) (k : Link) : (r.linkLeftIdle k).box = r.box := rfl
@[simp] theorem Room.linkLeftIdle_begun (r : Room) (k : Link) : (r.linkLeftIdle k).begun = r.begun := rfl

/-! setLink -/

@[simp] theorem Room.setLink_map (r : Room) (k : Link) (f : LinkRec → LinkRec) : (r.setLink k f).map = r.map := rfl
@[simp] theorem Room.setLink_lines (r : Room) (k : Link) (f : LinkRec → LinkRec) : (r.setLink k f).lines = r.lines := rfl
@[simp] theorem Room.setLink_det (r : Room) (k : Link) (f : LinkRec → LinkRec) : (r.setLink k f).det = r.det := rfl
@[simp] theorem Room.setLink_mute (r : Room) (k : Link) (f : LinkRec → LinkRec) : (r.setLink k f).mute = r.mute := rfl
@[simp] theorem Room.setLink_floor (r : Room) (k : Link) (f : LinkRec → LinkRec) : (r.setLink k f).floor = r.floor := rfl
@[simp] theorem Room.setLink_mix (r : Room) (k : Link) (f : LinkRec → LinkRec) : (r.setLink k f).mix = r.mix := rfl
@[simp] theorem Room.setLink_fb (r : Room) (k : Link) (f : LinkRec → LinkRec) : (r.setLink k f).fb = r.fb := rfl
@[simp] theorem Room.setLink_store (r : Room) (k : Link) (f : LinkRec → LinkRec) : (r.setLink k f).store = r.store := rfl
@[simp] theorem Room.setLink_out (r : Room) (k : Link) (f : LinkRec → LinkRec) : (r.setLink k f).out = r.out := rfl
@[simp] theorem Room.setLink_box (r : Room) (k : Link) (f : LinkRec → LinkRec) : (r.setLink k f).box = r.box := rfl
@[simp] theorem Room.setLink_begun (r : Room) (k : Link) (f : LinkRec → LinkRec) : (r.setLink k f).begun = r.begun := rfl

/-! setDelay -/

@[simp] theorem Room.setDelay_map (r : Room) (d : Nat) : (r.setDelay d).map = r.map := rfl
@[simp] theorem Room.setDelay_lines (r : Room) (d : Nat) : (r.setDelay d).lines = r.lines := rfl
@[simp] theorem Room.setDelay_det (r : Room) (d : Nat) : (r.setDelay d).det = r.det := rfl
@[simp] theorem Room.setDelay_mute (r : Room) (d : Nat) : (r.setDelay d).mute = r.mute := rfl
@[simp] theorem Room.setDelay_floor (r : Room) (d : Nat) : (r.setDelay d).floor = r.floor := rfl
@[simp] theorem Room.setDelay_mix (r : Room) (d : Nat) : (r.setDelay d).mix = r.mix := rfl
@[simp] theorem Room.setDelay_fb (r : Room) (d : Nat) : (r.setDelay d).fb = r.fb := rfl
@[simp] theorem Room.setDelay_store (r : Room) (d : Nat) : (r.setDelay d).store = r.store := rfl
@[simp] theorem Room.setDelay_out (r : Room) (d : Nat) : (r.setDelay d).out = r.out := rfl
@[simp] theorem Room.setDelay_box (r : Room) (d : Nat) : (r.setDelay d).box = r.box := rfl
@[simp] theorem Room.setDelay_begun (r : Room) (d : Nat) : (r.setDelay d).begun = r.begun := rfl

/-! setFb -/

@[simp] theorem Room.setFb_map (r : Room) (n : Seat) (f : FbSeat → FbSeat) : (r.setFb n f).map = r.map := rfl
@[simp] theorem Room.setFb_lines (r : Room) (n : Seat) (f : FbSeat → FbSeat) : (r.setFb n f).lines = r.lines := rfl
@[simp] theorem Room.setFb_det (r : Room) (n : Seat) (f : FbSeat → FbSeat) : (r.setFb n f).det = r.det := rfl
@[simp] theorem Room.setFb_mute (r : Room) (n : Seat) (f : FbSeat → FbSeat) : (r.setFb n f).mute = r.mute := rfl
@[simp] theorem Room.setFb_floor (r : Room) (n : Seat) (f : FbSeat → FbSeat) : (r.setFb n f).floor = r.floor := rfl
@[simp] theorem Room.setFb_mix (r : Room) (n : Seat) (f : FbSeat → FbSeat) : (r.setFb n f).mix = r.mix := rfl
@[simp] theorem Room.setFb_link (r : Room) (n : Seat) (f : FbSeat → FbSeat) : (r.setFb n f).link = r.link := rfl
@[simp] theorem Room.setFb_store (r : Room) (n : Seat) (f : FbSeat → FbSeat) : (r.setFb n f).store = r.store := rfl
@[simp] theorem Room.setFb_out (r : Room) (n : Seat) (f : FbSeat → FbSeat) : (r.setFb n f).out = r.out := rfl
@[simp] theorem Room.setFb_box (r : Room) (n : Seat) (f : FbSeat → FbSeat) : (r.setFb n f).box = r.box := rfl
@[simp] theorem Room.setFb_begun (r : Room) (n : Seat) (f : FbSeat → FbSeat) : (r.setFb n f).begun = r.begun := rfl

/-! setFeedback -/

@[simp] theorem Room.setFeedback_map (r : Room) (s : FbSettings) : (r.setFeedback s).map = r.map := rfl
@[simp] theorem Room.setFeedback_lines (r : Room) (s : FbSettings) : (r.setFeedback s).lines = r.lines := rfl
@[simp] theorem Room.setFeedback_det (r : Room) (s : FbSettings) : (r.setFeedback s).det = r.det := rfl
@[simp] theorem Room.setFeedback_mute (r : Room) (s : FbSettings) : (r.setFeedback s).mute = r.mute := rfl
@[simp] theorem Room.setFeedback_floor (r : Room) (s : FbSettings) : (r.setFeedback s).floor = r.floor := rfl
@[simp] theorem Room.setFeedback_mix (r : Room) (s : FbSettings) : (r.setFeedback s).mix = r.mix := rfl
@[simp] theorem Room.setFeedback_link (r : Room) (s : FbSettings) : (r.setFeedback s).link = r.link := rfl
@[simp] theorem Room.setFeedback_store (r : Room) (s : FbSettings) : (r.setFeedback s).store = r.store := rfl
@[simp] theorem Room.setFeedback_out (r : Room) (s : FbSettings) : (r.setFeedback s).out = r.out := rfl
@[simp] theorem Room.setFeedback_box (r : Room) (s : FbSettings) : (r.setFeedback s).box = r.box := rfl
@[simp] theorem Room.setFeedback_begun (r : Room) (s : FbSettings) : (r.setFeedback s).begun = r.begun := rfl

/-! setStore -/

@[simp] theorem Room.setStore_map (r : Room) (f : Store → Store) : (r.setStore f).map = r.map := rfl
@[simp] theorem Room.setStore_lines (r : Room) (f : Store → Store) : (r.setStore f).lines = r.lines := rfl
@[simp] theorem Room.setStore_det (r : Room) (f : Store → Store) : (r.setStore f).det = r.det := rfl
@[simp] theorem Room.setStore_mute (r : Room) (f : Store → Store) : (r.setStore f).mute = r.mute := rfl
@[simp] theorem Room.setStore_floor (r : Room) (f : Store → Store) : (r.setStore f).floor = r.floor := rfl
@[simp] theorem Room.setStore_mix (r : Room) (f : Store → Store) : (r.setStore f).mix = r.mix := rfl
@[simp] theorem Room.setStore_link (r : Room) (f : Store → Store) : (r.setStore f).link = r.link := rfl
@[simp] theorem Room.setStore_fb (r : Room) (f : Store → Store) : (r.setStore f).fb = r.fb := rfl
@[simp] theorem Room.setStore_out (r : Room) (f : Store → Store) : (r.setStore f).out = r.out := rfl
@[simp] theorem Room.setStore_box (r : Room) (f : Store → Store) : (r.setStore f).box = r.box := rfl
@[simp] theorem Room.setStore_begun (r : Room) (f : Store → Store) : (r.setStore f).begun = r.begun := rfl

/-! pendSwitch -/

@[simp] theorem Room.pendSwitch_lines (r : Room) (l : LockMode) : (r.pendSwitch l).lines = r.lines := rfl
@[simp] theorem Room.pendSwitch_det (r : Room) (l : LockMode) : (r.pendSwitch l).det = r.det := rfl
@[simp] theorem Room.pendSwitch_mute (r : Room) (l : LockMode) : (r.pendSwitch l).mute = r.mute := rfl
@[simp] theorem Room.pendSwitch_floor (r : Room) (l : LockMode) : (r.pendSwitch l).floor = r.floor := rfl
@[simp] theorem Room.pendSwitch_mix (r : Room) (l : LockMode) : (r.pendSwitch l).mix = r.mix := rfl
@[simp] theorem Room.pendSwitch_link (r : Room) (l : LockMode) : (r.pendSwitch l).link = r.link := rfl
@[simp] theorem Room.pendSwitch_fb (r : Room) (l : LockMode) : (r.pendSwitch l).fb = r.fb := rfl
@[simp] theorem Room.pendSwitch_store (r : Room) (l : LockMode) : (r.pendSwitch l).store = r.store := rfl
@[simp] theorem Room.pendSwitch_out (r : Room) (l : LockMode) : (r.pendSwitch l).out = r.out := rfl
@[simp] theorem Room.pendSwitch_box (r : Room) (l : LockMode) : (r.pendSwitch l).box = r.box := rfl
@[simp] theorem Room.pendSwitch_begun (r : Room) (l : LockMode) : (r.pendSwitch l).begun = r.begun := rfl

/-! cancelSwitch -/

@[simp] theorem Room.cancelSwitch_lines (r : Room) : (r.cancelSwitch).lines = r.lines := rfl
@[simp] theorem Room.cancelSwitch_det (r : Room) : (r.cancelSwitch).det = r.det := rfl
@[simp] theorem Room.cancelSwitch_mute (r : Room) : (r.cancelSwitch).mute = r.mute := rfl
@[simp] theorem Room.cancelSwitch_floor (r : Room) : (r.cancelSwitch).floor = r.floor := rfl
@[simp] theorem Room.cancelSwitch_mix (r : Room) : (r.cancelSwitch).mix = r.mix := rfl
@[simp] theorem Room.cancelSwitch_link (r : Room) : (r.cancelSwitch).link = r.link := rfl
@[simp] theorem Room.cancelSwitch_fb (r : Room) : (r.cancelSwitch).fb = r.fb := rfl
@[simp] theorem Room.cancelSwitch_store (r : Room) : (r.cancelSwitch).store = r.store := rfl
@[simp] theorem Room.cancelSwitch_out (r : Room) : (r.cancelSwitch).out = r.out := rfl
@[simp] theorem Room.cancelSwitch_box (r : Room) : (r.cancelSwitch).box = r.box := rfl
@[simp] theorem Room.cancelSwitch_begun (r : Room) : (r.cancelSwitch).begun = r.begun := rfl

/-! setQuiet -/

@[simp] theorem Room.setQuiet_lines (r : Room) (q : Bool) : (r.setQuiet q).lines = r.lines := rfl
@[simp] theorem Room.setQuiet_det (r : Room) (q : Bool) : (r.setQuiet q).det = r.det := rfl
@[simp] theorem Room.setQuiet_mute (r : Room) (q : Bool) : (r.setQuiet q).mute = r.mute := rfl
@[simp] theorem Room.setQuiet_floor (r : Room) (q : Bool) : (r.setQuiet q).floor = r.floor := rfl
@[simp] theorem Room.setQuiet_mix (r : Room) (q : Bool) : (r.setQuiet q).mix = r.mix := rfl
@[simp] theorem Room.setQuiet_link (r : Room) (q : Bool) : (r.setQuiet q).link = r.link := rfl
@[simp] theorem Room.setQuiet_fb (r : Room) (q : Bool) : (r.setQuiet q).fb = r.fb := rfl
@[simp] theorem Room.setQuiet_store (r : Room) (q : Bool) : (r.setQuiet q).store = r.store := rfl
@[simp] theorem Room.setQuiet_out (r : Room) (q : Bool) : (r.setQuiet q).out = r.out := rfl
@[simp] theorem Room.setQuiet_box (r : Room) (q : Bool) : (r.setQuiet q).box = r.box := rfl
@[simp] theorem Room.setQuiet_begun (r : Room) (q : Bool) : (r.setQuiet q).begun = r.begun := rfl

end Sys2Proof.Machine
end

