-- ==== Sys2Proof/Laws/Keeps.lean ====
section
/-! SUPPORT. What each shared operation leaves alone: one lemma for each operation names every block and every setting
that stands as before. Later proofs cite these and do not unfold the operations. -/

set_option linter.unusedTactic false
set_option linter.unusedSimpArgs false

namespace Sys2Proof.Machine

open Sys2Proof

/-- A fold keeps what each of its turns keeps. -/
theorem foldl_keeps {α β γ : Type} {π : γ → α} (f : γ → β → γ) (h : ∀ r b, π (f r b) = π r) (l : List β) (r : γ) :
    π (l.foldl f r) = π r := by
  induction l generalizing r with
  | nil => rfl
  | cons b l ih => rw [List.foldl_cons, ih, h]

/-- A table's facts are as before when one entry changes and its fact does not. -/
theorem Tab.map_modify {n : Nat} {α β : Type} (t : Tab n α) (i : Fin n) (f : α → α) (g : α → β)
    (h : g (f (t.get i)) = g (t.get i)) : (t.modify i f).map g = t.map g := by
  apply Tab.ext_get
  intro j
  rw [Tab.get_map, Tab.get_map, Tab.get_modify]
  split
  · subst j; exact h
  · rfl

theorem Room.setPod_lineFacts (r : Room) (p : PodPos) (f : Pod → Pod) (h : ∀ x, (f x).facts = x.facts) :
    (r.setPod p f).lines.map Line.facts = r.lines.map Line.facts := by
  apply Tab.map_modify
  simp only [Line.facts, Tab.map_modify _ _ f Pod.facts (h _)]

@[simp] theorem Room.setPod_darks (r : Room) (p : PodPos) (f : Pod → Pod) :
    (r.setPod p f).lines.map Line.dark = r.lines.map Line.dark := Tab.map_modify _ _ _ _ rfl

@[simp] theorem Line.probeCheck_dark (l : Line) : l.probeCheck.dark = l.dark := by
  unfold Line.probeCheck
  repeat' split
  all_goals rfl

@[simp] theorem Line.hearTerm_dark (l : Line) (t : TermReport) : (l.hearTerm t).dark = l.dark := by
  unfold Line.hearTerm
  split <;> rfl

@[simp] theorem Room.setLine_darks (r : Room) (l : LineNo) (f : Line → Line) (h : ∀ x, (f x).dark = x.dark) :
    (r.setLine l f).lines.map Line.dark = r.lines.map Line.dark := Tab.map_modify _ _ _ _ (h _)

theorem Room.setFb_tripFacts (r : Room) (n : Seat) (f : FbSeat → FbSeat) (h : ∀ x, (f x).facts = x.facts) :
    (r.setFb n f).fb.seats.map FbSeat.facts = r.fb.seats.map FbSeat.facts := by
  apply Tab.map_modify
  rw [FbSeat.settled]
  split
  · split
    · exact h _
    · exact h _
  · exact h _

theorem Room.setMuteSeat_flagFacts (r : Room) (n : Seat) (f : MuteSeat → MuteSeat) (h : ∀ x, (f x).facts = x.facts) :
    (r.setMuteSeat n f).mute.seats.map MuteSeat.facts = r.mute.seats.map MuteSeat.facts := Tab.map_modify _ _ _ _ (h _)

theorem Room.setDet_detSettings (r : Room) (n : Seat) (f : Detector → Detector)
    (h : (f (r.det.get n)).settings = (r.det.get n).settings) :
    (r.setDet n f).det.map Detector.settings = r.det.map Detector.settings := Tab.map_modify _ _ _ Detector.settings h

/-! ## The primitive updates keep the parts of the blocks -/

@[simp] theorem Room.setSeat_parts (r : Room) (n : Seat) (f : FloorSeat → FloorSeat) :
    (r.setSeat n f).floor.settings = r.floor.settings ∧ (r.setSeat n f).floor.standby = r.floor.standby
    ∧ (r.setSeat n f).floor.openList = r.floor.openList ∧ (r.setSeat n f).floor.waitList = r.floor.waitList
    ∧ (r.setSeat n f).floor.queue = r.floor.queue :=
  ⟨rfl, rfl, rfl, rfl, rfl⟩

@[simp] theorem Room.unlist_parts (r : Room) (n : Seat) :
    (r.unlist n).floor.settings = r.floor.settings ∧ (r.unlist n).floor.standby = r.floor.standby
    ∧ (r.unlist n).floor.seats = r.floor.seats :=
  ⟨rfl, rfl, rfl⟩

@[simp] theorem Room.setMuteSeat_parts (r : Room) (n : Seat) (f : MuteSeat → MuteSeat) :
    (r.setMuteSeat n f).mute.table = r.mute.table ∧ (r.setMuteSeat n f).mute.stamp = r.mute.stamp
    ∧ (r.setMuteSeat n f).mute.linkIdle = r.mute.linkIdle ∧ (r.setMuteSeat n f).mute.eff = r.mute.eff
    ∧ (r.setMuteSeat n f).mute.links = r.mute.links :=
  ⟨rfl, rfl, rfl, rfl, rfl⟩

@[simp] theorem Room.addClaim_parts (r : Room) (i : Fin 48) (w : Claimant) (c : Scope) (d : Dir) (x : Option Nat) :
    (r.addClaim i w c d x).mute.seats.map MuteSeat.facts = r.mute.seats.map MuteSeat.facts
    ∧ (r.addClaim i w c d x).mute.linkIdle = r.mute.linkIdle ∧ (r.addClaim i w c d x).mute.seats = r.mute.seats
    ∧ (r.addClaim i w c d x).mute.eff = r.mute.eff ∧ (r.addClaim i w c d x).mute.links = r.mute.links :=
  ⟨rfl, rfl, rfl, rfl, rfl⟩

@[simp] theorem Room.dropClaim_parts (r : Room) (i : Fin 48) :
    (r.dropClaim i).mute.seats.map MuteSeat.facts = r.mute.seats.map MuteSeat.facts
    ∧ (r.dropClaim i).mute.linkIdle = r.mute.linkIdle ∧ (r.dropClaim i).mute.seats = r.mute.seats
    ∧ (r.dropClaim i).mute.eff = r.mute.eff ∧ (r.dropClaim i).mute.links = r.mute.links
    ∧ (r.dropClaim i).mute.stamp = r.mute.stamp :=
  ⟨rfl, rfl, rfl, rfl, rfl, rfl⟩

@[simp] theorem Room.setExpiry_parts (r : Room) (i : Fin 48) (x : Option Nat) :
    (r.setExpiry i x).mute.seats.map MuteSeat.facts = r.mute.seats.map MuteSeat.facts
    ∧ (r.setExpiry i x).mute.linkIdle = r.mute.linkIdle ∧ (r.setExpiry i x).mute.seats = r.mute.seats
    ∧ (r.setExpiry i x).mute.eff = r.mute.eff ∧ (r.setExpiry i x).mute.links = r.mute.links
    ∧ (r.setExpiry i x).mute.stamp = r.mute.stamp :=
  ⟨rfl, rfl, rfl, rfl, rfl, rfl⟩

@[simp] theorem Room.linkLeftIdle_parts (r : Room) (k : Link) :
    (r.linkLeftIdle k).mute.seats.map MuteSeat.facts = r.mute.seats.map MuteSeat.facts
    ∧ (r.linkLeftIdle k).mute.table = r.mute.table ∧ (r.linkLeftIdle k).mute.stamp = r.mute.stamp
    ∧ (r.linkLeftIdle k).mute.seats = r.mute.seats ∧ (r.linkLeftIdle k).mute.eff = r.mute.eff
    ∧ (r.linkLeftIdle k).mute.links = r.mute.links :=
  ⟨rfl, rfl, rfl, rfl, rfl, rfl⟩

@[simp] theorem Room.setLink_parts (r : Room) (k : Link) (f : LinkRec → LinkRec) :
    (r.setLink k f).link.call = r.link.call ∧ (r.setLink k f).link.delay = r.link.delay
    ∧ (r.setLink k f).link.timer = r.link.timer :=
  ⟨rfl, rfl, rfl⟩

@[simp] theorem Room.setDelay_parts (r : Room) (d : Nat) :
    (r.setDelay d).link.call = r.link.call ∧ (r.setDelay d).link.links = r.link.links :=
  ⟨rfl, rfl⟩

@[simp] theorem Room.setFb_parts (r : Room) (n : Seat) (f : FbSeat → FbSeat) :
    (r.setFb n f).fb.settings = r.fb.settings :=
  rfl

@[simp] theorem Room.setFeedback_parts (r : Room) (s : FbSettings) :
    (r.setFeedback s).fb.seats.map FbSeat.facts = r.fb.seats.map FbSeat.facts
    ∧ (r.setFeedback s).fb.seats = r.fb.seats :=
  ⟨rfl, rfl⟩

@[simp] theorem Room.pendSwitch_parts (r : Room) (l : LockMode) :
    (r.pendSwitch l).map.running = r.map.running ∧ (r.pendSwitch l).map.staged = r.map.staged
    ∧ (r.pendSwitch l).map.groups = r.map.groups ∧ (r.pendSwitch l).map.waitLimit = r.map.waitLimit
    ∧ (r.pendSwitch l).map.quiet = r.map.quiet :=
  ⟨rfl, rfl, rfl, rfl, rfl⟩

@[simp] theorem Room.cancelSwitch_parts (r : Room) :
    (r.cancelSwitch).map.running = r.map.running ∧ (r.cancelSwitch).map.staged = r.map.staged
    ∧ (r.cancelSwitch).map.groups = r.map.groups ∧ (r.cancelSwitch).map.waitLimit = r.map.waitLimit
    ∧ (r.cancelSwitch).map.quiet = r.map.quiet :=
  ⟨rfl, rfl, rfl, rfl, rfl⟩

@[simp] theorem Room.setQuiet_parts (r : Room) (q : Bool) :
    (r.setQuiet q).map.running = r.map.running ∧ (r.setQuiet q).map.staged = r.map.staged
    ∧ (r.setQuiet q).map.groups = r.map.groups ∧ (r.setQuiet q).map.waitLimit = r.map.waitLimit
    ∧ (r.setQuiet q).map.switch = r.map.switch :=
  ⟨rfl, rfl, rfl, rfl, rfl⟩

/-! ## The Mix Engine -/

@[simp] theorem Mix.setComp_keeps (m : Mix) (id : CompId) (c : Comp) :
    (m.setComp id c).settings = m.settings ∧ (m.setComp id c).standby = m.standby
      ∧ (m.setComp id c).players = m.players ∧ (m.setComp id c).countIn = m.countIn := by
  cases id <;> exact ⟨rfl, rfl, rfl, rfl⟩

@[simp] theorem Room.move_keeps (r : Room) (id : CompId) (g : Gain) (ms : Nat) :
    (r.move id g ms).map = r.map ∧ (r.move id g ms).lines = r.lines ∧ (r.move id g ms).det = r.det
    ∧ (r.move id g ms).mute = r.mute ∧ (r.move id g ms).floor = r.floor ∧ (r.move id g ms).link = r.link
    ∧ (r.move id g ms).fb = r.fb ∧ (r.move id g ms).store = r.store ∧ (r.move id g ms).out = r.out
    ∧ (r.move id g ms).box = r.box ∧ (r.move id g ms).mix.settings = r.mix.settings
    ∧ (r.move id g ms).mix.standby = r.mix.standby ∧ (r.move id g ms).mix.players = r.mix.players
    ∧ (r.move id g ms).mix.countIn = r.mix.countIn := by
  unfold Room.move
  dsimp only
  split
  · simp
  · simp

/-! ### The step notices -/

theorem stepped_settings (d : Detector) (p q : Bool) :
    (if q then (if p then d.riseNotice else d).fallNotice else (if p then d.riseNotice else d)).settings
      = d.settings := by
  have h1 : ∀ d : Detector, d.riseNotice.settings = d.settings := fun d => by
    unfold Detector.riseNotice
    split <;> rfl
  have h2 : ∀ d : Detector, d.fallNotice.settings = d.settings := fun d => by
    unfold Detector.fallNotice
    split <;> rfl
  cases p <;> cases q <;> simp [h1, h2]

@[simp] theorem Room.judge_keeps (r : Room) :
    (r.judge).map = r.map ∧ (r.judge).lines = r.lines ∧ (r.judge).mute = r.mute ∧ (r.judge).floor = r.floor
    ∧ (r.judge).mix = r.mix ∧ (r.judge).link = r.link ∧ (r.judge).fb = r.fb ∧ (r.judge).store = r.store
    ∧ (r.judge).out = r.out ∧ (r.judge).box = r.box
    ∧ (r.judge).det.map Detector.settings = r.det.map Detector.settings := by
  unfold Room.judge
  split
  · simp
  · simp
    apply Tab.ext_get
    intro n
    simp only [Tab.get_map, Tab.get_mapFin]
    exact stepped_settings _ _ _

theorem Room.judge_begun (r : Room) : r.judge.begun = [] := by
  unfold Room.judge
  split
  · simpa using ‹r.begun.isEmpty = true›
  · rfl

theorem Room.judge_idle (r : Room) (h : r.begun = []) : r.judge = r := by
  unfold Room.judge
  simp [h]

@[simp] theorem Room.ramp_keeps (r : Room) (id : CompId) (g : Gain) (ms : Nat) :
    (r.ramp id g ms).map = r.map ∧ (r.ramp id g ms).lines = r.lines ∧ (r.ramp id g ms).mute = r.mute
    ∧ (r.ramp id g ms).floor = r.floor ∧ (r.ramp id g ms).link = r.link ∧ (r.ramp id g ms).fb = r.fb
    ∧ (r.ramp id g ms).store = r.store ∧ (r.ramp id g ms).out = r.out ∧ (r.ramp id g ms).box = r.box
    ∧ (r.ramp id g ms).mix.settings = r.mix.settings ∧ (r.ramp id g ms).mix.standby = r.mix.standby
    ∧ (r.ramp id g ms).det.map Detector.settings = r.det.map Detector.settings
    ∧ (r.ramp id g ms).mix.players = r.mix.players ∧ (r.ramp id g ms).mix.countIn = r.mix.countIn := by
  simp [Room.ramp]

@[simp] theorem Room.mixMic_keeps (r : Room) (n : Seat) (b : Bool) :
    (r.mixMic n b).map = r.map ∧ (r.mixMic n b).lines = r.lines ∧ (r.mixMic n b).mute = r.mute
    ∧ (r.mixMic n b).floor = r.floor ∧ (r.mixMic n b).link = r.link ∧ (r.mixMic n b).fb = r.fb
    ∧ (r.mixMic n b).store = r.store ∧ (r.mixMic n b).out = r.out ∧ (r.mixMic n b).box = r.box
    ∧ (r.mixMic n b).mix.settings = r.mix.settings ∧ (r.mixMic n b).mix.standby = r.mix.standby
    ∧ (r.mixMic n b).det.map Detector.settings = r.det.map Detector.settings := by
  unfold Room.mixMic
  try dsimp only
  repeat' split
  all_goals simp

@[simp] theorem Room.fbLive_keeps (r : Room) (n : Seat) :
    (r.fbLive n).map = r.map ∧ (r.fbLive n).lines = r.lines ∧ (r.fbLive n).det = r.det
    ∧ (r.fbLive n).mute = r.mute ∧ (r.fbLive n).floor = r.floor ∧ (r.fbLive n).mix = r.mix
    ∧ (r.fbLive n).link = r.link ∧ (r.fbLive n).store = r.store ∧ (r.fbLive n).out = r.out
    ∧ (r.fbLive n).box = r.box ∧ (r.fbLive n).begun = r.begun ∧ (r.fbLive n).fb.settings = r.fb.settings
    ∧ (r.fbLive n).fb.seats.map FbSeat.facts = r.fb.seats.map FbSeat.facts := by
  unfold Room.fbLive
  simp 
  exact Room.setFb_tripFacts _ _ _ fun _ => rfl

@[simp] theorem Room.fbOff_keeps (r : Room) (n : Seat) :
    (r.fbOff n).map = r.map ∧ (r.fbOff n).lines = r.lines ∧ (r.fbOff n).det = r.det
    ∧ (r.fbOff n).mute = r.mute ∧ (r.fbOff n).floor = r.floor ∧ (r.fbOff n).mix = r.mix
    ∧ (r.fbOff n).link = r.link ∧ (r.fbOff n).store = r.store ∧ (r.fbOff n).out = r.out
    ∧ (r.fbOff n).box = r.box ∧ (r.fbOff n).begun = r.begun ∧ (r.fbOff n).fb.settings = r.fb.settings
    ∧ (r.fbOff n).fb.seats.map FbSeat.facts = r.fb.seats.map FbSeat.facts := by
  unfold Room.fbOff
  simp 
  exact Room.setFb_tripFacts _ _ _ fun _ => rfl

@[simp] theorem Room.mixSpeaker_keeps (r : Room) (n : Seat) (b : Bool) (c : Cause) :
    (r.mixSpeaker n b c).map = r.map ∧ (r.mixSpeaker n b c).lines = r.lines
    ∧ (r.mixSpeaker n b c).mute = r.mute ∧ (r.mixSpeaker n b c).floor = r.floor
    ∧ (r.mixSpeaker n b c).link = r.link ∧ (r.mixSpeaker n b c).store = r.store
    ∧ (r.mixSpeaker n b c).out = r.out ∧ (r.mixSpeaker n b c).box = r.box
    ∧ (r.mixSpeaker n b c).mix.settings = r.mix.settings ∧ (r.mixSpeaker n b c).mix.standby = r.mix.standby
    ∧ (r.mixSpeaker n b c).det.map Detector.settings = r.det.map Detector.settings
    ∧ (r.mixSpeaker n b c).fb.settings = r.fb.settings
    ∧ (r.mixSpeaker n b c).fb.seats.map FbSeat.facts = r.fb.seats.map FbSeat.facts := by
  unfold Room.mixSpeaker
  try dsimp only
  repeat' split
  all_goals simp

@[simp] theorem Room.mixLink_keeps (r : Room) (k : Link) (d : Dir) (b : Bool) :
    (r.mixLink k d b).map = r.map ∧ (r.mixLink k d b).lines = r.lines ∧ (r.mixLink k d b).mute = r.mute
    ∧ (r.mixLink k d b).floor = r.floor ∧ (r.mixLink k d b).link = r.link ∧ (r.mixLink k d b).fb = r.fb
    ∧ (r.mixLink k d b).store = r.store ∧ (r.mixLink k d b).out = r.out ∧ (r.mixLink k d b).box = r.box
    ∧ (r.mixLink k d b).mix.settings = r.mix.settings ∧ (r.mixLink k d b).mix.standby = r.mix.standby
    ∧ (r.mixLink k d b).det.map Detector.settings = r.det.map Detector.settings := by
  unfold Room.mixLink
  try dsimp only
  repeat' split
  all_goals simp

@[simp] theorem Room.mixGate_keeps (r : Room) (n : Seat) (b : Bool) :
    (r.mixGate n b).map = r.map ∧ (r.mixGate n b).lines = r.lines ∧ (r.mixGate n b).mute = r.mute
    ∧ (r.mixGate n b).floor = r.floor ∧ (r.mixGate n b).link = r.link ∧ (r.mixGate n b).fb = r.fb
    ∧ (r.mixGate n b).store = r.store ∧ (r.mixGate n b).out = r.out ∧ (r.mixGate n b).box = r.box
    ∧ (r.mixGate n b).mix.settings = r.mix.settings ∧ (r.mixGate n b).mix.standby = r.mix.standby
    ∧ (r.mixGate n b).det.map Detector.settings = r.det.map Detector.settings := by
  unfold Room.mixGate
  try dsimp only
  repeat' split
  all_goals simp

@[simp] theorem Room.mixCount_keeps (r : Room) (n : Nat) :
    (r.mixCount n).map = r.map ∧ (r.mixCount n).lines = r.lines ∧ (r.mixCount n).mute = r.mute
    ∧ (r.mixCount n).floor = r.floor ∧ (r.mixCount n).link = r.link ∧ (r.mixCount n).fb = r.fb
    ∧ (r.mixCount n).store = r.store ∧ (r.mixCount n).out = r.out ∧ (r.mixCount n).box = r.box
    ∧ (r.mixCount n).mix.settings = r.mix.settings ∧ (r.mixCount n).mix.standby = r.mix.standby
    ∧ (r.mixCount n).det.map Detector.settings = r.det.map Detector.settings := by
  unfold Room.mixCount
  simp

@[simp] theorem Room.mixOffset_keeps (r : Room) (n : Seat) (o : Int) :
    (r.mixOffset n o).map = r.map ∧ (r.mixOffset n o).lines = r.lines ∧ (r.mixOffset n o).mute = r.mute
    ∧ (r.mixOffset n o).floor = r.floor ∧ (r.mixOffset n o).link = r.link ∧ (r.mixOffset n o).fb = r.fb
    ∧ (r.mixOffset n o).store = r.store ∧ (r.mixOffset n o).out = r.out ∧ (r.mixOffset n o).box = r.box
    ∧ (r.mixOffset n o).mix.settings = r.mix.settings ∧ (r.mixOffset n o).mix.standby = r.mix.standby
    ∧ (r.mixOffset n o).det.map Detector.settings = r.det.map Detector.settings := by
  unfold Room.mixOffset
  try dsimp only
  repeat' split
  all_goals simp

@[simp] theorem Room.tone_keeps (r : Room) (n : Seat) (t : Tone) :
    (r.tone n t).map = r.map ∧ (r.tone n t).lines = r.lines ∧ (r.tone n t).mute = r.mute
    ∧ (r.tone n t).floor = r.floor ∧ (r.tone n t).link = r.link ∧ (r.tone n t).fb = r.fb
    ∧ (r.tone n t).store = r.store ∧ (r.tone n t).out = r.out ∧ (r.tone n t).box = r.box
    ∧ (r.tone n t).mix.settings = r.mix.settings ∧ (r.tone n t).mix.standby = r.mix.standby
    ∧ (r.tone n t).det.map Detector.settings = r.det.map Detector.settings := by
  unfold Room.tone
  split <;> simp

@[simp] theorem Room.fadeTone_keeps (r : Room) (n : Seat) :
    (r.fadeTone n).map = r.map ∧ (r.fadeTone n).lines = r.lines ∧ (r.fadeTone n).det = r.det
    ∧ (r.fadeTone n).mute = r.mute ∧ (r.fadeTone n).floor = r.floor ∧ (r.fadeTone n).link = r.link
    ∧ (r.fadeTone n).fb = r.fb ∧ (r.fadeTone n).store = r.store ∧ (r.fadeTone n).out = r.out
    ∧ (r.fadeTone n).box = r.box ∧ (r.fadeTone n).mix.settings = r.mix.settings
    ∧ (r.fadeTone n).mix.standby = r.mix.standby := by
  unfold Room.fadeTone
  try dsimp only
  repeat' split
  all_goals simp

@[simp] theorem Room.fadeTones_keeps (r : Room) :
    (r.fadeTones).map = r.map ∧ (r.fadeTones).lines = r.lines ∧ (r.fadeTones).det = r.det
    ∧ (r.fadeTones).mute = r.mute ∧ (r.fadeTones).floor = r.floor ∧ (r.fadeTones).link = r.link
    ∧ (r.fadeTones).fb = r.fb ∧ (r.fadeTones).store = r.store ∧ (r.fadeTones).out = r.out
    ∧ (r.fadeTones).box = r.box ∧ (r.fadeTones).mix.settings = r.mix.settings
    ∧ (r.fadeTones).mix.standby = r.mix.standby := by
  unfold Room.fadeTones
  have h := foldl_keeps (π := fun r : Room => (r.map, r.lines, r.det, r.mute, r.floor, r.link, r.fb, r.store, r.out, r.box, r.mix.settings, r.mix.standby))
    Room.fadeTone (fun r x => by
      try dsimp only
      repeat' split
      all_goals simp) allSeats r
  simpa only [Prod.mk.injEq] using h

@[simp] theorem Room.mixRest_keeps (r : Room) :
    (r.mixRest).map = r.map ∧ (r.mixRest).lines = r.lines ∧ (r.mixRest).mute = r.mute
    ∧ (r.mixRest).floor = r.floor ∧ (r.mixRest).link = r.link ∧ (r.mixRest).fb = r.fb
    ∧ (r.mixRest).store = r.store ∧ (r.mixRest).out = r.out ∧ (r.mixRest).box = r.box
    ∧ (r.mixRest).mix.settings = r.mix.settings
    ∧ (r.mixRest).det.map Detector.settings = r.det.map Detector.settings := by
  unfold Room.mixRest
  simp

@[simp] theorem Room.mixWake_keeps (r : Room) :
    (r.mixWake).map = r.map ∧ (r.mixWake).lines = r.lines ∧ (r.mixWake).mute = r.mute
    ∧ (r.mixWake).floor = r.floor ∧ (r.mixWake).link = r.link ∧ (r.mixWake).fb = r.fb
    ∧ (r.mixWake).store = r.store ∧ (r.mixWake).out = r.out ∧ (r.mixWake).box = r.box
    ∧ (r.mixWake).mix.settings = r.mix.settings
    ∧ (r.mixWake).det.map Detector.settings = r.det.map Detector.settings := by
  unfold Room.mixWake
  simp

@[simp] theorem Room.aimMics_keeps (r : Room) (ms : Nat) :
    (r.aimMics ms).map = r.map ∧ (r.aimMics ms).lines = r.lines ∧ (r.aimMics ms).det = r.det
    ∧ (r.aimMics ms).mute = r.mute ∧ (r.aimMics ms).floor = r.floor ∧ (r.aimMics ms).link = r.link
    ∧ (r.aimMics ms).fb = r.fb ∧ (r.aimMics ms).store = r.store ∧ (r.aimMics ms).out = r.out
    ∧ (r.aimMics ms).box = r.box ∧ (r.aimMics ms).mix.settings = r.mix.settings
    ∧ (r.aimMics ms).mix.standby = r.mix.standby := by
  unfold Room.aimMics
  have h := foldl_keeps (π := fun r : Room => (r.map, r.lines, r.det, r.mute, r.floor, r.link, r.fb, r.store, r.out, r.box, r.mix.settings, r.mix.standby))
    (fun r n => allSeats.foldl (fun r m =>
      if n = m then r else r.move (.classMic n m) (micLevel r.map.running r.mix.settings n m) ms) r)
    (fun r n => foldl_keeps (π := fun r : Room => (r.map, r.lines, r.det, r.mute, r.floor, r.link, r.fb, r.store, r.out, r.box, r.mix.settings, r.mix.standby)) _
      (fun r m => by split <;> simp) _ _) allSeats r
  simpa only [Prod.mk.injEq] using h

@[simp] theorem Room.aimSources_keeps (r : Room) (ms : Nat) :
    (r.aimSources ms).map = r.map ∧ (r.aimSources ms).lines = r.lines ∧ (r.aimSources ms).det = r.det
    ∧ (r.aimSources ms).mute = r.mute ∧ (r.aimSources ms).floor = r.floor ∧ (r.aimSources ms).link = r.link
    ∧ (r.aimSources ms).fb = r.fb ∧ (r.aimSources ms).store = r.store ∧ (r.aimSources ms).out = r.out
    ∧ (r.aimSources ms).box = r.box ∧ (r.aimSources ms).mix.settings = r.mix.settings
    ∧ (r.aimSources ms).mix.standby = r.mix.standby := by
  unfold Room.aimSources
  have h := foldl_keeps (π := fun r : Room => (r.map, r.lines, r.det, r.mute, r.floor, r.link, r.fb, r.store, r.out, r.box, r.mix.settings, r.mix.standby))
    (fun (r : Room) i => r.move (.sourceTrim i) (halfDb (r.mix.settings.srcTrim.get i)) ms) (fun r x => by
      try dsimp only
      repeat' split
      all_goals simp) allTrims r
  simpa only [Prod.mk.injEq] using h

@[simp] theorem Room.aimBuses_keeps (r : Room) (ms : Nat) :
    (r.aimBuses ms).map = r.map ∧ (r.aimBuses ms).lines = r.lines ∧ (r.aimBuses ms).det = r.det
    ∧ (r.aimBuses ms).mute = r.mute ∧ (r.aimBuses ms).floor = r.floor ∧ (r.aimBuses ms).link = r.link
    ∧ (r.aimBuses ms).fb = r.fb ∧ (r.aimBuses ms).store = r.store ∧ (r.aimBuses ms).out = r.out
    ∧ (r.aimBuses ms).box = r.box ∧ (r.aimBuses ms).mix.settings = r.mix.settings
    ∧ (r.aimBuses ms).mix.standby = r.mix.standby := by
  unfold Room.aimBuses
  have h := foldl_keeps (π := fun r : Room => (r.map, r.lines, r.det, r.mute, r.floor, r.link, r.fb, r.store, r.out, r.box, r.mix.settings, r.mix.standby))
    (fun (r : Room) i => r.move (.busTrim i) (halfDb (r.mix.settings.busTrim.get i)) ms) (fun r x => by
      try dsimp only
      repeat' split
      all_goals simp) allTrims r
  simpa only [Prod.mk.injEq] using h

@[simp] theorem Room.aimAll_keeps (r : Room) (ms : Nat) :
    (r.aimAll ms).map = r.map ∧ (r.aimAll ms).lines = r.lines ∧ (r.aimAll ms).det = r.det
    ∧ (r.aimAll ms).mute = r.mute ∧ (r.aimAll ms).floor = r.floor ∧ (r.aimAll ms).link = r.link
    ∧ (r.aimAll ms).fb = r.fb ∧ (r.aimAll ms).store = r.store ∧ (r.aimAll ms).out = r.out
    ∧ (r.aimAll ms).box = r.box ∧ (r.aimAll ms).mix.settings = r.mix.settings
    ∧ (r.aimAll ms).mix.standby = r.mix.standby := by
  simp [Room.aimAll]

@[simp] theorem Room.aimTone_keeps (r : Room) (v : Int) (n : Seat) :
    (r.aimTone v n).map = r.map ∧ (r.aimTone v n).lines = r.lines ∧ (r.aimTone v n).det = r.det
    ∧ (r.aimTone v n).mute = r.mute ∧ (r.aimTone v n).floor = r.floor ∧ (r.aimTone v n).link = r.link
    ∧ (r.aimTone v n).fb = r.fb ∧ (r.aimTone v n).store = r.store ∧ (r.aimTone v n).out = r.out
    ∧ (r.aimTone v n).box = r.box ∧ (r.aimTone v n).mix.settings = r.mix.settings
    ∧ (r.aimTone v n).mix.standby = r.mix.standby := by
  unfold Room.aimTone
  repeat' split
  · simp
  · simp
  · simp

theorem Room.aimTones_keeps (r : Room) (v : Int) (l : List Seat) :
    let t := l.foldl (fun r n => r.aimTone v n) r
    t.map = r.map ∧ t.lines = r.lines ∧ t.det = r.det ∧ t.mute = r.mute ∧ t.floor = r.floor ∧ t.link = r.link ∧ t.fb = r.fb ∧ t.store = r.store ∧ t.out = r.out ∧ t.box = r.box ∧ t.mix.settings = r.mix.settings ∧ t.mix.standby = r.mix.standby := by
  have h := foldl_keeps (π := fun r : Room => (r.map, r.lines, r.det, r.mute, r.floor, r.link, r.fb, r.store, r.out, r.box, r.mix.settings, r.mix.standby)) (fun (r : Room) n => r.aimTone v n) (fun r x => by simp) l r
  simpa only [Prod.mk.injEq] using h

@[simp] theorem Room.setTones_keeps (r : Room) (b : Bool) (v : Int) :
    (r.setTones b v).map = r.map ∧ (r.setTones b v).lines = r.lines ∧ (r.setTones b v).det = r.det
    ∧ (r.setTones b v).mute = r.mute ∧ (r.setTones b v).floor = r.floor ∧ (r.setTones b v).link = r.link
    ∧ (r.setTones b v).fb = r.fb ∧ (r.setTones b v).store = r.store ∧ (r.setTones b v).out = r.out
    ∧ (r.setTones b v).box = r.box ∧ (r.setTones b v).mix.standby = r.mix.standby := by
  unfold Room.setTones
  dsimp only
  split <;> simp [Room.aimTones_keeps]

@[simp] theorem Room.setMix_keeps (r : Room) (s : MixSettings) (ms : Nat) :
    (r.setMix s ms).map = r.map ∧ (r.setMix s ms).lines = r.lines ∧ (r.setMix s ms).det = r.det
    ∧ (r.setMix s ms).mute = r.mute ∧ (r.setMix s ms).floor = r.floor ∧ (r.setMix s ms).link = r.link
    ∧ (r.setMix s ms).fb = r.fb ∧ (r.setMix s ms).store = r.store ∧ (r.setMix s ms).out = r.out
    ∧ (r.setMix s ms).box = r.box ∧ (r.setMix s ms).mix.standby = r.mix.standby := by
  simp [Room.setMix]

@[simp] theorem Room.recallMix_keeps (r : Room) (s : MixSettings) :
    (r.recallMix s).map = r.map ∧ (r.recallMix s).lines = r.lines ∧ (r.recallMix s).mute = r.mute
    ∧ (r.recallMix s).floor = r.floor ∧ (r.recallMix s).link = r.link ∧ (r.recallMix s).fb = r.fb
    ∧ (r.recallMix s).store = r.store ∧ (r.recallMix s).out = r.out ∧ (r.recallMix s).box = r.box
    ∧ (r.recallMix s).mix.standby = r.mix.standby
    ∧ (r.recallMix s).det.map Detector.settings = r.det.map Detector.settings := by
  simp [Room.recallMix]

/-! ## Indications -/

theorem Pod.composed_facts (p : Pod) (lit : Bool) : (p.composed lit).facts = p.facts := by
  cases lit <;> rfl

@[simp] theorem Room.compose_keeps (r : Room) (p : PodPos) :
    (r.compose p).map = r.map ∧ (r.compose p).det = r.det ∧ (r.compose p).mute = r.mute
    ∧ (r.compose p).floor = r.floor ∧ (r.compose p).mix = r.mix ∧ (r.compose p).link = r.link
    ∧ (r.compose p).fb = r.fb ∧ (r.compose p).store = r.store ∧ (r.compose p).out = r.out
    ∧ (r.compose p).box = r.box ∧ (r.compose p).begun = r.begun
    ∧ (r.compose p).lines.map Line.facts = r.lines.map Line.facts
    ∧ (r.compose p).lines.map Line.dark = r.lines.map Line.dark := by
  unfold Room.compose
  simp
  exact Room.setPod_lineFacts _ _ _ fun _ => Pod.composed_facts _ _

@[simp] theorem Room.refresh_keeps (r : Room) (p : PodPos) :
    (r.refresh p).map = r.map ∧ (r.refresh p).det = r.det ∧ (r.refresh p).mute = r.mute
    ∧ (r.refresh p).floor = r.floor ∧ (r.refresh p).mix = r.mix ∧ (r.refresh p).link = r.link
    ∧ (r.refresh p).fb = r.fb ∧ (r.refresh p).store = r.store ∧ (r.refresh p).out = r.out
    ∧ (r.refresh p).box = r.box ∧ (r.refresh p).begun = r.begun
    ∧ (r.refresh p).lines.map Line.facts = r.lines.map Line.facts
    ∧ (r.refresh p).lines.map Line.dark = r.lines.map Line.dark := by
  unfold Room.refresh
  split
  · simp
    exact Room.setPod_lineFacts _ _ _ fun _ => rfl
  · simp

@[simp] theorem Room.tell_keeps (r : Room) (n : Seat) (f : View → View) :
    (r.tell n f).map = r.map ∧ (r.tell n f).det = r.det ∧ (r.tell n f).mute = r.mute
    ∧ (r.tell n f).floor = r.floor ∧ (r.tell n f).mix = r.mix ∧ (r.tell n f).link = r.link
    ∧ (r.tell n f).fb = r.fb ∧ (r.tell n f).store = r.store ∧ (r.tell n f).out = r.out
    ∧ (r.tell n f).box = r.box ∧ (r.tell n f).begun = r.begun
    ∧ (r.tell n f).lines.map Line.facts = r.lines.map Line.facts
    ∧ (r.tell n f).lines.map Line.dark = r.lines.map Line.dark := by
  unfold Room.tell
  split
  · simp
  · split
    · simp
      exact Room.setPod_lineFacts _ _ _ fun _ => rfl
    · simp

@[simp] theorem Room.refuseLamp_keeps (r : Room) (n : Seat) :
    (r.refuseLamp n).map = r.map ∧ (r.refuseLamp n).det = r.det ∧ (r.refuseLamp n).mute = r.mute
    ∧ (r.refuseLamp n).floor = r.floor ∧ (r.refuseLamp n).mix = r.mix ∧ (r.refuseLamp n).link = r.link
    ∧ (r.refuseLamp n).fb = r.fb ∧ (r.refuseLamp n).store = r.store ∧ (r.refuseLamp n).out = r.out
    ∧ (r.refuseLamp n).box = r.box ∧ (r.refuseLamp n).begun = r.begun
    ∧ (r.refuseLamp n).lines.map Line.facts = r.lines.map Line.facts
    ∧ (r.refuseLamp n).lines.map Line.dark = r.lines.map Line.dark := by
  unfold Room.refuseLamp
  dsimp only
  split
  · simp
  · split
    · simp
      exact Room.setPod_lineFacts _ _ _ fun _ => rfl
    · simp

@[simp] theorem Room.floorView_keeps (r : Room) (n : Seat) (g : GateState) :
    (r.floorView n g).map = r.map ∧ (r.floorView n g).det = r.det ∧ (r.floorView n g).mute = r.mute
    ∧ (r.floorView n g).floor = r.floor ∧ (r.floorView n g).mix = r.mix ∧ (r.floorView n g).link = r.link
    ∧ (r.floorView n g).fb = r.fb ∧ (r.floorView n g).store = r.store ∧ (r.floorView n g).out = r.out
    ∧ (r.floorView n g).box = r.box ∧ (r.floorView n g).begun = r.begun
    ∧ (r.floorView n g).lines.map Line.facts = r.lines.map Line.facts
    ∧ (r.floorView n g).lines.map Line.dark = r.lines.map Line.dark := by
  unfold Room.floorView
  try dsimp only
  repeat' split
  all_goals simp

@[simp] theorem Room.roomView_keeps (r : Room) (n : Seat) (b : Bool) :
    (r.roomView n b).map = r.map ∧ (r.roomView n b).det = r.det ∧ (r.roomView n b).mute = r.mute
    ∧ (r.roomView n b).floor = r.floor ∧ (r.roomView n b).mix = r.mix ∧ (r.roomView n b).link = r.link
    ∧ (r.roomView n b).fb = r.fb ∧ (r.roomView n b).store = r.store ∧ (r.roomView n b).out = r.out
    ∧ (r.roomView n b).box = r.box ∧ (r.roomView n b).begun = r.begun
    ∧ (r.roomView n b).lines.map Line.facts = r.lines.map Line.facts
    ∧ (r.roomView n b).lines.map Line.dark = r.lines.map Line.dark := by
  unfold Room.roomView
  try dsimp only
  repeat' split
  all_goals simp

@[simp] theorem Room.reposition_keeps (r : Room) (p : PodPos) :
    (r.reposition p).map = r.map ∧ (r.reposition p).det = r.det ∧ (r.reposition p).mute = r.mute
    ∧ (r.reposition p).floor = r.floor ∧ (r.reposition p).mix = r.mix ∧ (r.reposition p).link = r.link
    ∧ (r.reposition p).fb = r.fb ∧ (r.reposition p).store = r.store ∧ (r.reposition p).out = r.out
    ∧ (r.reposition p).box = r.box ∧ (r.reposition p).begun = r.begun
    ∧ (r.reposition p).lines.map Line.facts = r.lines.map Line.facts
    ∧ (r.reposition p).lines.map Line.dark = r.lines.map Line.dark := by
  unfold Room.reposition
  simp
  exact Room.setPod_lineFacts _ _ _ fun _ => rfl

/-! ## The floor -/

@[simp] theorem Room.activity_keeps (r : Room) :
    (r.activity).map = r.map ∧ (r.activity).lines = r.lines ∧ (r.activity).det = r.det
    ∧ (r.activity).mute = r.mute ∧ (r.activity).floor = r.floor ∧ (r.activity).mix = r.mix
    ∧ (r.activity).fb = r.fb ∧ (r.activity).store = r.store ∧ (r.activity).out = r.out
    ∧ (r.activity).box = r.box ∧ (r.activity).begun = r.begun ∧ (r.activity).link.links = r.link.links
    ∧ (r.activity).link.call = r.link.call ∧ (r.activity).link.delay = r.link.delay := by
  unfold Room.activity
  try dsimp only
  repeat' split
  all_goals simp

@[simp] theorem Room.closeSeat_keeps (r : Room) (n : Seat) (why : Reason) :
    (r.closeSeat n why).map = r.map ∧ (r.closeSeat n why).mute = r.mute ∧ (r.closeSeat n why).link = r.link
    ∧ (r.closeSeat n why).fb = r.fb ∧ (r.closeSeat n why).store = r.store ∧ (r.closeSeat n why).box = r.box
    ∧ (r.closeSeat n why).floor.settings = r.floor.settings
    ∧ (r.closeSeat n why).floor.standby = r.floor.standby ∧ (r.closeSeat n why).mix.settings = r.mix.settings
    ∧ (r.closeSeat n why).mix.standby = r.mix.standby
    ∧ (r.closeSeat n why).lines.map Line.facts = r.lines.map Line.facts
    ∧ (r.closeSeat n why).lines.map Line.dark = r.lines.map Line.dark
    ∧ (r.closeSeat n why).det.map Detector.settings = r.det.map Detector.settings := by
  unfold Room.closeSeat
  try dsimp only
  repeat' split
  all_goals simp

@[simp] theorem Room.emitAdmitted_keeps (r : Room) (n : Seat) (g : GateState) :
    (r.emitAdmitted n g).map = r.map ∧ (r.emitAdmitted n g).lines = r.lines
    ∧ (r.emitAdmitted n g).det = r.det ∧ (r.emitAdmitted n g).mute = r.mute
    ∧ (r.emitAdmitted n g).floor = r.floor ∧ (r.emitAdmitted n g).mix = r.mix
    ∧ (r.emitAdmitted n g).link = r.link ∧ (r.emitAdmitted n g).fb = r.fb
    ∧ (r.emitAdmitted n g).store = r.store ∧ (r.emitAdmitted n g).box = r.box
    ∧ (r.emitAdmitted n g).begun = r.begun := by
  unfold Room.emitAdmitted
  try dsimp only
  repeat' split
  all_goals simp

@[simp] theorem Room.admitSeat_keeps (r : Room) (n : Seat) (g : GateState) :
    (r.admitSeat n g).map = r.map ∧ (r.admitSeat n g).mute = r.mute ∧ (r.admitSeat n g).fb = r.fb
    ∧ (r.admitSeat n g).store = r.store ∧ (r.admitSeat n g).box = r.box
    ∧ (r.admitSeat n g).floor.settings = r.floor.settings ∧ (r.admitSeat n g).floor.standby = r.floor.standby
    ∧ (r.admitSeat n g).mix.settings = r.mix.settings ∧ (r.admitSeat n g).mix.standby = r.mix.standby
    ∧ (r.admitSeat n g).lines.map Line.facts = r.lines.map Line.facts
    ∧ (r.admitSeat n g).lines.map Line.dark = r.lines.map Line.dark
    ∧ (r.admitSeat n g).link.links = r.link.links ∧ (r.admitSeat n g).link.call = r.link.call
    ∧ (r.admitSeat n g).link.delay = r.link.delay
    ∧ (r.admitSeat n g).det.map Detector.settings = r.det.map Detector.settings := by
  unfold Room.admitSeat
  try dsimp only
  repeat' split
  all_goals simp

@[simp] theorem Room.waitSeat_keeps (r : Room) (n : Seat) :
    (r.waitSeat n).map = r.map ∧ (r.waitSeat n).det = r.det ∧ (r.waitSeat n).mute = r.mute
    ∧ (r.waitSeat n).mix = r.mix ∧ (r.waitSeat n).link = r.link ∧ (r.waitSeat n).fb = r.fb
    ∧ (r.waitSeat n).store = r.store ∧ (r.waitSeat n).box = r.box ∧ (r.waitSeat n).begun = r.begun
    ∧ (r.waitSeat n).floor.settings = r.floor.settings ∧ (r.waitSeat n).floor.standby = r.floor.standby
    ∧ (r.waitSeat n).lines.map Line.facts = r.lines.map Line.facts
    ∧ (r.waitSeat n).lines.map Line.dark = r.lines.map Line.dark := by
  unfold Room.waitSeat
  try dsimp only
  repeat' split
  all_goals simp

@[simp] theorem Room.queueSeat_keeps (r : Room) (n : Seat) :
    (r.queueSeat n).map = r.map ∧ (r.queueSeat n).det = r.det ∧ (r.queueSeat n).mute = r.mute
    ∧ (r.queueSeat n).mix = r.mix ∧ (r.queueSeat n).link = r.link ∧ (r.queueSeat n).fb = r.fb
    ∧ (r.queueSeat n).store = r.store ∧ (r.queueSeat n).box = r.box ∧ (r.queueSeat n).begun = r.begun
    ∧ (r.queueSeat n).floor.settings = r.floor.settings ∧ (r.queueSeat n).floor.standby = r.floor.standby
    ∧ (r.queueSeat n).lines.map Line.facts = r.lines.map Line.facts
    ∧ (r.queueSeat n).lines.map Line.dark = r.lines.map Line.dark := by
  unfold Room.queueSeat
  try dsimp only
  repeat' split
  all_goals simp

@[simp] theorem Room.fillWaitOne_keeps (r : Room) :
    (r.fillWaitOne).map = r.map ∧ (r.fillWaitOne).mute = r.mute ∧ (r.fillWaitOne).fb = r.fb
    ∧ (r.fillWaitOne).store = r.store ∧ (r.fillWaitOne).box = r.box
    ∧ (r.fillWaitOne).floor.settings = r.floor.settings ∧ (r.fillWaitOne).floor.standby = r.floor.standby
    ∧ (r.fillWaitOne).mix.settings = r.mix.settings ∧ (r.fillWaitOne).mix.standby = r.mix.standby
    ∧ (r.fillWaitOne).lines.map Line.facts = r.lines.map Line.facts
    ∧ (r.fillWaitOne).lines.map Line.dark = r.lines.map Line.dark ∧ (r.fillWaitOne).link.links = r.link.links
    ∧ (r.fillWaitOne).link.call = r.link.call ∧ (r.fillWaitOne).link.delay = r.link.delay
    ∧ (r.fillWaitOne).det.map Detector.settings = r.det.map Detector.settings := by
  unfold Room.fillWaitOne
  try dsimp only
  repeat' split
  all_goals simp

@[simp] theorem Room.fillQueueOne_keeps (r : Room) :
    (r.fillQueueOne).map = r.map ∧ (r.fillQueueOne).mute = r.mute ∧ (r.fillQueueOne).fb = r.fb
    ∧ (r.fillQueueOne).store = r.store ∧ (r.fillQueueOne).box = r.box
    ∧ (r.fillQueueOne).floor.settings = r.floor.settings ∧ (r.fillQueueOne).floor.standby = r.floor.standby
    ∧ (r.fillQueueOne).mix.settings = r.mix.settings ∧ (r.fillQueueOne).mix.standby = r.mix.standby
    ∧ (r.fillQueueOne).lines.map Line.facts = r.lines.map Line.facts
    ∧ (r.fillQueueOne).lines.map Line.dark = r.lines.map Line.dark ∧ (r.fillQueueOne).link.links = r.link.links
    ∧ (r.fillQueueOne).link.call = r.link.call ∧ (r.fillQueueOne).link.delay = r.link.delay
    ∧ (r.fillQueueOne).det.map Detector.settings = r.det.map Detector.settings := by
  unfold Room.fillQueueOne
  try dsimp only
  repeat' split
  all_goals simp

@[simp] theorem Room.fillWait_keeps (r : Room) :
    (r.fillWait).map = r.map ∧ (r.fillWait).mute = r.mute ∧ (r.fillWait).fb = r.fb
    ∧ (r.fillWait).store = r.store ∧ (r.fillWait).box = r.box ∧ (r.fillWait).floor.settings = r.floor.settings
    ∧ (r.fillWait).floor.standby = r.floor.standby ∧ (r.fillWait).mix.settings = r.mix.settings
    ∧ (r.fillWait).mix.standby = r.mix.standby ∧ (r.fillWait).lines.map Line.facts = r.lines.map Line.facts
    ∧ (r.fillWait).lines.map Line.dark = r.lines.map Line.dark ∧ (r.fillWait).link.links = r.link.links
    ∧ (r.fillWait).link.call = r.link.call ∧ (r.fillWait).link.delay = r.link.delay
    ∧ (r.fillWait).det.map Detector.settings = r.det.map Detector.settings := by
  unfold Room.fillWait
  have h := foldl_keeps (π := fun r : Room => (r.map, r.mute, r.fb, r.store, r.box, r.floor.settings, r.floor.standby, r.mix.settings, r.mix.standby, r.lines.map Line.facts, r.lines.map Line.dark, r.link.links, r.link.call, r.link.delay, r.det.map Detector.settings))
    (fun (r : Room) (_ : Seat) => r.fillWaitOne) (fun r x => by
      try dsimp only
      repeat' split
      all_goals simp) r.floor.waitList r
  simpa only [Prod.mk.injEq] using h

@[simp] theorem Room.fillQueue_keeps (r : Room) :
    (r.fillQueue).map = r.map ∧ (r.fillQueue).mute = r.mute ∧ (r.fillQueue).fb = r.fb
    ∧ (r.fillQueue).store = r.store ∧ (r.fillQueue).box = r.box
    ∧ (r.fillQueue).floor.settings = r.floor.settings ∧ (r.fillQueue).floor.standby = r.floor.standby
    ∧ (r.fillQueue).mix.settings = r.mix.settings ∧ (r.fillQueue).mix.standby = r.mix.standby
    ∧ (r.fillQueue).lines.map Line.facts = r.lines.map Line.facts
    ∧ (r.fillQueue).lines.map Line.dark = r.lines.map Line.dark ∧ (r.fillQueue).link.links = r.link.links
    ∧ (r.fillQueue).link.call = r.link.call ∧ (r.fillQueue).link.delay = r.link.delay
    ∧ (r.fillQueue).det.map Detector.settings = r.det.map Detector.settings := by
  unfold Room.fillQueue
  have h := foldl_keeps (π := fun r : Room => (r.map, r.mute, r.fb, r.store, r.box, r.floor.settings, r.floor.standby, r.mix.settings, r.mix.standby, r.lines.map Line.facts, r.lines.map Line.dark, r.link.links, r.link.call, r.link.delay, r.det.map Detector.settings))
    (fun (r : Room) (_ : Seat) => r.fillQueueOne) (fun r x => by
      try dsimp only
      repeat' split
      all_goals simp) r.floor.queue r
  simpa only [Prod.mk.injEq] using h

@[simp] theorem Room.floorFill_keeps (r : Room) :
    (r.floorFill).map = r.map ∧ (r.floorFill).mute = r.mute ∧ (r.floorFill).fb = r.fb
    ∧ (r.floorFill).store = r.store ∧ (r.floorFill).box = r.box
    ∧ (r.floorFill).floor.settings = r.floor.settings ∧ (r.floorFill).floor.standby = r.floor.standby
    ∧ (r.floorFill).mix.settings = r.mix.settings ∧ (r.floorFill).mix.standby = r.mix.standby
    ∧ (r.floorFill).lines.map Line.facts = r.lines.map Line.facts
    ∧ (r.floorFill).lines.map Line.dark = r.lines.map Line.dark ∧ (r.floorFill).link.links = r.link.links
    ∧ (r.floorFill).link.call = r.link.call ∧ (r.floorFill).link.delay = r.link.delay
    ∧ (r.floorFill).det.map Detector.settings = r.det.map Detector.settings := by
  unfold Room.floorFill
  try dsimp only
  repeat' split
  all_goals simp

@[simp] theorem Room.floorFinish_keeps (r : Room) :
    (r.floorFinish).map = r.map ∧ (r.floorFinish).lines = r.lines ∧ (r.floorFinish).mute = r.mute
    ∧ (r.floorFinish).link = r.link ∧ (r.floorFinish).fb = r.fb ∧ (r.floorFinish).store = r.store
    ∧ (r.floorFinish).out = r.out ∧ (r.floorFinish).floor.settings = r.floor.settings
    ∧ (r.floorFinish).floor.standby = r.floor.standby ∧ (r.floorFinish).mix.settings = r.mix.settings
    ∧ (r.floorFinish).mix.standby = r.mix.standby
    ∧ (r.floorFinish).det.map Detector.settings = r.det.map Detector.settings := by
  unfold Room.floorFinish
  try dsimp only
  repeat' split
  all_goals simp

@[simp] theorem Room.onsetClosed_keeps (r : Room) (n : Seat) :
    (r.onsetClosed n).map = r.map ∧ (r.onsetClosed n).mute = r.mute ∧ (r.onsetClosed n).fb = r.fb
    ∧ (r.onsetClosed n).store = r.store ∧ (r.onsetClosed n).box = r.box
    ∧ (r.onsetClosed n).floor.settings = r.floor.settings ∧ (r.onsetClosed n).floor.standby = r.floor.standby
    ∧ (r.onsetClosed n).mix.settings = r.mix.settings ∧ (r.onsetClosed n).mix.standby = r.mix.standby
    ∧ (r.onsetClosed n).lines.map Line.facts = r.lines.map Line.facts
    ∧ (r.onsetClosed n).lines.map Line.dark = r.lines.map Line.dark
    ∧ (r.onsetClosed n).link.links = r.link.links ∧ (r.onsetClosed n).link.call = r.link.call
    ∧ (r.onsetClosed n).link.delay = r.link.delay
    ∧ (r.onsetClosed n).det.map Detector.settings = r.det.map Detector.settings := by
  unfold Room.onsetClosed
  try dsimp only
  repeat' split
  all_goals simp

@[simp] theorem Room.onsetAct_keeps (r : Room) (n : Seat) :
    (r.onsetAct n).map = r.map ∧ (r.onsetAct n).mute = r.mute ∧ (r.onsetAct n).fb = r.fb
    ∧ (r.onsetAct n).store = r.store ∧ (r.onsetAct n).box = r.box
    ∧ (r.onsetAct n).floor.settings = r.floor.settings ∧ (r.onsetAct n).floor.standby = r.floor.standby
    ∧ (r.onsetAct n).mix.settings = r.mix.settings ∧ (r.onsetAct n).mix.standby = r.mix.standby
    ∧ (r.onsetAct n).lines.map Line.facts = r.lines.map Line.facts
    ∧ (r.onsetAct n).lines.map Line.dark = r.lines.map Line.dark ∧ (r.onsetAct n).link.links = r.link.links
    ∧ (r.onsetAct n).link.call = r.link.call ∧ (r.onsetAct n).link.delay = r.link.delay
    ∧ (r.onsetAct n).det.map Detector.settings = r.det.map Detector.settings := by
  unfold Room.onsetAct
  try dsimp only
  repeat' split
  all_goals simp

@[simp] theorem Room.endAct_keeps (r : Room) (n : Seat) :
    (r.endAct n).map = r.map ∧ (r.endAct n).mute = r.mute ∧ (r.endAct n).fb = r.fb
    ∧ (r.endAct n).store = r.store ∧ (r.endAct n).box = r.box ∧ (r.endAct n).floor.settings = r.floor.settings
    ∧ (r.endAct n).floor.standby = r.floor.standby ∧ (r.endAct n).mix.settings = r.mix.settings
    ∧ (r.endAct n).mix.standby = r.mix.standby ∧ (r.endAct n).lines.map Line.facts = r.lines.map Line.facts
    ∧ (r.endAct n).lines.map Line.dark = r.lines.map Line.dark ∧ (r.endAct n).link.links = r.link.links
    ∧ (r.endAct n).link.call = r.link.call ∧ (r.endAct n).link.delay = r.link.delay
    ∧ (r.endAct n).det.map Detector.settings = r.det.map Detector.settings := by
  unfold Room.endAct
  try dsimp only
  repeat' split
  all_goals simp

@[simp] theorem Room.becomeAdmissible_keeps (r : Room) (n : Seat) :
    (r.becomeAdmissible n).map = r.map ∧ (r.becomeAdmissible n).mute = r.mute
    ∧ (r.becomeAdmissible n).fb = r.fb ∧ (r.becomeAdmissible n).store = r.store
    ∧ (r.becomeAdmissible n).box = r.box ∧ (r.becomeAdmissible n).floor.settings = r.floor.settings
    ∧ (r.becomeAdmissible n).floor.standby = r.floor.standby
    ∧ (r.becomeAdmissible n).mix.settings = r.mix.settings ∧ (r.becomeAdmissible n).mix.standby = r.mix.standby
    ∧ (r.becomeAdmissible n).lines.map Line.facts = r.lines.map Line.facts
    ∧ (r.becomeAdmissible n).lines.map Line.dark = r.lines.map Line.dark
    ∧ (r.becomeAdmissible n).link.links = r.link.links ∧ (r.becomeAdmissible n).link.call = r.link.call
    ∧ (r.becomeAdmissible n).link.delay = r.link.delay
    ∧ (r.becomeAdmissible n).det.map Detector.settings = r.det.map Detector.settings := by
  unfold Room.becomeAdmissible
  try dsimp only
  repeat' split
  all_goals simp

@[simp] theorem Room.floorSpeech_keeps (r : Room) (n : Seat) (b : Bool) :
    (r.floorSpeech n b).map = r.map ∧ (r.floorSpeech n b).mute = r.mute ∧ (r.floorSpeech n b).fb = r.fb
    ∧ (r.floorSpeech n b).store = r.store ∧ (r.floorSpeech n b).floor.settings = r.floor.settings
    ∧ (r.floorSpeech n b).floor.standby = r.floor.standby ∧ (r.floorSpeech n b).mix.settings = r.mix.settings
    ∧ (r.floorSpeech n b).mix.standby = r.mix.standby
    ∧ (r.floorSpeech n b).lines.map Line.facts = r.lines.map Line.facts
    ∧ (r.floorSpeech n b).lines.map Line.dark = r.lines.map Line.dark
    ∧ (r.floorSpeech n b).link.links = r.link.links ∧ (r.floorSpeech n b).link.call = r.link.call
    ∧ (r.floorSpeech n b).link.delay = r.link.delay
    ∧ (r.floorSpeech n b).det.map Detector.settings = r.det.map Detector.settings := by
  unfold Room.floorSpeech Room.floorEvent
  dsimp only
  repeat' split
  all_goals simp

@[simp] theorem Room.floorMic_keeps (r : Room) (n : Seat) (b : Bool) :
    (r.floorMic n b).map = r.map ∧ (r.floorMic n b).mute = r.mute ∧ (r.floorMic n b).fb = r.fb
    ∧ (r.floorMic n b).store = r.store ∧ (r.floorMic n b).floor.settings = r.floor.settings
    ∧ (r.floorMic n b).floor.standby = r.floor.standby ∧ (r.floorMic n b).mix.settings = r.mix.settings
    ∧ (r.floorMic n b).mix.standby = r.mix.standby
    ∧ (r.floorMic n b).lines.map Line.facts = r.lines.map Line.facts
    ∧ (r.floorMic n b).lines.map Line.dark = r.lines.map Line.dark ∧ (r.floorMic n b).link.links = r.link.links
    ∧ (r.floorMic n b).link.call = r.link.call ∧ (r.floorMic n b).link.delay = r.link.delay
    ∧ (r.floorMic n b).det.map Detector.settings = r.det.map Detector.settings := by
  unfold Room.floorMic Room.floorEvent
  dsimp only
  repeat' split
  all_goals simp

@[simp] theorem Room.floorPresence_keeps (r : Room) (n : Seat) (p : Presence) :
    (r.floorPresence n p).map = r.map ∧ (r.floorPresence n p).mute = r.mute ∧ (r.floorPresence n p).fb = r.fb
    ∧ (r.floorPresence n p).store = r.store ∧ (r.floorPresence n p).floor.settings = r.floor.settings
    ∧ (r.floorPresence n p).floor.standby = r.floor.standby
    ∧ (r.floorPresence n p).mix.settings = r.mix.settings ∧ (r.floorPresence n p).mix.standby = r.mix.standby
    ∧ (r.floorPresence n p).lines.map Line.facts = r.lines.map Line.facts
    ∧ (r.floorPresence n p).lines.map Line.dark = r.lines.map Line.dark
    ∧ (r.floorPresence n p).link.links = r.link.links ∧ (r.floorPresence n p).link.call = r.link.call
    ∧ (r.floorPresence n p).link.delay = r.link.delay
    ∧ (r.floorPresence n p).det.map Detector.settings = r.det.map Detector.settings := by
  unfold Room.floorPresence Room.floorEvent
  dsimp only
  repeat' split
  all_goals simp

@[simp] theorem Room.floorReseated_keeps (r : Room) (n : Seat) :
    (r.floorReseated n).map = r.map ∧ (r.floorReseated n).mute = r.mute ∧ (r.floorReseated n).fb = r.fb
    ∧ (r.floorReseated n).store = r.store ∧ (r.floorReseated n).floor.settings = r.floor.settings
    ∧ (r.floorReseated n).floor.standby = r.floor.standby ∧ (r.floorReseated n).mix.settings = r.mix.settings
    ∧ (r.floorReseated n).mix.standby = r.mix.standby
    ∧ (r.floorReseated n).lines.map Line.facts = r.lines.map Line.facts
    ∧ (r.floorReseated n).lines.map Line.dark = r.lines.map Line.dark
    ∧ (r.floorReseated n).link.links = r.link.links ∧ (r.floorReseated n).link.call = r.link.call
    ∧ (r.floorReseated n).link.delay = r.link.delay
    ∧ (r.floorReseated n).det.map Detector.settings = r.det.map Detector.settings := by
  unfold Room.floorReseated Room.floorEvent
  dsimp only
  repeat' split
  all_goals simp

@[simp] theorem Room.closeAll_keeps (r : Room) (l : List Seat) (why : Reason) :
    (r.closeAll l why).map = r.map ∧ (r.closeAll l why).mute = r.mute ∧ (r.closeAll l why).link = r.link
    ∧ (r.closeAll l why).fb = r.fb ∧ (r.closeAll l why).store = r.store ∧ (r.closeAll l why).box = r.box
    ∧ (r.closeAll l why).floor.settings = r.floor.settings ∧ (r.closeAll l why).floor.standby = r.floor.standby
    ∧ (r.closeAll l why).mix.settings = r.mix.settings ∧ (r.closeAll l why).mix.standby = r.mix.standby
    ∧ (r.closeAll l why).lines.map Line.facts = r.lines.map Line.facts
    ∧ (r.closeAll l why).lines.map Line.dark = r.lines.map Line.dark
    ∧ (r.closeAll l why).det.map Detector.settings = r.det.map Detector.settings := by
  unfold Room.closeAll
  have h := foldl_keeps (π := fun r : Room => (r.map, r.mute, r.link, r.fb, r.store, r.box, r.floor.settings, r.floor.standby, r.mix.settings, r.mix.standby, r.lines.map Line.facts, r.lines.map Line.dark, r.det.map Detector.settings))
    (fun (r : Room) n => r.closeSeat n why) (fun r x => by
      try dsimp only
      repeat' split
      all_goals simp) l r
  simpa only [Prod.mk.injEq] using h

theorem Room.admissibleAll_keeps (r : Room) (l : List Seat) :
    let t := l.foldl (Room.becomeAdmissible) r
    t.map = r.map ∧ t.mute = r.mute ∧ t.fb = r.fb ∧ t.store = r.store ∧ t.box = r.box ∧ t.floor.settings = r.floor.settings ∧ t.floor.standby = r.floor.standby ∧ t.mix.settings = r.mix.settings ∧ t.mix.standby = r.mix.standby ∧ t.lines.map Line.facts = r.lines.map Line.facts ∧ t.lines.map Line.dark = r.lines.map Line.dark ∧ t.link.links = r.link.links ∧ t.link.call = r.link.call ∧ t.link.delay = r.link.delay ∧ t.det.map Detector.settings = r.det.map Detector.settings := by
  have h := foldl_keeps (π := fun r : Room => (r.map, r.mute, r.fb, r.store, r.box, r.floor.settings, r.floor.standby, r.mix.settings, r.mix.standby, r.lines.map Line.facts, r.lines.map Line.dark, r.link.links, r.link.call, r.link.delay, r.det.map Detector.settings))
    (Room.becomeAdmissible) (fun r x => by
      repeat' split
      all_goals simp) l r
  simpa only [Prod.mk.injEq] using h

@[simp] theorem Room.floorRest_keeps (r : Room) :
    (r.floorRest).map = r.map ∧ (r.floorRest).mute = r.mute ∧ (r.floorRest).fb = r.fb
    ∧ (r.floorRest).store = r.store ∧ (r.floorRest).floor.settings = r.floor.settings
    ∧ (r.floorRest).mix.settings = r.mix.settings ∧ (r.floorRest).mix.standby = r.mix.standby
    ∧ (r.floorRest).lines.map Line.facts = r.lines.map Line.facts
    ∧ (r.floorRest).lines.map Line.dark = r.lines.map Line.dark ∧ (r.floorRest).link.links = r.link.links
    ∧ (r.floorRest).link.call = r.link.call ∧ (r.floorRest).link.delay = r.link.delay
    ∧ (r.floorRest).det.map Detector.settings = r.det.map Detector.settings := by
  unfold Room.floorRest Room.floorEvent
  dsimp only
  simp

@[simp] theorem Room.floorWake_keeps (r : Room) :
    (r.floorWake).map = r.map ∧ (r.floorWake).mute = r.mute ∧ (r.floorWake).fb = r.fb
    ∧ (r.floorWake).store = r.store ∧ (r.floorWake).floor.settings = r.floor.settings
    ∧ (r.floorWake).mix.settings = r.mix.settings ∧ (r.floorWake).mix.standby = r.mix.standby
    ∧ (r.floorWake).lines.map Line.facts = r.lines.map Line.facts
    ∧ (r.floorWake).lines.map Line.dark = r.lines.map Line.dark ∧ (r.floorWake).link.links = r.link.links
    ∧ (r.floorWake).link.call = r.link.call ∧ (r.floorWake).link.delay = r.link.delay
    ∧ (r.floorWake).det.map Detector.settings = r.det.map Detector.settings := by
  unfold Room.floorWake Room.floorEvent
  dsimp only
  simp [Room.admissibleAll_keeps]

@[simp] theorem Room.floorReset_keeps (r : Room) :
    (r.floorReset).map = r.map ∧ (r.floorReset).mute = r.mute ∧ (r.floorReset).fb = r.fb
    ∧ (r.floorReset).store = r.store ∧ (r.floorReset).box = r.box
    ∧ (r.floorReset).floor.settings = r.floor.settings ∧ (r.floorReset).floor.standby = r.floor.standby
    ∧ (r.floorReset).mix.settings = r.mix.settings ∧ (r.floorReset).mix.standby = r.mix.standby
    ∧ (r.floorReset).lines.map Line.facts = r.lines.map Line.facts
    ∧ (r.floorReset).lines.map Line.dark = r.lines.map Line.dark ∧ (r.floorReset).link.links = r.link.links
    ∧ (r.floorReset).link.call = r.link.call ∧ (r.floorReset).link.delay = r.link.delay
    ∧ (r.floorReset).det.map Detector.settings = r.det.map Detector.settings := by
  simp [Room.floorReset, Room.admissibleAll_keeps]

@[simp] theorem Room.requeue_keeps (r : Room) (n : Seat) (i : Nat) :
    (r.requeue n i).map = r.map ∧ (r.requeue n i).mute = r.mute ∧ (r.requeue n i).link = r.link
    ∧ (r.requeue n i).fb = r.fb ∧ (r.requeue n i).store = r.store ∧ (r.requeue n i).box = r.box
    ∧ (r.requeue n i).floor.settings = r.floor.settings ∧ (r.requeue n i).floor.standby = r.floor.standby
    ∧ (r.requeue n i).mix.settings = r.mix.settings ∧ (r.requeue n i).mix.standby = r.mix.standby
    ∧ (r.requeue n i).lines.map Line.facts = r.lines.map Line.facts
    ∧ (r.requeue n i).lines.map Line.dark = r.lines.map Line.dark
    ∧ (r.requeue n i).det.map Detector.settings = r.det.map Detector.settings := by
  unfold Room.requeue
  try dsimp only
  repeat' split
  all_goals simp

@[simp] theorem Room.lowerLimit_keeps (r : Room) :
    (r.lowerLimit).map = r.map ∧ (r.lowerLimit).mute = r.mute ∧ (r.lowerLimit).link = r.link
    ∧ (r.lowerLimit).fb = r.fb ∧ (r.lowerLimit).store = r.store ∧ (r.lowerLimit).box = r.box
    ∧ (r.lowerLimit).floor.settings = r.floor.settings ∧ (r.lowerLimit).floor.standby = r.floor.standby
    ∧ (r.lowerLimit).mix.settings = r.mix.settings ∧ (r.lowerLimit).mix.standby = r.mix.standby
    ∧ (r.lowerLimit).lines.map Line.facts = r.lines.map Line.facts
    ∧ (r.lowerLimit).lines.map Line.dark = r.lines.map Line.dark
    ∧ (r.lowerLimit).det.map Detector.settings = r.det.map Detector.settings := by
  unfold Room.lowerLimit
  dsimp only
  split
  · simp
  · simp
  · have h := foldl_keeps (π := fun a : Room × Nat => (a.1.map, a.1.mute, a.1.link, a.1.fb, a.1.store, a.1.box, a.1.floor.settings, a.1.floor.standby, a.1.mix.settings, a.1.mix.standby, a.1.lines.map Line.facts, a.1.lines.map Line.dark, a.1.det.map Detector.settings))
      (fun (a : Room × Nat) n => (a.1.requeue n a.2, a.2 + 1)) (fun r x => by simp)
    simp only [Prod.mk.injEq] at h
    simp [h]

@[simp] theorem Room.closeIfKept_keeps (r : Room) (n : Seat) :
    (r.closeIfKept n).map = r.map ∧ (r.closeIfKept n).mute = r.mute ∧ (r.closeIfKept n).link = r.link
    ∧ (r.closeIfKept n).fb = r.fb ∧ (r.closeIfKept n).store = r.store ∧ (r.closeIfKept n).box = r.box
    ∧ (r.closeIfKept n).floor.settings = r.floor.settings ∧ (r.closeIfKept n).floor.standby = r.floor.standby
    ∧ (r.closeIfKept n).mix.settings = r.mix.settings ∧ (r.closeIfKept n).mix.standby = r.mix.standby
    ∧ (r.closeIfKept n).lines.map Line.facts = r.lines.map Line.facts
    ∧ (r.closeIfKept n).lines.map Line.dark = r.lines.map Line.dark
    ∧ (r.closeIfKept n).det.map Detector.settings = r.det.map Detector.settings := by
  unfold Room.closeIfKept
  try dsimp only
  repeat' split
  all_goals simp

@[simp] theorem Room.closeKept_keeps (r : Room) :
    (r.closeKept).map = r.map ∧ (r.closeKept).mute = r.mute ∧ (r.closeKept).link = r.link
    ∧ (r.closeKept).fb = r.fb ∧ (r.closeKept).store = r.store ∧ (r.closeKept).box = r.box
    ∧ (r.closeKept).floor.settings = r.floor.settings ∧ (r.closeKept).floor.standby = r.floor.standby
    ∧ (r.closeKept).mix.settings = r.mix.settings ∧ (r.closeKept).mix.standby = r.mix.standby
    ∧ (r.closeKept).lines.map Line.facts = r.lines.map Line.facts
    ∧ (r.closeKept).lines.map Line.dark = r.lines.map Line.dark
    ∧ (r.closeKept).det.map Detector.settings = r.det.map Detector.settings := by
  unfold Room.closeKept
  have h := foldl_keeps (π := fun r : Room => (r.map, r.mute, r.link, r.fb, r.store, r.box, r.floor.settings, r.floor.standby, r.mix.settings, r.mix.standby, r.lines.map Line.facts, r.lines.map Line.dark, r.det.map Detector.settings))
    Room.closeIfKept (fun r x => by
      try dsimp only
      repeat' split
      all_goals simp) allSeats r
  simpa only [Prod.mk.injEq] using h

@[simp] theorem Room.restartIdleAt_keeps (r : Room) (n : Seat) :
    (r.restartIdleAt n).map = r.map ∧ (r.restartIdleAt n).lines = r.lines ∧ (r.restartIdleAt n).det = r.det
    ∧ (r.restartIdleAt n).mute = r.mute ∧ (r.restartIdleAt n).mix = r.mix ∧ (r.restartIdleAt n).link = r.link
    ∧ (r.restartIdleAt n).fb = r.fb ∧ (r.restartIdleAt n).store = r.store ∧ (r.restartIdleAt n).out = r.out
    ∧ (r.restartIdleAt n).box = r.box ∧ (r.restartIdleAt n).begun = r.begun
    ∧ (r.restartIdleAt n).floor.settings = r.floor.settings
    ∧ (r.restartIdleAt n).floor.standby = r.floor.standby := by
  unfold Room.restartIdleAt
  try dsimp only
  repeat' split
  all_goals simp

@[simp] theorem Room.restartIdle_keeps (r : Room) :
    (r.restartIdle).map = r.map ∧ (r.restartIdle).lines = r.lines ∧ (r.restartIdle).det = r.det
    ∧ (r.restartIdle).mute = r.mute ∧ (r.restartIdle).mix = r.mix ∧ (r.restartIdle).link = r.link
    ∧ (r.restartIdle).fb = r.fb ∧ (r.restartIdle).store = r.store ∧ (r.restartIdle).out = r.out
    ∧ (r.restartIdle).box = r.box ∧ (r.restartIdle).begun = r.begun
    ∧ (r.restartIdle).floor.settings = r.floor.settings ∧ (r.restartIdle).floor.standby = r.floor.standby := by
  unfold Room.restartIdle
  have h := foldl_keeps (π := fun r : Room => (r.map, r.lines, r.det, r.mute, r.mix, r.link, r.fb, r.store, r.out, r.box, r.begun, r.floor.settings, r.floor.standby))
    Room.restartIdleAt (fun r x => by
      try dsimp only
      repeat' split
      all_goals simp) allSeats r
  simpa only [Prod.mk.injEq] using h

@[simp] theorem Room.setFloor_keeps (r : Room) (s : FloorSettings) (b : Bool) :
    (r.setFloor s b).map = r.map ∧ (r.setFloor s b).mute = r.mute ∧ (r.setFloor s b).fb = r.fb
    ∧ (r.setFloor s b).store = r.store ∧ (r.setFloor s b).floor.standby = r.floor.standby
    ∧ (r.setFloor s b).mix.settings = r.mix.settings ∧ (r.setFloor s b).mix.standby = r.mix.standby
    ∧ (r.setFloor s b).lines.map Line.facts = r.lines.map Line.facts
    ∧ (r.setFloor s b).lines.map Line.dark = r.lines.map Line.dark ∧ (r.setFloor s b).link.links = r.link.links
    ∧ (r.setFloor s b).link.call = r.link.call ∧ (r.setFloor s b).link.delay = r.link.delay
    ∧ (r.setFloor s b).det.map Detector.settings = r.det.map Detector.settings := by
  unfold Room.setFloor Room.floorEvent
  dsimp only
  repeat' split
  all_goals simp

@[simp] theorem Room.holdExpiry_keeps (r : Room) (n : Seat) :
    (r.holdExpiry n).map = r.map ∧ (r.holdExpiry n).mute = r.mute ∧ (r.holdExpiry n).fb = r.fb
    ∧ (r.holdExpiry n).store = r.store ∧ (r.holdExpiry n).floor.settings = r.floor.settings
    ∧ (r.holdExpiry n).floor.standby = r.floor.standby ∧ (r.holdExpiry n).mix.settings = r.mix.settings
    ∧ (r.holdExpiry n).mix.standby = r.mix.standby
    ∧ (r.holdExpiry n).lines.map Line.facts = r.lines.map Line.facts
    ∧ (r.holdExpiry n).lines.map Line.dark = r.lines.map Line.dark ∧ (r.holdExpiry n).link.links = r.link.links
    ∧ (r.holdExpiry n).link.call = r.link.call ∧ (r.holdExpiry n).link.delay = r.link.delay
    ∧ (r.holdExpiry n).det.map Detector.settings = r.det.map Detector.settings := by
  unfold Room.holdExpiry Room.floorEvent
  dsimp only
  repeat' split
  all_goals simp

@[simp] theorem Room.idleExpiry_keeps (r : Room) (n : Seat) :
    (r.idleExpiry n).map = r.map ∧ (r.idleExpiry n).mute = r.mute ∧ (r.idleExpiry n).fb = r.fb
    ∧ (r.idleExpiry n).store = r.store ∧ (r.idleExpiry n).floor.settings = r.floor.settings
    ∧ (r.idleExpiry n).floor.standby = r.floor.standby ∧ (r.idleExpiry n).mix.settings = r.mix.settings
    ∧ (r.idleExpiry n).mix.standby = r.mix.standby
    ∧ (r.idleExpiry n).lines.map Line.facts = r.lines.map Line.facts
    ∧ (r.idleExpiry n).lines.map Line.dark = r.lines.map Line.dark ∧ (r.idleExpiry n).link.links = r.link.links
    ∧ (r.idleExpiry n).link.call = r.link.call ∧ (r.idleExpiry n).link.delay = r.link.delay
    ∧ (r.idleExpiry n).det.map Detector.settings = r.det.map Detector.settings := by
  unfold Room.idleExpiry Room.floorEvent
  dsimp only
  repeat' split
  all_goals simp

/-! ## The Mute Arbiter -/

@[simp] theorem Room.seatTone_keeps (r : Room) (n : Seat) (t : Tone) :
    (r.seatTone n t).map = r.map ∧ (r.seatTone n t).lines = r.lines ∧ (r.seatTone n t).mute = r.mute
    ∧ (r.seatTone n t).floor = r.floor ∧ (r.seatTone n t).link = r.link ∧ (r.seatTone n t).fb = r.fb
    ∧ (r.seatTone n t).store = r.store ∧ (r.seatTone n t).out = r.out ∧ (r.seatTone n t).box = r.box
    ∧ (r.seatTone n t).mix.settings = r.mix.settings ∧ (r.seatTone n t).mix.standby = r.mix.standby
    ∧ (r.seatTone n t).det.map Detector.settings = r.det.map Detector.settings := by
  unfold Room.seatTone
  try dsimp only
  repeat' split
  all_goals simp

theorem Room.spoken_flagFacts (r : Room) (n : Seat) (f : MuteSeat → MuteSeat) (g : View → View)
    (h : ∀ x, (f x).facts = x.facts) :
    ((r.setMuteSeat n f).tell n g).mute.seats.map MuteSeat.facts = r.mute.seats.map MuteSeat.facts := by
  simp
  exact Room.setMuteSeat_flagFacts _ _ _ h

@[simp] theorem Room.spellUpdate_keeps (r : Room) (n : Seat) :
    (r.spellUpdate n).map = r.map ∧ (r.spellUpdate n).det = r.det ∧ (r.spellUpdate n).floor = r.floor
    ∧ (r.spellUpdate n).mix = r.mix ∧ (r.spellUpdate n).link = r.link ∧ (r.spellUpdate n).fb = r.fb
    ∧ (r.spellUpdate n).store = r.store ∧ (r.spellUpdate n).box = r.box ∧ (r.spellUpdate n).begun = r.begun
    ∧ (r.spellUpdate n).mute.table = r.mute.table ∧ (r.spellUpdate n).mute.stamp = r.mute.stamp
    ∧ (r.spellUpdate n).mute.linkIdle = r.mute.linkIdle
    ∧ (r.spellUpdate n).mute.seats.map MuteSeat.facts = r.mute.seats.map MuteSeat.facts
    ∧ (r.spellUpdate n).lines.map Line.facts = r.lines.map Line.facts
    ∧ (r.spellUpdate n).lines.map Line.dark = r.lines.map Line.dark ∧ (r.spellUpdate n).mute.eff = r.mute.eff
    ∧ (r.spellUpdate n).mute.links = r.mute.links := by
  unfold Room.spellUpdate
  dsimp only
  split
  · simp
  · split
    · simp
      exact (Room.setMuteSeat_flagFacts _ _ (fun s => { s with reported := true }) fun _ => rfl).trans
        (Room.spoken_flagFacts r n _ _ fun _ => rfl)
    · simp
      exact Room.setMuteSeat_flagFacts _ _ _ (fun _ => rfl)

@[simp] theorem Room.clearMarks_keeps (r : Room) (n : Seat) :
    (r.clearMarks n).map = r.map ∧ (r.clearMarks n).det = r.det ∧ (r.clearMarks n).floor = r.floor
    ∧ (r.clearMarks n).mix = r.mix ∧ (r.clearMarks n).link = r.link ∧ (r.clearMarks n).fb = r.fb
    ∧ (r.clearMarks n).store = r.store ∧ (r.clearMarks n).box = r.box ∧ (r.clearMarks n).begun = r.begun
    ∧ (r.clearMarks n).mute.table = r.mute.table ∧ (r.clearMarks n).mute.stamp = r.mute.stamp
    ∧ (r.clearMarks n).mute.linkIdle = r.mute.linkIdle
    ∧ (r.clearMarks n).mute.seats.map MuteSeat.facts = r.mute.seats.map MuteSeat.facts
    ∧ (r.clearMarks n).lines.map Line.facts = r.lines.map Line.facts
    ∧ (r.clearMarks n).lines.map Line.dark = r.lines.map Line.dark ∧ (r.clearMarks n).mute.eff = r.mute.eff
    ∧ (r.clearMarks n).mute.links = r.mute.links := by
  unfold Room.clearMarks
  simp
  exact Room.setMuteSeat_flagFacts _ _ _ (fun _ => rfl)

@[simp] theorem Room.micTurned_keeps (r : Room) (n : Seat) (o w : Eff) :
    (r.micTurned n o w).map = r.map ∧ (r.micTurned n o w).lines = r.lines ∧ (r.micTurned n o w).mute = r.mute
    ∧ (r.micTurned n o w).floor = r.floor ∧ (r.micTurned n o w).link = r.link ∧ (r.micTurned n o w).fb = r.fb
    ∧ (r.micTurned n o w).store = r.store ∧ (r.micTurned n o w).out = r.out ∧ (r.micTurned n o w).box = r.box
    ∧ (r.micTurned n o w).mix.settings = r.mix.settings ∧ (r.micTurned n o w).mix.standby = r.mix.standby
    ∧ (r.micTurned n o w).det.map Detector.settings = r.det.map Detector.settings := by
  unfold Room.micTurned
  try dsimp only
  repeat' split
  all_goals simp

@[simp] theorem Room.speakerTurned_keeps (r : Room) (n : Seat) (o w : Eff) :
    (r.speakerTurned n o w).map = r.map ∧ (r.speakerTurned n o w).lines = r.lines
    ∧ (r.speakerTurned n o w).mute = r.mute ∧ (r.speakerTurned n o w).floor = r.floor
    ∧ (r.speakerTurned n o w).link = r.link ∧ (r.speakerTurned n o w).store = r.store
    ∧ (r.speakerTurned n o w).out = r.out ∧ (r.speakerTurned n o w).box = r.box
    ∧ (r.speakerTurned n o w).mix.settings = r.mix.settings
    ∧ (r.speakerTurned n o w).mix.standby = r.mix.standby
    ∧ (r.speakerTurned n o w).det.map Detector.settings = r.det.map Detector.settings
    ∧ (r.speakerTurned n o w).fb.settings = r.fb.settings
    ∧ (r.speakerTurned n o w).fb.seats.map FbSeat.facts = r.fb.seats.map FbSeat.facts := by
  unfold Room.speakerTurned
  try dsimp only
  repeat' split
  all_goals simp

@[simp] theorem Room.floorTold_keeps (r : Room) (n : Seat) (o w : Eff) :
    (r.floorTold n o w).map = r.map ∧ (r.floorTold n o w).mute = r.mute ∧ (r.floorTold n o w).fb = r.fb
    ∧ (r.floorTold n o w).store = r.store ∧ (r.floorTold n o w).floor.settings = r.floor.settings
    ∧ (r.floorTold n o w).floor.standby = r.floor.standby ∧ (r.floorTold n o w).mix.settings = r.mix.settings
    ∧ (r.floorTold n o w).mix.standby = r.mix.standby
    ∧ (r.floorTold n o w).lines.map Line.facts = r.lines.map Line.facts
    ∧ (r.floorTold n o w).lines.map Line.dark = r.lines.map Line.dark
    ∧ (r.floorTold n o w).link.links = r.link.links ∧ (r.floorTold n o w).link.call = r.link.call
    ∧ (r.floorTold n o w).link.delay = r.link.delay
    ∧ (r.floorTold n o w).det.map Detector.settings = r.det.map Detector.settings := by
  unfold Room.floorTold
  try dsimp only
  repeat' split
  all_goals simp

@[simp] theorem Room.ringTold_keeps (r : Room) (n : Seat) (o w : Eff) :
    (r.ringTold n o w).map = r.map ∧ (r.ringTold n o w).det = r.det ∧ (r.ringTold n o w).mute = r.mute
    ∧ (r.ringTold n o w).floor = r.floor ∧ (r.ringTold n o w).mix = r.mix ∧ (r.ringTold n o w).link = r.link
    ∧ (r.ringTold n o w).fb = r.fb ∧ (r.ringTold n o w).store = r.store ∧ (r.ringTold n o w).out = r.out
    ∧ (r.ringTold n o w).box = r.box ∧ (r.ringTold n o w).begun = r.begun
    ∧ (r.ringTold n o w).lines.map Line.facts = r.lines.map Line.facts
    ∧ (r.ringTold n o w).lines.map Line.dark = r.lines.map Line.dark := by
  unfold Room.ringTold
  try dsimp only
  repeat' split
  all_goals simp

@[simp] theorem Room.toneTold_keeps (r : Room) (n : Seat) (o w : Eff) :
    (r.toneTold n o w).map = r.map ∧ (r.toneTold n o w).lines = r.lines ∧ (r.toneTold n o w).mute = r.mute
    ∧ (r.toneTold n o w).floor = r.floor ∧ (r.toneTold n o w).link = r.link ∧ (r.toneTold n o w).fb = r.fb
    ∧ (r.toneTold n o w).store = r.store ∧ (r.toneTold n o w).out = r.out ∧ (r.toneTold n o w).box = r.box
    ∧ (r.toneTold n o w).mix.settings = r.mix.settings ∧ (r.toneTold n o w).mix.standby = r.mix.standby
    ∧ (r.toneTold n o w).det.map Detector.settings = r.det.map Detector.settings := by
  unfold Room.toneTold
  try dsimp only
  repeat' split
  all_goals simp

@[simp] theorem Room.stateTold_keeps (r : Room) (n : Seat) (o w : Eff) :
    (r.stateTold n o w).map = r.map ∧ (r.stateTold n o w).lines = r.lines ∧ (r.stateTold n o w).det = r.det
    ∧ (r.stateTold n o w).mute = r.mute ∧ (r.stateTold n o w).floor = r.floor ∧ (r.stateTold n o w).mix = r.mix
    ∧ (r.stateTold n o w).link = r.link ∧ (r.stateTold n o w).fb = r.fb ∧ (r.stateTold n o w).store = r.store
    ∧ (r.stateTold n o w).box = r.box ∧ (r.stateTold n o w).begun = r.begun := by
  unfold Room.stateTold
  try dsimp only
  repeat' split
  all_goals simp

@[simp] theorem Room.seatChanged_keeps (r : Room) (n : Seat) (o w : Eff) :
    (r.seatChanged n o w).map = r.map ∧ (r.seatChanged n o w).mute = r.mute
    ∧ (r.seatChanged n o w).store = r.store ∧ (r.seatChanged n o w).floor.settings = r.floor.settings
    ∧ (r.seatChanged n o w).floor.standby = r.floor.standby
    ∧ (r.seatChanged n o w).mix.settings = r.mix.settings ∧ (r.seatChanged n o w).mix.standby = r.mix.standby
    ∧ (r.seatChanged n o w).lines.map Line.facts = r.lines.map Line.facts
    ∧ (r.seatChanged n o w).lines.map Line.dark = r.lines.map Line.dark
    ∧ (r.seatChanged n o w).link.links = r.link.links ∧ (r.seatChanged n o w).link.call = r.link.call
    ∧ (r.seatChanged n o w).link.delay = r.link.delay
    ∧ (r.seatChanged n o w).det.map Detector.settings = r.det.map Detector.settings
    ∧ (r.seatChanged n o w).fb.settings = r.fb.settings
    ∧ (r.seatChanged n o w).fb.seats.map FbSeat.facts = r.fb.seats.map FbSeat.facts := by
  simp [Room.seatChanged]

@[simp] theorem Room.deriveSeat_keeps (r : Room) (n : Seat) :
    (r.deriveSeat n).map = r.map ∧ (r.deriveSeat n).store = r.store
    ∧ (r.deriveSeat n).floor.settings = r.floor.settings ∧ (r.deriveSeat n).floor.standby = r.floor.standby
    ∧ (r.deriveSeat n).mix.settings = r.mix.settings ∧ (r.deriveSeat n).mix.standby = r.mix.standby
    ∧ (r.deriveSeat n).lines.map Line.facts = r.lines.map Line.facts
    ∧ (r.deriveSeat n).lines.map Line.dark = r.lines.map Line.dark ∧ (r.deriveSeat n).link.links = r.link.links
    ∧ (r.deriveSeat n).link.call = r.link.call ∧ (r.deriveSeat n).link.delay = r.link.delay
    ∧ (r.deriveSeat n).det.map Detector.settings = r.det.map Detector.settings
    ∧ (r.deriveSeat n).fb.settings = r.fb.settings
    ∧ (r.deriveSeat n).fb.seats.map FbSeat.facts = r.fb.seats.map FbSeat.facts
    ∧ (r.deriveSeat n).mute.table = r.mute.table ∧ (r.deriveSeat n).mute.stamp = r.mute.stamp
    ∧ (r.deriveSeat n).mute.linkIdle = r.mute.linkIdle
    ∧ (r.deriveSeat n).mute.seats.map MuteSeat.facts = r.mute.seats.map MuteSeat.facts := by
  unfold Room.deriveSeat
  dsimp only
  split <;> simp

@[simp] theorem Room.deriveWay_keeps (r : Room) (k : Link) (d : Dir) (o w : Bool) :
    (r.deriveWay k d o w).map = r.map ∧ (r.deriveWay k d o w).lines = r.lines
    ∧ (r.deriveWay k d o w).mute = r.mute ∧ (r.deriveWay k d o w).floor = r.floor
    ∧ (r.deriveWay k d o w).link = r.link ∧ (r.deriveWay k d o w).fb = r.fb
    ∧ (r.deriveWay k d o w).store = r.store ∧ (r.deriveWay k d o w).box = r.box
    ∧ (r.deriveWay k d o w).mix.settings = r.mix.settings ∧ (r.deriveWay k d o w).mix.standby = r.mix.standby
    ∧ (r.deriveWay k d o w).det.map Detector.settings = r.det.map Detector.settings := by
  unfold Room.deriveWay
  try dsimp only
  repeat' split
  all_goals simp

@[simp] theorem Room.deriveLink_keeps (r : Room) (k : Link) :
    (r.deriveLink k).map = r.map ∧ (r.deriveLink k).lines = r.lines ∧ (r.deriveLink k).floor = r.floor
    ∧ (r.deriveLink k).link = r.link ∧ (r.deriveLink k).fb = r.fb ∧ (r.deriveLink k).store = r.store
    ∧ (r.deriveLink k).box = r.box ∧ (r.deriveLink k).mix.settings = r.mix.settings
    ∧ (r.deriveLink k).mix.standby = r.mix.standby ∧ (r.deriveLink k).mute.table = r.mute.table
    ∧ (r.deriveLink k).mute.stamp = r.mute.stamp ∧ (r.deriveLink k).mute.linkIdle = r.mute.linkIdle
    ∧ (r.deriveLink k).mute.seats.map MuteSeat.facts = r.mute.seats.map MuteSeat.facts
    ∧ (r.deriveLink k).det.map Detector.settings = r.det.map Detector.settings := by
  simp [Room.deriveLink]

theorem Room.deriveSeats_keeps (r : Room) (l : List Seat) :
    let t := l.foldl (Room.deriveSeat) r
    t.map = r.map ∧ t.store = r.store ∧ t.floor.settings = r.floor.settings ∧ t.floor.standby = r.floor.standby ∧ t.mix.settings = r.mix.settings ∧ t.mix.standby = r.mix.standby ∧ t.lines.map Line.facts = r.lines.map Line.facts ∧ t.lines.map Line.dark = r.lines.map Line.dark ∧ t.link.links = r.link.links ∧ t.link.call = r.link.call ∧ t.link.delay = r.link.delay ∧ t.det.map Detector.settings = r.det.map Detector.settings ∧ t.fb.settings = r.fb.settings ∧ t.fb.seats.map FbSeat.facts = r.fb.seats.map FbSeat.facts ∧ t.mute.table = r.mute.table ∧ t.mute.stamp = r.mute.stamp ∧ t.mute.linkIdle = r.mute.linkIdle ∧ t.mute.seats.map MuteSeat.facts = r.mute.seats.map MuteSeat.facts := by
  have h := foldl_keeps (π := fun r : Room => (r.map, r.store, r.floor.settings, r.floor.standby, r.mix.settings, r.mix.standby, r.lines.map Line.facts, r.lines.map Line.dark, r.link.links, r.link.call, r.link.delay, r.det.map Detector.settings, r.fb.settings, r.fb.seats.map FbSeat.facts, r.mute.table, r.mute.stamp, r.mute.linkIdle, r.mute.seats.map MuteSeat.facts))
    (Room.deriveSeat) (fun r x => by
      repeat' split
      all_goals simp) l r
  simpa only [Prod.mk.injEq] using h

theorem Room.deriveLinks_keeps (r : Room) (l : List Link) :
    let t := l.foldl (Room.deriveLink) r
    t.map = r.map ∧ t.store = r.store ∧ t.floor.settings = r.floor.settings ∧ t.floor.standby = r.floor.standby ∧ t.mix.settings = r.mix.settings ∧ t.mix.standby = r.mix.standby ∧ t.lines.map Line.facts = r.lines.map Line.facts ∧ t.lines.map Line.dark = r.lines.map Line.dark ∧ t.link.links = r.link.links ∧ t.link.call = r.link.call ∧ t.link.delay = r.link.delay ∧ t.det.map Detector.settings = r.det.map Detector.settings ∧ t.fb.settings = r.fb.settings ∧ t.fb.seats.map FbSeat.facts = r.fb.seats.map FbSeat.facts ∧ t.mute.table = r.mute.table ∧ t.mute.stamp = r.mute.stamp ∧ t.mute.linkIdle = r.mute.linkIdle ∧ t.mute.seats.map MuteSeat.facts = r.mute.seats.map MuteSeat.facts := by
  have h := foldl_keeps (π := fun r : Room => (r.map, r.store, r.floor.settings, r.floor.standby, r.mix.settings, r.mix.standby, r.lines.map Line.facts, r.lines.map Line.dark, r.link.links, r.link.call, r.link.delay, r.det.map Detector.settings, r.fb.settings, r.fb.seats.map FbSeat.facts, r.mute.table, r.mute.stamp, r.mute.linkIdle, r.mute.seats.map MuteSeat.facts))
    (Room.deriveLink) (fun r x => by
      repeat' split
      all_goals simp) l r
  simpa only [Prod.mk.injEq] using h

@[simp] theorem Room.derive_keeps (r : Room) :
    (r.derive).map = r.map ∧ (r.derive).store = r.store ∧ (r.derive).floor.settings = r.floor.settings
    ∧ (r.derive).floor.standby = r.floor.standby ∧ (r.derive).mix.settings = r.mix.settings
    ∧ (r.derive).mix.standby = r.mix.standby ∧ (r.derive).lines.map Line.facts = r.lines.map Line.facts
    ∧ (r.derive).lines.map Line.dark = r.lines.map Line.dark ∧ (r.derive).link.links = r.link.links
    ∧ (r.derive).link.call = r.link.call ∧ (r.derive).link.delay = r.link.delay
    ∧ (r.derive).det.map Detector.settings = r.det.map Detector.settings
    ∧ (r.derive).fb.settings = r.fb.settings
    ∧ (r.derive).fb.seats.map FbSeat.facts = r.fb.seats.map FbSeat.facts ∧ (r.derive).mute.table = r.mute.table
    ∧ (r.derive).mute.stamp = r.mute.stamp ∧ (r.derive).mute.linkIdle = r.mute.linkIdle
    ∧ (r.derive).mute.seats.map MuteSeat.facts = r.mute.seats.map MuteSeat.facts := by
  simp [Room.derive, Room.deriveSeats_keeps, Room.deriveLinks_keeps]

@[simp] theorem Room.heldPress_keeps (r : Room) (n : Seat) (b : Button) :
    (r.heldPress n b).map = r.map ∧ (r.heldPress n b).lines = r.lines ∧ (r.heldPress n b).mute = r.mute
    ∧ (r.heldPress n b).floor = r.floor ∧ (r.heldPress n b).link = r.link ∧ (r.heldPress n b).fb = r.fb
    ∧ (r.heldPress n b).store = r.store ∧ (r.heldPress n b).box = r.box
    ∧ (r.heldPress n b).mix.settings = r.mix.settings ∧ (r.heldPress n b).mix.standby = r.mix.standby
    ∧ (r.heldPress n b).det.map Detector.settings = r.det.map Detector.settings := by
  unfold Room.heldPress
  try dsimp only
  repeat' split
  all_goals simp

@[simp] theorem Room.micPress_keeps (r : Room) (n : Seat) :
    (r.micPress n).map = r.map ∧ (r.micPress n).store = r.store
    ∧ (r.micPress n).floor.settings = r.floor.settings ∧ (r.micPress n).floor.standby = r.floor.standby
    ∧ (r.micPress n).mix.settings = r.mix.settings ∧ (r.micPress n).mix.standby = r.mix.standby
    ∧ (r.micPress n).lines.map Line.facts = r.lines.map Line.facts
    ∧ (r.micPress n).lines.map Line.dark = r.lines.map Line.dark ∧ (r.micPress n).link.links = r.link.links
    ∧ (r.micPress n).link.call = r.link.call ∧ (r.micPress n).link.delay = r.link.delay
    ∧ (r.micPress n).det.map Detector.settings = r.det.map Detector.settings
    ∧ (r.micPress n).fb.settings = r.fb.settings
    ∧ (r.micPress n).fb.seats.map FbSeat.facts = r.fb.seats.map FbSeat.facts
    ∧ (r.micPress n).mute.table = r.mute.table ∧ (r.micPress n).mute.stamp = r.mute.stamp
    ∧ (r.micPress n).mute.linkIdle = r.mute.linkIdle := by
  unfold Room.micPress
  try dsimp only
  repeat' split
  all_goals simp

@[simp] theorem Room.talkRelease_keeps (r : Room) (n : Seat) :
    (r.talkRelease n).1.map = r.map ∧ (r.talkRelease n).1.store = r.store ∧ (r.talkRelease n).1.floor.settings = r.floor.settings ∧ (r.talkRelease n).1.floor.standby = r.floor.standby ∧ (r.talkRelease n).1.mix.settings = r.mix.settings ∧ (r.talkRelease n).1.mix.standby = r.mix.standby ∧ (r.talkRelease n).1.lines.map Line.facts = r.lines.map Line.facts ∧ (r.talkRelease n).1.lines.map Line.dark = r.lines.map Line.dark ∧ (r.talkRelease n).1.link.links = r.link.links ∧ (r.talkRelease n).1.link.call = r.link.call ∧ (r.talkRelease n).1.link.delay = r.link.delay ∧ (r.talkRelease n).1.det.map Detector.settings = r.det.map Detector.settings ∧ (r.talkRelease n).1.fb.settings = r.fb.settings ∧ (r.talkRelease n).1.fb.seats.map FbSeat.facts = r.fb.seats.map FbSeat.facts ∧ (r.talkRelease n).1.mute.table = r.mute.table ∧ (r.talkRelease n).1.mute.stamp = r.mute.stamp ∧ (r.talkRelease n).1.mute.linkIdle = r.mute.linkIdle := by
  unfold Room.talkRelease
  dsimp only
  split <;> simp

@[simp] theorem Room.goneAll_keeps (r : Room) (cs : List Claim) (why : GoneReason) :
    (r.goneAll cs why).map = r.map ∧ (r.goneAll cs why).lines = r.lines ∧ (r.goneAll cs why).det = r.det
    ∧ (r.goneAll cs why).floor = r.floor ∧ (r.goneAll cs why).mix = r.mix ∧ (r.goneAll cs why).link = r.link
    ∧ (r.goneAll cs why).fb = r.fb ∧ (r.goneAll cs why).store = r.store ∧ (r.goneAll cs why).box = r.box
    ∧ (r.goneAll cs why).begun = r.begun ∧ (r.goneAll cs why).mute.stamp = r.mute.stamp
    ∧ (r.goneAll cs why).mute.linkIdle = r.mute.linkIdle
    ∧ (r.goneAll cs why).mute.seats.map MuteSeat.facts = r.mute.seats.map MuteSeat.facts
    ∧ (r.goneAll cs why).mute.eff = r.mute.eff ∧ (r.goneAll cs why).mute.links = r.mute.links := by
  unfold Room.goneAll
  have h := foldl_keeps (π := fun r : Room => (r.map, r.lines, r.det, r.floor, r.mix, r.link, r.fb, r.store, r.box, r.begun, r.mute.stamp, r.mute.linkIdle, r.mute.seats.map MuteSeat.facts, r.mute.eff, r.mute.links))
    (fun (r : Room) c => (r.dropClaim c.number).emit (.claimGone c why)) (fun r x => by
      try dsimp only
      repeat' split
      all_goals simp) cs r
  simpa only [Prod.mk.injEq] using h

@[simp] theorem Room.roomPress_keeps (r : Room) (n : Seat) :
    (r.roomPress n).map = r.map ∧ (r.roomPress n).store = r.store
    ∧ (r.roomPress n).floor.settings = r.floor.settings ∧ (r.roomPress n).floor.standby = r.floor.standby
    ∧ (r.roomPress n).mix.settings = r.mix.settings ∧ (r.roomPress n).mix.standby = r.mix.standby
    ∧ (r.roomPress n).lines.map Line.facts = r.lines.map Line.facts
    ∧ (r.roomPress n).lines.map Line.dark = r.lines.map Line.dark ∧ (r.roomPress n).link.links = r.link.links
    ∧ (r.roomPress n).link.call = r.link.call ∧ (r.roomPress n).link.delay = r.link.delay
    ∧ (r.roomPress n).det.map Detector.settings = r.det.map Detector.settings
    ∧ (r.roomPress n).fb.settings = r.fb.settings
    ∧ (r.roomPress n).fb.seats.map FbSeat.facts = r.fb.seats.map FbSeat.facts
    ∧ (r.roomPress n).mute.linkIdle = r.mute.linkIdle
    ∧ (r.roomPress n).mute.seats.map MuteSeat.facts = r.mute.seats.map MuteSeat.facts := by
  unfold Room.roomPress
  try dsimp only
  repeat' split
  all_goals simp

@[simp] theorem Room.fbRaise_keeps (r : Room) (n : Seat) :
    (r.fbRaise n).map = r.map ∧ (r.fbRaise n).store = r.store
    ∧ (r.fbRaise n).floor.settings = r.floor.settings ∧ (r.fbRaise n).floor.standby = r.floor.standby
    ∧ (r.fbRaise n).mix.settings = r.mix.settings ∧ (r.fbRaise n).mix.standby = r.mix.standby
    ∧ (r.fbRaise n).lines.map Line.facts = r.lines.map Line.facts
    ∧ (r.fbRaise n).lines.map Line.dark = r.lines.map Line.dark ∧ (r.fbRaise n).link.links = r.link.links
    ∧ (r.fbRaise n).link.call = r.link.call ∧ (r.fbRaise n).link.delay = r.link.delay
    ∧ (r.fbRaise n).det.map Detector.settings = r.det.map Detector.settings
    ∧ (r.fbRaise n).fb.settings = r.fb.settings
    ∧ (r.fbRaise n).fb.seats.map FbSeat.facts = r.fb.seats.map FbSeat.facts
    ∧ (r.fbRaise n).mute.table = r.mute.table ∧ (r.fbRaise n).mute.stamp = r.mute.stamp
    ∧ (r.fbRaise n).mute.linkIdle = r.mute.linkIdle := by
  unfold Room.fbRaise
  try dsimp only
  repeat' split
  all_goals simp

@[simp] theorem Room.fbClear_keeps (r : Room) (n : Seat) :
    (r.fbClear n).map = r.map ∧ (r.fbClear n).store = r.store
    ∧ (r.fbClear n).floor.settings = r.floor.settings ∧ (r.fbClear n).floor.standby = r.floor.standby
    ∧ (r.fbClear n).mix.settings = r.mix.settings ∧ (r.fbClear n).mix.standby = r.mix.standby
    ∧ (r.fbClear n).lines.map Line.facts = r.lines.map Line.facts
    ∧ (r.fbClear n).lines.map Line.dark = r.lines.map Line.dark ∧ (r.fbClear n).link.links = r.link.links
    ∧ (r.fbClear n).link.call = r.link.call ∧ (r.fbClear n).link.delay = r.link.delay
    ∧ (r.fbClear n).det.map Detector.settings = r.det.map Detector.settings
    ∧ (r.fbClear n).fb.settings = r.fb.settings
    ∧ (r.fbClear n).fb.seats.map FbSeat.facts = r.fb.seats.map FbSeat.facts
    ∧ (r.fbClear n).mute.table = r.mute.table ∧ (r.fbClear n).mute.stamp = r.mute.stamp
    ∧ (r.fbClear n).mute.linkIdle = r.mute.linkIdle := by
  unfold Room.fbClear
  try dsimp only
  repeat' split
  all_goals simp

@[simp] theorem Room.privacyReport_keeps (r : Room) (n : Seat) (b : Bool) :
    (r.privacyReport n b).map = r.map ∧ (r.privacyReport n b).store = r.store
    ∧ (r.privacyReport n b).floor.settings = r.floor.settings
    ∧ (r.privacyReport n b).floor.standby = r.floor.standby
    ∧ (r.privacyReport n b).mix.settings = r.mix.settings ∧ (r.privacyReport n b).mix.standby = r.mix.standby
    ∧ (r.privacyReport n b).lines.map Line.facts = r.lines.map Line.facts
    ∧ (r.privacyReport n b).lines.map Line.dark = r.lines.map Line.dark
    ∧ (r.privacyReport n b).link.links = r.link.links ∧ (r.privacyReport n b).link.call = r.link.call
    ∧ (r.privacyReport n b).link.delay = r.link.delay
    ∧ (r.privacyReport n b).det.map Detector.settings = r.det.map Detector.settings
    ∧ (r.privacyReport n b).fb.settings = r.fb.settings
    ∧ (r.privacyReport n b).fb.seats.map FbSeat.facts = r.fb.seats.map FbSeat.facts
    ∧ (r.privacyReport n b).mute.table = r.mute.table ∧ (r.privacyReport n b).mute.stamp = r.mute.stamp
    ∧ (r.privacyReport n b).mute.linkIdle = r.mute.linkIdle := by
  unfold Room.privacyReport
  try dsimp only
  repeat' split
  all_goals simp

@[simp] theorem Room.mutePresence_keeps (r : Room) (n : Seat) (p : Presence) :
    (r.mutePresence n p).map = r.map ∧ (r.mutePresence n p).store = r.store
    ∧ (r.mutePresence n p).floor.settings = r.floor.settings
    ∧ (r.mutePresence n p).floor.standby = r.floor.standby ∧ (r.mutePresence n p).mix.settings = r.mix.settings
    ∧ (r.mutePresence n p).mix.standby = r.mix.standby
    ∧ (r.mutePresence n p).lines.map Line.facts = r.lines.map Line.facts
    ∧ (r.mutePresence n p).lines.map Line.dark = r.lines.map Line.dark
    ∧ (r.mutePresence n p).link.links = r.link.links ∧ (r.mutePresence n p).link.call = r.link.call
    ∧ (r.mutePresence n p).link.delay = r.link.delay
    ∧ (r.mutePresence n p).det.map Detector.settings = r.det.map Detector.settings
    ∧ (r.mutePresence n p).fb.settings = r.fb.settings
    ∧ (r.mutePresence n p).fb.seats.map FbSeat.facts = r.fb.seats.map FbSeat.facts
    ∧ (r.mutePresence n p).mute.table = r.mute.table ∧ (r.mutePresence n p).mute.stamp = r.mute.stamp
    ∧ (r.mutePresence n p).mute.linkIdle = r.mute.linkIdle := by
  unfold Room.mutePresence
  try dsimp only
  repeat' split
  all_goals simp

@[simp] theorem Room.checkChair_keeps (r : Room) (n : Seat) :
    (r.checkChair n).map = r.map ∧ (r.checkChair n).det = r.det ∧ (r.checkChair n).floor = r.floor
    ∧ (r.checkChair n).mix = r.mix ∧ (r.checkChair n).link = r.link ∧ (r.checkChair n).fb = r.fb
    ∧ (r.checkChair n).store = r.store ∧ (r.checkChair n).box = r.box ∧ (r.checkChair n).begun = r.begun
    ∧ (r.checkChair n).mute.stamp = r.mute.stamp ∧ (r.checkChair n).mute.linkIdle = r.mute.linkIdle
    ∧ (r.checkChair n).mute.seats.map MuteSeat.facts = r.mute.seats.map MuteSeat.facts
    ∧ (r.checkChair n).lines.map Line.facts = r.lines.map Line.facts
    ∧ (r.checkChair n).lines.map Line.dark = r.lines.map Line.dark := by
  unfold Room.checkChair
  try dsimp only
  repeat' split
  all_goals simp

@[simp] theorem Room.muteReseated_keeps (r : Room) (n : Seat) :
    (r.muteReseated n).map = r.map ∧ (r.muteReseated n).store = r.store
    ∧ (r.muteReseated n).floor.settings = r.floor.settings ∧ (r.muteReseated n).floor.standby = r.floor.standby
    ∧ (r.muteReseated n).mix.settings = r.mix.settings ∧ (r.muteReseated n).mix.standby = r.mix.standby
    ∧ (r.muteReseated n).lines.map Line.facts = r.lines.map Line.facts
    ∧ (r.muteReseated n).lines.map Line.dark = r.lines.map Line.dark
    ∧ (r.muteReseated n).link.links = r.link.links ∧ (r.muteReseated n).link.call = r.link.call
    ∧ (r.muteReseated n).link.delay = r.link.delay
    ∧ (r.muteReseated n).det.map Detector.settings = r.det.map Detector.settings
    ∧ (r.muteReseated n).fb.settings = r.fb.settings
    ∧ (r.muteReseated n).fb.seats.map FbSeat.facts = r.fb.seats.map FbSeat.facts
    ∧ (r.muteReseated n).mute.stamp = r.mute.stamp ∧ (r.muteReseated n).mute.linkIdle = r.mute.linkIdle := by
  unfold Room.muteReseated
  try dsimp only
  repeat' split
  all_goals simp

@[simp] theorem Room.muteSpeech_keeps (r : Room) (n : Seat) (b : Bool) :
    (r.muteSpeech n b).map = r.map ∧ (r.muteSpeech n b).det = r.det ∧ (r.muteSpeech n b).floor = r.floor
    ∧ (r.muteSpeech n b).mix = r.mix ∧ (r.muteSpeech n b).link = r.link ∧ (r.muteSpeech n b).fb = r.fb
    ∧ (r.muteSpeech n b).store = r.store ∧ (r.muteSpeech n b).box = r.box ∧ (r.muteSpeech n b).begun = r.begun
    ∧ (r.muteSpeech n b).mute.table = r.mute.table ∧ (r.muteSpeech n b).mute.stamp = r.mute.stamp
    ∧ (r.muteSpeech n b).mute.linkIdle = r.mute.linkIdle
    ∧ (r.muteSpeech n b).mute.seats.map MuteSeat.facts = r.mute.seats.map MuteSeat.facts
    ∧ (r.muteSpeech n b).lines.map Line.facts = r.lines.map Line.facts
    ∧ (r.muteSpeech n b).lines.map Line.dark = r.lines.map Line.dark := by
  unfold Room.muteSpeech
  simp
  exact Room.setMuteSeat_flagFacts _ _ _ fun x => by cases b <;> rfl

@[simp] theorem Room.linkEnteredIdle_keeps (r : Room) (k : Link) :
    (r.linkEnteredIdle k).map = r.map ∧ (r.linkEnteredIdle k).store = r.store
    ∧ (r.linkEnteredIdle k).floor.settings = r.floor.settings
    ∧ (r.linkEnteredIdle k).floor.standby = r.floor.standby
    ∧ (r.linkEnteredIdle k).mix.settings = r.mix.settings ∧ (r.linkEnteredIdle k).mix.standby = r.mix.standby
    ∧ (r.linkEnteredIdle k).lines.map Line.facts = r.lines.map Line.facts
    ∧ (r.linkEnteredIdle k).lines.map Line.dark = r.lines.map Line.dark
    ∧ (r.linkEnteredIdle k).link.links = r.link.links ∧ (r.linkEnteredIdle k).link.call = r.link.call
    ∧ (r.linkEnteredIdle k).link.delay = r.link.delay
    ∧ (r.linkEnteredIdle k).det.map Detector.settings = r.det.map Detector.settings
    ∧ (r.linkEnteredIdle k).fb.settings = r.fb.settings
    ∧ (r.linkEnteredIdle k).fb.seats.map FbSeat.facts = r.fb.seats.map FbSeat.facts
    ∧ (r.linkEnteredIdle k).mute.stamp = r.mute.stamp
    ∧ (r.linkEnteredIdle k).mute.seats.map MuteSeat.facts = r.mute.seats.map MuteSeat.facts := by
  simp [Room.linkEnteredIdle]

@[simp] theorem Room.claimExpiry_keeps (r : Room) (i : Fin 48) :
    (r.claimExpiry i).map = r.map ∧ (r.claimExpiry i).store = r.store
    ∧ (r.claimExpiry i).floor.settings = r.floor.settings ∧ (r.claimExpiry i).floor.standby = r.floor.standby
    ∧ (r.claimExpiry i).mix.settings = r.mix.settings ∧ (r.claimExpiry i).mix.standby = r.mix.standby
    ∧ (r.claimExpiry i).lines.map Line.facts = r.lines.map Line.facts
    ∧ (r.claimExpiry i).lines.map Line.dark = r.lines.map Line.dark
    ∧ (r.claimExpiry i).link.links = r.link.links ∧ (r.claimExpiry i).link.call = r.link.call
    ∧ (r.claimExpiry i).link.delay = r.link.delay
    ∧ (r.claimExpiry i).det.map Detector.settings = r.det.map Detector.settings
    ∧ (r.claimExpiry i).fb.settings = r.fb.settings
    ∧ (r.claimExpiry i).fb.seats.map FbSeat.facts = r.fb.seats.map FbSeat.facts
    ∧ (r.claimExpiry i).mute.stamp = r.mute.stamp ∧ (r.claimExpiry i).mute.linkIdle = r.mute.linkIdle
    ∧ (r.claimExpiry i).mute.seats.map MuteSeat.facts = r.mute.seats.map MuteSeat.facts := by
  unfold Room.claimExpiry
  try dsimp only
  repeat' split
  all_goals simp

@[simp] theorem Room.liftView_keeps (r : Room) (w : Claimant) :
    (r.liftView w).map = r.map ∧ (r.liftView w).det = r.det ∧ (r.liftView w).mute = r.mute
    ∧ (r.liftView w).floor = r.floor ∧ (r.liftView w).mix = r.mix ∧ (r.liftView w).link = r.link
    ∧ (r.liftView w).fb = r.fb ∧ (r.liftView w).store = r.store ∧ (r.liftView w).out = r.out
    ∧ (r.liftView w).box = r.box ∧ (r.liftView w).begun = r.begun
    ∧ (r.liftView w).lines.map Line.facts = r.lines.map Line.facts
    ∧ (r.liftView w).lines.map Line.dark = r.lines.map Line.dark := by
  unfold Room.liftView
  try dsimp only
  repeat' split
  all_goals simp

/-! ## The detectors -/

@[simp] theorem Room.report_keeps (r : Room) (n : Seat) (b : Bool) :
    (r.report n b).map = r.map ∧ (r.report n b).fb = r.fb ∧ (r.report n b).store = r.store
    ∧ (r.report n b).floor.settings = r.floor.settings ∧ (r.report n b).floor.standby = r.floor.standby
    ∧ (r.report n b).mix.settings = r.mix.settings ∧ (r.report n b).mix.standby = r.mix.standby
    ∧ (r.report n b).lines.map Line.facts = r.lines.map Line.facts
    ∧ (r.report n b).lines.map Line.dark = r.lines.map Line.dark ∧ (r.report n b).link.links = r.link.links
    ∧ (r.report n b).link.call = r.link.call ∧ (r.report n b).link.delay = r.link.delay
    ∧ (r.report n b).det.map Detector.settings = r.det.map Detector.settings
    ∧ (r.report n b).mute.table = r.mute.table ∧ (r.report n b).mute.stamp = r.mute.stamp
    ∧ (r.report n b).mute.linkIdle = r.mute.linkIdle
    ∧ (r.report n b).mute.seats.map MuteSeat.facts = r.mute.seats.map MuteSeat.facts := by
  unfold Room.report
  try dsimp only
  repeat' split
  all_goals simp

@[simp] theorem Room.runDet_keeps (r : Room) (n : Seat) (f : Detector → Heard) :
    (r.runDet n f).map = r.map ∧ (r.runDet n f).fb = r.fb ∧ (r.runDet n f).store = r.store
    ∧ (r.runDet n f).floor.settings = r.floor.settings ∧ (r.runDet n f).floor.standby = r.floor.standby
    ∧ (r.runDet n f).mix.settings = r.mix.settings ∧ (r.runDet n f).mix.standby = r.mix.standby
    ∧ (r.runDet n f).lines.map Line.facts = r.lines.map Line.facts
    ∧ (r.runDet n f).lines.map Line.dark = r.lines.map Line.dark ∧ (r.runDet n f).link.links = r.link.links
    ∧ (r.runDet n f).link.call = r.link.call ∧ (r.runDet n f).link.delay = r.link.delay
    ∧ (r.runDet n f).mute.table = r.mute.table ∧ (r.runDet n f).mute.stamp = r.mute.stamp
    ∧ (r.runDet n f).mute.linkIdle = r.mute.linkIdle
    ∧ (r.runDet n f).mute.seats.map MuteSeat.facts = r.mute.seats.map MuteSeat.facts := by
  unfold Room.runDet
  try dsimp only
  repeat' split
  all_goals simp

/-! ## The Feedback Monitor -/

@[simp] theorem Room.fbPresence_keeps (r : Room) (n : Seat) (p : Presence) :
    (r.fbPresence n p).map = r.map ∧ (r.fbPresence n p).lines = r.lines ∧ (r.fbPresence n p).mute = r.mute
    ∧ (r.fbPresence n p).floor = r.floor ∧ (r.fbPresence n p).link = r.link
    ∧ (r.fbPresence n p).store = r.store ∧ (r.fbPresence n p).box = r.box
    ∧ (r.fbPresence n p).fb.settings = r.fb.settings ∧ (r.fbPresence n p).mix.settings = r.mix.settings
    ∧ (r.fbPresence n p).mix.standby = r.mix.standby
    ∧ (r.fbPresence n p).det.map Detector.settings = r.det.map Detector.settings := by
  unfold Room.fbPresence
  try dsimp only
  repeat' split
  all_goals simp

@[simp] theorem Room.tripReport_keeps (r : Room) (n : Seat) (b : Bool) :
    (r.tripReport n b).map = r.map ∧ (r.tripReport n b).lines = r.lines ∧ (r.tripReport n b).det = r.det
    ∧ (r.tripReport n b).mute = r.mute ∧ (r.tripReport n b).floor = r.floor ∧ (r.tripReport n b).mix = r.mix
    ∧ (r.tripReport n b).link = r.link ∧ (r.tripReport n b).fb = r.fb ∧ (r.tripReport n b).store = r.store
    ∧ (r.tripReport n b).box = r.box ∧ (r.tripReport n b).begun = r.begun := by
  unfold Room.tripReport
  try dsimp only
  repeat' split
  all_goals simp

@[simp] theorem Room.tripLatch_keeps (r : Room) (n : Seat) (b : Bool) :
    (r.tripLatch n b).map = r.map ∧ (r.tripLatch n b).store = r.store
    ∧ (r.tripLatch n b).floor.settings = r.floor.settings ∧ (r.tripLatch n b).floor.standby = r.floor.standby
    ∧ (r.tripLatch n b).mix.settings = r.mix.settings ∧ (r.tripLatch n b).mix.standby = r.mix.standby
    ∧ (r.tripLatch n b).lines.map Line.facts = r.lines.map Line.facts
    ∧ (r.tripLatch n b).lines.map Line.dark = r.lines.map Line.dark
    ∧ (r.tripLatch n b).link.links = r.link.links ∧ (r.tripLatch n b).link.call = r.link.call
    ∧ (r.tripLatch n b).link.delay = r.link.delay
    ∧ (r.tripLatch n b).det.map Detector.settings = r.det.map Detector.settings
    ∧ (r.tripLatch n b).fb.settings = r.fb.settings ∧ (r.tripLatch n b).mute.table = r.mute.table
    ∧ (r.tripLatch n b).mute.stamp = r.mute.stamp ∧ (r.tripLatch n b).mute.linkIdle = r.mute.linkIdle := by
  unfold Room.tripLatch
  try dsimp only
  repeat' split
  all_goals simp

@[simp] theorem Room.tripRetry_keeps (r : Room) (n : Seat) (b : Bool) :
    (r.tripRetry n b).map = r.map ∧ (r.tripRetry n b).store = r.store
    ∧ (r.tripRetry n b).floor.settings = r.floor.settings ∧ (r.tripRetry n b).floor.standby = r.floor.standby
    ∧ (r.tripRetry n b).mix.settings = r.mix.settings ∧ (r.tripRetry n b).mix.standby = r.mix.standby
    ∧ (r.tripRetry n b).lines.map Line.facts = r.lines.map Line.facts
    ∧ (r.tripRetry n b).lines.map Line.dark = r.lines.map Line.dark
    ∧ (r.tripRetry n b).link.links = r.link.links ∧ (r.tripRetry n b).link.call = r.link.call
    ∧ (r.tripRetry n b).link.delay = r.link.delay
    ∧ (r.tripRetry n b).det.map Detector.settings = r.det.map Detector.settings
    ∧ (r.tripRetry n b).fb.settings = r.fb.settings ∧ (r.tripRetry n b).mute.table = r.mute.table
    ∧ (r.tripRetry n b).mute.stamp = r.mute.stamp ∧ (r.tripRetry n b).mute.linkIdle = r.mute.linkIdle := by
  unfold Room.tripRetry
  try dsimp only
  repeat' split
  all_goals simp

@[simp] theorem Room.trip_keeps (r : Room) (n : Seat) (b : Bool) :
    (r.trip n b).map = r.map ∧ (r.trip n b).store = r.store ∧ (r.trip n b).floor.settings = r.floor.settings
    ∧ (r.trip n b).floor.standby = r.floor.standby ∧ (r.trip n b).mix.settings = r.mix.settings
    ∧ (r.trip n b).mix.standby = r.mix.standby ∧ (r.trip n b).lines.map Line.facts = r.lines.map Line.facts
    ∧ (r.trip n b).lines.map Line.dark = r.lines.map Line.dark ∧ (r.trip n b).link.links = r.link.links
    ∧ (r.trip n b).link.call = r.link.call ∧ (r.trip n b).link.delay = r.link.delay
    ∧ (r.trip n b).det.map Detector.settings = r.det.map Detector.settings
    ∧ (r.trip n b).fb.settings = r.fb.settings ∧ (r.trip n b).mute.table = r.mute.table
    ∧ (r.trip n b).mute.stamp = r.mute.stamp ∧ (r.trip n b).mute.linkIdle = r.mute.linkIdle := by
  unfold Room.trip
  try dsimp only
  repeat' split
  all_goals simp

@[simp] theorem Room.judgeWindow_keeps (r : Room) (n : Seat) (b : Bool) :
    (r.judgeWindow n b).map = r.map ∧ (r.judgeWindow n b).store = r.store
    ∧ (r.judgeWindow n b).floor.settings = r.floor.settings
    ∧ (r.judgeWindow n b).floor.standby = r.floor.standby ∧ (r.judgeWindow n b).mix.settings = r.mix.settings
    ∧ (r.judgeWindow n b).mix.standby = r.mix.standby
    ∧ (r.judgeWindow n b).lines.map Line.facts = r.lines.map Line.facts
    ∧ (r.judgeWindow n b).lines.map Line.dark = r.lines.map Line.dark
    ∧ (r.judgeWindow n b).link.links = r.link.links ∧ (r.judgeWindow n b).link.call = r.link.call
    ∧ (r.judgeWindow n b).link.delay = r.link.delay
    ∧ (r.judgeWindow n b).det.map Detector.settings = r.det.map Detector.settings
    ∧ (r.judgeWindow n b).fb.settings = r.fb.settings ∧ (r.judgeWindow n b).mute.table = r.mute.table
    ∧ (r.judgeWindow n b).mute.stamp = r.mute.stamp ∧ (r.judgeWindow n b).mute.linkIdle = r.mute.linkIdle := by
  unfold Room.judgeWindow
  try dsimp only
  repeat' split
  all_goals simp

@[simp] theorem Room.windowEnd_keeps (r : Room) (n : Seat) (c : Nat) (p : Int) :
    (r.windowEnd n c p).map = r.map ∧ (r.windowEnd n c p).store = r.store
    ∧ (r.windowEnd n c p).floor.settings = r.floor.settings
    ∧ (r.windowEnd n c p).floor.standby = r.floor.standby ∧ (r.windowEnd n c p).mix.settings = r.mix.settings
    ∧ (r.windowEnd n c p).mix.standby = r.mix.standby
    ∧ (r.windowEnd n c p).lines.map Line.facts = r.lines.map Line.facts
    ∧ (r.windowEnd n c p).lines.map Line.dark = r.lines.map Line.dark
    ∧ (r.windowEnd n c p).link.links = r.link.links ∧ (r.windowEnd n c p).link.call = r.link.call
    ∧ (r.windowEnd n c p).link.delay = r.link.delay
    ∧ (r.windowEnd n c p).det.map Detector.settings = r.det.map Detector.settings
    ∧ (r.windowEnd n c p).fb.settings = r.fb.settings ∧ (r.windowEnd n c p).mute.table = r.mute.table
    ∧ (r.windowEnd n c p).mute.stamp = r.mute.stamp ∧ (r.windowEnd n c p).mute.linkIdle = r.mute.linkIdle := by
  unfold Room.windowEnd
  try dsimp only
  repeat' split
  all_goals simp

@[simp] theorem Room.retryExpiry_keeps (r : Room) (n : Seat) :
    (r.retryExpiry n).map = r.map ∧ (r.retryExpiry n).store = r.store
    ∧ (r.retryExpiry n).floor.settings = r.floor.settings ∧ (r.retryExpiry n).floor.standby = r.floor.standby
    ∧ (r.retryExpiry n).mix.settings = r.mix.settings ∧ (r.retryExpiry n).mix.standby = r.mix.standby
    ∧ (r.retryExpiry n).lines.map Line.facts = r.lines.map Line.facts
    ∧ (r.retryExpiry n).lines.map Line.dark = r.lines.map Line.dark
    ∧ (r.retryExpiry n).link.links = r.link.links ∧ (r.retryExpiry n).link.call = r.link.call
    ∧ (r.retryExpiry n).link.delay = r.link.delay
    ∧ (r.retryExpiry n).det.map Detector.settings = r.det.map Detector.settings
    ∧ (r.retryExpiry n).fb.settings = r.fb.settings ∧ (r.retryExpiry n).mute.table = r.mute.table
    ∧ (r.retryExpiry n).mute.stamp = r.mute.stamp ∧ (r.retryExpiry n).mute.linkIdle = r.mute.linkIdle := by
  unfold Room.retryExpiry
  try dsimp only
  repeat' split
  all_goals simp

@[simp] theorem Room.release_keeps (r : Room) (n : Seat) :
    (r.release n).map = r.map ∧ (r.release n).store = r.store
    ∧ (r.release n).floor.settings = r.floor.settings ∧ (r.release n).floor.standby = r.floor.standby
    ∧ (r.release n).mix.settings = r.mix.settings ∧ (r.release n).mix.standby = r.mix.standby
    ∧ (r.release n).lines.map Line.facts = r.lines.map Line.facts
    ∧ (r.release n).lines.map Line.dark = r.lines.map Line.dark ∧ (r.release n).link.links = r.link.links
    ∧ (r.release n).link.call = r.link.call ∧ (r.release n).link.delay = r.link.delay
    ∧ (r.release n).det.map Detector.settings = r.det.map Detector.settings
    ∧ (r.release n).fb.settings = r.fb.settings ∧ (r.release n).mute.table = r.mute.table
    ∧ (r.release n).mute.stamp = r.mute.stamp ∧ (r.release n).mute.linkIdle = r.mute.linkIdle := by
  unfold Room.release
  dsimp only
  repeat' split
  all_goals simp

@[simp] theorem Room.rehearseTrip_keeps (r : Room) (n : Seat) :
    (r.rehearseTrip n).map = r.map ∧ (r.rehearseTrip n).store = r.store
    ∧ (r.rehearseTrip n).floor.settings = r.floor.settings ∧ (r.rehearseTrip n).floor.standby = r.floor.standby
    ∧ (r.rehearseTrip n).mix.settings = r.mix.settings ∧ (r.rehearseTrip n).mix.standby = r.mix.standby
    ∧ (r.rehearseTrip n).lines.map Line.facts = r.lines.map Line.facts
    ∧ (r.rehearseTrip n).lines.map Line.dark = r.lines.map Line.dark
    ∧ (r.rehearseTrip n).link.links = r.link.links ∧ (r.rehearseTrip n).link.call = r.link.call
    ∧ (r.rehearseTrip n).link.delay = r.link.delay
    ∧ (r.rehearseTrip n).det.map Detector.settings = r.det.map Detector.settings
    ∧ (r.rehearseTrip n).fb.settings = r.fb.settings ∧ (r.rehearseTrip n).mute.table = r.mute.table
    ∧ (r.rehearseTrip n).mute.stamp = r.mute.stamp ∧ (r.rehearseTrip n).mute.linkIdle = r.mute.linkIdle := by
  unfold Room.rehearseTrip
  try dsimp only
  repeat' split
  all_goals simp

/-! ## The Seat Map unit -/

theorem Room.restart_detSettings (r : Room) (n : Seat) (b : Bool) :
    (r.setDet n fun d => d.restart b).det.map Detector.settings = r.det.map Detector.settings := by
  apply Room.setDet_detSettings
  unfold Detector.restart
  cases b <;> rfl

@[simp] theorem Room.presenceNotice_keeps (r : Room) (n : Seat) (p : Presence) :
    (r.presenceNotice n p).map = r.map ∧ (r.presenceNotice n p).store = r.store
    ∧ (r.presenceNotice n p).floor.settings = r.floor.settings
    ∧ (r.presenceNotice n p).floor.standby = r.floor.standby
    ∧ (r.presenceNotice n p).mix.settings = r.mix.settings ∧ (r.presenceNotice n p).mix.standby = r.mix.standby
    ∧ (r.presenceNotice n p).lines.map Line.facts = r.lines.map Line.facts
    ∧ (r.presenceNotice n p).lines.map Line.dark = r.lines.map Line.dark
    ∧ (r.presenceNotice n p).link.links = r.link.links ∧ (r.presenceNotice n p).link.call = r.link.call
    ∧ (r.presenceNotice n p).link.delay = r.link.delay
    ∧ (r.presenceNotice n p).det.map Detector.settings = r.det.map Detector.settings
    ∧ (r.presenceNotice n p).fb.settings = r.fb.settings ∧ (r.presenceNotice n p).mute.table = r.mute.table
    ∧ (r.presenceNotice n p).mute.stamp = r.mute.stamp ∧ (r.presenceNotice n p).mute.linkIdle = r.mute.linkIdle := by
  simp [Room.presenceNotice, Room.restart_detSettings]

@[simp] theorem Room.reseatedNotice_keeps (r : Room) (n : Seat) :
    (r.reseatedNotice n).map = r.map ∧ (r.reseatedNotice n).store = r.store
    ∧ (r.reseatedNotice n).floor.settings = r.floor.settings
    ∧ (r.reseatedNotice n).floor.standby = r.floor.standby ∧ (r.reseatedNotice n).mix.settings = r.mix.settings
    ∧ (r.reseatedNotice n).mix.standby = r.mix.standby
    ∧ (r.reseatedNotice n).lines.map Line.facts = r.lines.map Line.facts
    ∧ (r.reseatedNotice n).lines.map Line.dark = r.lines.map Line.dark
    ∧ (r.reseatedNotice n).link.links = r.link.links ∧ (r.reseatedNotice n).link.call = r.link.call
    ∧ (r.reseatedNotice n).link.delay = r.link.delay
    ∧ (r.reseatedNotice n).det.map Detector.settings = r.det.map Detector.settings
    ∧ (r.reseatedNotice n).fb.settings = r.fb.settings
    ∧ (r.reseatedNotice n).fb.seats.map FbSeat.facts = r.fb.seats.map FbSeat.facts
    ∧ (r.reseatedNotice n).mute.stamp = r.mute.stamp ∧ (r.reseatedNotice n).mute.linkIdle = r.mute.linkIdle := by
  simp [Room.reseatedNotice, Room.restart_detSettings]

@[simp] theorem Room.announce_keeps (r : Room) (n : Seat) (p : Presence) :
    (r.announce n p).map = r.map ∧ (r.announce n p).store = r.store
    ∧ (r.announce n p).floor.settings = r.floor.settings ∧ (r.announce n p).floor.standby = r.floor.standby
    ∧ (r.announce n p).mix.settings = r.mix.settings ∧ (r.announce n p).mix.standby = r.mix.standby
    ∧ (r.announce n p).lines.map Line.facts = r.lines.map Line.facts
    ∧ (r.announce n p).lines.map Line.dark = r.lines.map Line.dark ∧ (r.announce n p).link.links = r.link.links
    ∧ (r.announce n p).link.call = r.link.call ∧ (r.announce n p).link.delay = r.link.delay
    ∧ (r.announce n p).det.map Detector.settings = r.det.map Detector.settings
    ∧ (r.announce n p).fb.settings = r.fb.settings ∧ (r.announce n p).mute.stamp = r.mute.stamp
    ∧ (r.announce n p).mute.linkIdle = r.mute.linkIdle := by
  unfold Room.announce
  try dsimp only
  repeat' split
  all_goals simp

theorem Room.announceAll_keeps (r : Room) (l : List Seat) (f : Seat → Presence) :
    let t := l.foldl (fun (r : Room) n => r.announce n (f n)) r
    t.map = r.map ∧ t.store = r.store ∧ t.floor.settings = r.floor.settings ∧ t.floor.standby = r.floor.standby ∧ t.mix.settings = r.mix.settings ∧ t.mix.standby = r.mix.standby ∧ t.lines.map Line.facts = r.lines.map Line.facts ∧ t.lines.map Line.dark = r.lines.map Line.dark ∧ t.link.links = r.link.links ∧ t.link.call = r.link.call ∧ t.link.delay = r.link.delay ∧ t.det.map Detector.settings = r.det.map Detector.settings ∧ t.fb.settings = r.fb.settings ∧ t.mute.stamp = r.mute.stamp ∧ t.mute.linkIdle = r.mute.linkIdle := by
  have h := foldl_keeps (π := fun r : Room => (r.map, r.store, r.floor.settings, r.floor.standby, r.mix.settings, r.mix.standby, r.lines.map Line.facts, r.lines.map Line.dark, r.link.links, r.link.call, r.link.delay, r.det.map Detector.settings, r.fb.settings, r.mute.stamp, r.mute.linkIdle))
    (fun (r : Room) n => r.announce n (f n)) (fun r x => by
      repeat' split
      all_goals simp) l r
  simpa only [Prod.mk.injEq] using h

theorem Room.repositionAll_keeps (r : Room) (l : List PodPos) :
    let t := l.foldl (Room.reposition) r
    t.map = r.map ∧ t.det = r.det ∧ t.mute = r.mute ∧ t.floor = r.floor ∧ t.mix = r.mix ∧ t.link = r.link ∧ t.fb = r.fb ∧ t.store = r.store ∧ t.out = r.out ∧ t.box = r.box ∧ t.begun = r.begun ∧ t.lines.map Line.facts = r.lines.map Line.facts ∧ t.lines.map Line.dark = r.lines.map Line.dark := by
  have h := foldl_keeps (π := fun r : Room => (r.map, r.det, r.mute, r.floor, r.mix, r.link, r.fb, r.store, r.out, r.box, r.begun, r.lines.map Line.facts, r.lines.map Line.dark))
    (Room.reposition) (fun r x => by
      repeat' split
      all_goals simp) l r
  simpa only [Prod.mk.injEq] using h

@[simp] theorem Room.reseat_keeps (r : Room) (m : SeatMapUnit) :
    (r.reseat m).store = r.store ∧ (r.reseat m).floor.settings = r.floor.settings
    ∧ (r.reseat m).floor.standby = r.floor.standby ∧ (r.reseat m).mix.settings = r.mix.settings
    ∧ (r.reseat m).mix.standby = r.mix.standby ∧ (r.reseat m).lines.map Line.facts = r.lines.map Line.facts
    ∧ (r.reseat m).lines.map Line.dark = r.lines.map Line.dark ∧ (r.reseat m).link.links = r.link.links
    ∧ (r.reseat m).link.call = r.link.call ∧ (r.reseat m).link.delay = r.link.delay
    ∧ (r.reseat m).det.map Detector.settings = r.det.map Detector.settings
    ∧ (r.reseat m).fb.settings = r.fb.settings ∧ (r.reseat m).mute.stamp = r.mute.stamp
    ∧ (r.reseat m).mute.linkIdle = r.mute.linkIdle := by
  simp [Room.reseat, Room.announceAll_keeps, Room.repositionAll_keeps]

theorem Room.reseat_map (r : Room) (m : SeatMapUnit) : (r.reseat m).map = m := by
  simp [Room.reseat, Room.announceAll_keeps, Room.repositionAll_keeps]

@[simp] theorem Room.takeNear_keeps (r : Room) :
    (r.takeNear).map = r.map ∧ (r.takeNear).lines = r.lines ∧ (r.takeNear).mute = r.mute ∧ (r.takeNear).floor = r.floor
    ∧ (r.takeNear).link = r.link ∧ (r.takeNear).fb = r.fb ∧ (r.takeNear).store = r.store ∧ (r.takeNear).out = r.out
    ∧ (r.takeNear).box = r.box ∧ (r.takeNear).det.map Detector.settings = r.det.map Detector.settings
    ∧ (r.takeNear).mix.settings = r.mix.settings ∧ (r.takeNear).mix.standby = r.mix.standby := by
  simp [Room.takeNear]

@[simp] theorem Room.swap_keeps (r : Room) (l : LockMode) (q : Bool) :
    (r.swap l q).store = r.store ∧ (r.swap l q).floor.settings = r.floor.settings
    ∧ (r.swap l q).floor.standby = r.floor.standby ∧ (r.swap l q).mix.settings = r.mix.settings
    ∧ (r.swap l q).mix.standby = r.mix.standby ∧ (r.swap l q).lines.map Line.facts = r.lines.map Line.facts
    ∧ (r.swap l q).lines.map Line.dark = r.lines.map Line.dark ∧ (r.swap l q).link.links = r.link.links
    ∧ (r.swap l q).link.call = r.link.call ∧ (r.swap l q).link.delay = r.link.delay
    ∧ (r.swap l q).det.map Detector.settings = r.det.map Detector.settings
    ∧ (r.swap l q).fb.settings = r.fb.settings ∧ (r.swap l q).mute.stamp = r.mute.stamp
    ∧ (r.swap l q).mute.linkIdle = r.mute.linkIdle ∧ (r.swap l q).map.groups = r.map.groups
    ∧ (r.swap l q).map.waitLimit = r.map.waitLimit := by
  simp -implicitDefEqProofs [Room.swap, Room.reseat_map, SeatMapUnit.swapped]

theorem Room.swap_map (r : Room) (l : LockMode) (q : Bool) : (r.swap l q).map = r.map.swapped l := by
  simp -implicitDefEqProofs [Room.swap, Room.reseat_map]

@[simp] theorem Room.quietNotice_keeps (r : Room) (q : Bool) :
    (r.quietNotice q).store = r.store ∧ (r.quietNotice q).floor.settings = r.floor.settings
    ∧ (r.quietNotice q).floor.standby = r.floor.standby ∧ (r.quietNotice q).mix.settings = r.mix.settings
    ∧ (r.quietNotice q).mix.standby = r.mix.standby
    ∧ (r.quietNotice q).lines.map Line.facts = r.lines.map Line.facts
    ∧ (r.quietNotice q).lines.map Line.dark = r.lines.map Line.dark
    ∧ (r.quietNotice q).link.links = r.link.links ∧ (r.quietNotice q).link.call = r.link.call
    ∧ (r.quietNotice q).link.delay = r.link.delay
    ∧ (r.quietNotice q).det.map Detector.settings = r.det.map Detector.settings
    ∧ (r.quietNotice q).fb.settings = r.fb.settings ∧ (r.quietNotice q).mute.stamp = r.mute.stamp
    ∧ (r.quietNotice q).mute.linkIdle = r.mute.linkIdle ∧ (r.quietNotice q).map.groups = r.map.groups
    ∧ (r.quietNotice q).map.waitLimit = r.map.waitLimit := by
  unfold Room.quietNotice
  try dsimp only
  repeat' split
  all_goals simp

/-- QUIET and BUSY notices with no switch pending set the quiet flag to the last of them, and nothing else. -/
theorem Room.flagFold (r : Room) (l : List Bool) :
    l.foldl Room.setQuiet r = r.setQuiet (l.getLast?.getD r.map.quiet) := by
  induction l generalizing r with
  | nil => rfl
  | cons q l ih =>
    rw [List.foldl_cons, ih]
    cases l with
    | nil => rfl
    | cons a l => simp [List.getLast?_cons, Room.setQuiet]

theorem Room.boxFold (r : Room) (l : List Bool) (h : r.map.switch = none) :
    l.foldl Room.quietNotice r = l.foldl Room.setQuiet r := by
  induction l generalizing r with
  | nil => rfl
  | cons q l ih =>
    have hq : r.quietNotice q = r.setQuiet q := by simp [Room.quietNotice, h]
    rw [List.foldl_cons, List.foldl_cons, hq]
    exact ih (r.setQuiet q) h

theorem Room.quietAll_keeps (r : Room) (l : List Bool) :
    let t := l.foldl (Room.quietNotice) r
    t.store = r.store ∧ t.floor.settings = r.floor.settings ∧ t.floor.standby = r.floor.standby ∧ t.mix.settings = r.mix.settings ∧ t.mix.standby = r.mix.standby ∧ t.lines.map Line.facts = r.lines.map Line.facts ∧ t.lines.map Line.dark = r.lines.map Line.dark ∧ t.link.links = r.link.links ∧ t.link.call = r.link.call ∧ t.link.delay = r.link.delay ∧ t.det.map Detector.settings = r.det.map Detector.settings ∧ t.fb.settings = r.fb.settings ∧ t.mute.stamp = r.mute.stamp ∧ t.mute.linkIdle = r.mute.linkIdle ∧ t.map.groups = r.map.groups ∧ t.map.waitLimit = r.map.waitLimit := by
  have h := foldl_keeps (π := fun r : Room => (r.store, r.floor.settings, r.floor.standby, r.mix.settings, r.mix.standby, r.lines.map Line.facts, r.lines.map Line.dark, r.link.links, r.link.call, r.link.delay, r.det.map Detector.settings, r.fb.settings, r.mute.stamp, r.mute.linkIdle, r.map.groups, r.map.waitLimit))
    (Room.quietNotice) (fun r x => by
      repeat' split
      all_goals simp) l r
  simpa only [Prod.mk.injEq] using h

@[simp] theorem Room.settle_keeps (r : Room) :
    (r.settle).store = r.store ∧ (r.settle).floor.settings = r.floor.settings
    ∧ (r.settle).floor.standby = r.floor.standby ∧ (r.settle).mix.settings = r.mix.settings
    ∧ (r.settle).mix.standby = r.mix.standby ∧ (r.settle).lines.map Line.facts = r.lines.map Line.facts
    ∧ (r.settle).lines.map Line.dark = r.lines.map Line.dark ∧ (r.settle).link.links = r.link.links
    ∧ (r.settle).link.call = r.link.call ∧ (r.settle).link.delay = r.link.delay
    ∧ (r.settle).det.map Detector.settings = r.det.map Detector.settings
    ∧ (r.settle).fb.settings = r.fb.settings ∧ (r.settle).mute.stamp = r.mute.stamp
    ∧ (r.settle).mute.linkIdle = r.mute.linkIdle ∧ (r.settle).map.groups = r.map.groups
    ∧ (r.settle).map.waitLimit = r.map.waitLimit := by
  unfold Room.settle
  dsimp only
  rw [Room.flagFold]
  simp [Room.quietAll_keeps]

/-- After settling no step notice and no QUIET or BUSY notice is under way. -/
theorem Room.settle_done (r : Room) : r.settle.box = [] ∧ r.settle.begun = [] := by
  unfold Room.settle
  dsimp only
  rw [Room.flagFold]
  exact ⟨by simp, Room.judge_begun _⟩

/-- Nothing under way: settling changes nothing. -/
theorem Room.settle_settled (r : Room) (h : r.Settled) : r.settle = r := by
  obtain ⟨_, hb, hg⟩ := h
  unfold Room.settle
  dsimp only
  rw [Room.flagFold]
  cases r
  simp_all [Room.judge_idle, Room.setQuiet]

/-- With no switch pending settling sets the quiet flag and the detectors' step timers, and nothing else. -/
theorem Room.settle_calm (r : Room) (h : r.map.switch = none) :
    r.settle = (({ r with box := [] }).setQuiet (r.box.getLast?.getD r.map.quiet)).judge := by
  unfold Room.settle
  dsimp only
  rw [Room.boxFold _ _ (by simpa using h), Room.flagFold, Room.flagFold]
  simp [Room.setQuiet]

theorem Room.settle_calm_keeps (r : Room) (h : r.map.switch = none) :
    r.settle.lines = r.lines ∧ r.settle.mute = r.mute ∧ r.settle.floor = r.floor ∧ r.settle.mix = r.mix ∧ r.settle.link = r.link ∧ r.settle.fb = r.fb ∧ r.settle.store = r.store ∧ r.settle.out = r.out ∧ r.settle.map.running = r.map.running ∧ r.settle.map.staged = r.map.staged ∧ r.settle.map.groups = r.map.groups ∧ r.settle.map.switch = r.map.switch ∧ r.settle.map.waitLimit = r.map.waitLimit ∧ r.settle.det.map Detector.settings = r.det.map Detector.settings := by
  rw [Room.settle_calm r h]
  simp [Room.setQuiet]

/-! ## Detector settings -/

@[simp] theorem Room.retuneSeat_keeps (r : Room) (n : Seat) (s : DetSettings) :
    (r.retuneSeat n s).store = r.store ∧ (r.retuneSeat n s).floor.settings = r.floor.settings
    ∧ (r.retuneSeat n s).floor.standby = r.floor.standby ∧ (r.retuneSeat n s).mix.settings = r.mix.settings
    ∧ (r.retuneSeat n s).mix.standby = r.mix.standby
    ∧ (r.retuneSeat n s).lines.map Line.facts = r.lines.map Line.facts
    ∧ (r.retuneSeat n s).lines.map Line.dark = r.lines.map Line.dark
    ∧ (r.retuneSeat n s).link.links = r.link.links ∧ (r.retuneSeat n s).link.call = r.link.call
    ∧ (r.retuneSeat n s).link.delay = r.link.delay ∧ (r.retuneSeat n s).fb.settings = r.fb.settings
    ∧ (r.retuneSeat n s).mute.stamp = r.mute.stamp ∧ (r.retuneSeat n s).mute.linkIdle = r.mute.linkIdle
    ∧ (r.retuneSeat n s).map.groups = r.map.groups ∧ (r.retuneSeat n s).map.waitLimit = r.map.waitLimit := by
  simp [Room.retuneSeat]

@[simp] theorem Room.retuneAll_keeps (r : Room) (l : List Seat) (s : Seat → DetSettings) :
    (r.retuneAll l s).store = r.store ∧ (r.retuneAll l s).floor.settings = r.floor.settings
    ∧ (r.retuneAll l s).floor.standby = r.floor.standby ∧ (r.retuneAll l s).mix.settings = r.mix.settings
    ∧ (r.retuneAll l s).mix.standby = r.mix.standby
    ∧ (r.retuneAll l s).lines.map Line.facts = r.lines.map Line.facts
    ∧ (r.retuneAll l s).lines.map Line.dark = r.lines.map Line.dark
    ∧ (r.retuneAll l s).link.links = r.link.links ∧ (r.retuneAll l s).link.call = r.link.call
    ∧ (r.retuneAll l s).link.delay = r.link.delay ∧ (r.retuneAll l s).fb.settings = r.fb.settings
    ∧ (r.retuneAll l s).mute.stamp = r.mute.stamp ∧ (r.retuneAll l s).mute.linkIdle = r.mute.linkIdle
    ∧ (r.retuneAll l s).map.groups = r.map.groups ∧ (r.retuneAll l s).map.waitLimit = r.map.waitLimit := by
  unfold Room.retuneAll
  have h := foldl_keeps (π := fun r : Room => (r.store, r.floor.settings, r.floor.standby, r.mix.settings, r.mix.standby, r.lines.map Line.facts, r.lines.map Line.dark, r.link.links, r.link.call, r.link.delay, r.fb.settings, r.mute.stamp, r.mute.linkIdle, r.map.groups, r.map.waitLimit))
    (fun (r : Room) n => r.retuneSeat n (s n)) (fun r x => by
      try dsimp only
      repeat' split
      all_goals simp) l r
  simpa only [Prod.mk.injEq] using h

/-! ## The floor's presses and requests -/

@[simp] theorem Room.askedFree_keeps (r : Room) (n : Seat) (b : Bool) :
    (r.askedFree n b).map = r.map ∧ (r.askedFree n b).mute = r.mute ∧ (r.askedFree n b).fb = r.fb
    ∧ (r.askedFree n b).store = r.store ∧ (r.askedFree n b).box = r.box
    ∧ (r.askedFree n b).floor.settings = r.floor.settings ∧ (r.askedFree n b).floor.standby = r.floor.standby
    ∧ (r.askedFree n b).mix.settings = r.mix.settings ∧ (r.askedFree n b).mix.standby = r.mix.standby
    ∧ (r.askedFree n b).lines.map Line.facts = r.lines.map Line.facts
    ∧ (r.askedFree n b).lines.map Line.dark = r.lines.map Line.dark
    ∧ (r.askedFree n b).link.links = r.link.links ∧ (r.askedFree n b).link.call = r.link.call
    ∧ (r.askedFree n b).link.delay = r.link.delay
    ∧ (r.askedFree n b).det.map Detector.settings = r.det.map Detector.settings := by
  unfold Room.askedFree
  try dsimp only
  repeat' split
  all_goals simp

@[simp] theorem Room.talkAsk_keeps (r : Room) (n : Seat) :
    (r.talkAsk n).map = r.map ∧ (r.talkAsk n).store = r.store
    ∧ (r.talkAsk n).floor.settings = r.floor.settings ∧ (r.talkAsk n).floor.standby = r.floor.standby
    ∧ (r.talkAsk n).mix.settings = r.mix.settings ∧ (r.talkAsk n).mix.standby = r.mix.standby
    ∧ (r.talkAsk n).lines.map Line.facts = r.lines.map Line.facts
    ∧ (r.talkAsk n).lines.map Line.dark = r.lines.map Line.dark ∧ (r.talkAsk n).link.links = r.link.links
    ∧ (r.talkAsk n).link.call = r.link.call ∧ (r.talkAsk n).link.delay = r.link.delay
    ∧ (r.talkAsk n).det.map Detector.settings = r.det.map Detector.settings
    ∧ (r.talkAsk n).fb.settings = r.fb.settings
    ∧ (r.talkAsk n).fb.seats.map FbSeat.facts = r.fb.seats.map FbSeat.facts
    ∧ (r.talkAsk n).mute.table = r.mute.table ∧ (r.talkAsk n).mute.stamp = r.mute.stamp
    ∧ (r.talkAsk n).mute.linkIdle = r.mute.linkIdle := by
  have h := r.talkRelease_keeps n
  unfold Room.talkAsk
  dsimp only
  split
  · simp
  · rcases hx : r.talkRelease n with ⟨a, b⟩
    rw [hx] at h
    simp only at h
    cases b <;> simp [h]

@[simp] theorem Room.talkPress_keeps (r : Room) (n : Seat) :
    (r.talkPress n).map = r.map ∧ (r.talkPress n).store = r.store
    ∧ (r.talkPress n).floor.settings = r.floor.settings ∧ (r.talkPress n).floor.standby = r.floor.standby
    ∧ (r.talkPress n).mix.settings = r.mix.settings ∧ (r.talkPress n).mix.standby = r.mix.standby
    ∧ (r.talkPress n).lines.map Line.facts = r.lines.map Line.facts
    ∧ (r.talkPress n).lines.map Line.dark = r.lines.map Line.dark ∧ (r.talkPress n).link.links = r.link.links
    ∧ (r.talkPress n).link.call = r.link.call ∧ (r.talkPress n).link.delay = r.link.delay
    ∧ (r.talkPress n).det.map Detector.settings = r.det.map Detector.settings
    ∧ (r.talkPress n).fb.settings = r.fb.settings
    ∧ (r.talkPress n).fb.seats.map FbSeat.facts = r.fb.seats.map FbSeat.facts
    ∧ (r.talkPress n).mute.table = r.mute.table ∧ (r.talkPress n).mute.stamp = r.mute.stamp
    ∧ (r.talkPress n).mute.linkIdle = r.mute.linkIdle := by
  unfold Room.talkPress Room.floorEvent
  dsimp only
  repeat' split
  all_goals simp

@[simp] theorem Room.nextPress_keeps (r : Room) (n : Seat) :
    (r.nextPress n).map = r.map ∧ (r.nextPress n).mute = r.mute ∧ (r.nextPress n).fb = r.fb
    ∧ (r.nextPress n).store = r.store ∧ (r.nextPress n).floor.settings = r.floor.settings
    ∧ (r.nextPress n).floor.standby = r.floor.standby ∧ (r.nextPress n).mix.settings = r.mix.settings
    ∧ (r.nextPress n).mix.standby = r.mix.standby
    ∧ (r.nextPress n).lines.map Line.facts = r.lines.map Line.facts
    ∧ (r.nextPress n).lines.map Line.dark = r.lines.map Line.dark ∧ (r.nextPress n).link.links = r.link.links
    ∧ (r.nextPress n).link.call = r.link.call ∧ (r.nextPress n).link.delay = r.link.delay
    ∧ (r.nextPress n).det.map Detector.settings = r.det.map Detector.settings := by
  unfold Room.nextPress Room.floorEvent
  dsimp only
  repeat' split
  all_goals simp

@[simp] theorem Room.clearMember_keeps (r : Room) (n : Seat) :
    (r.clearMember n).map = r.map ∧ (r.clearMember n).mute = r.mute ∧ (r.clearMember n).link = r.link
    ∧ (r.clearMember n).fb = r.fb ∧ (r.clearMember n).store = r.store ∧ (r.clearMember n).box = r.box
    ∧ (r.clearMember n).floor.settings = r.floor.settings ∧ (r.clearMember n).floor.standby = r.floor.standby
    ∧ (r.clearMember n).mix.settings = r.mix.settings ∧ (r.clearMember n).mix.standby = r.mix.standby
    ∧ (r.clearMember n).lines.map Line.facts = r.lines.map Line.facts
    ∧ (r.clearMember n).lines.map Line.dark = r.lines.map Line.dark
    ∧ (r.clearMember n).det.map Detector.settings = r.det.map Detector.settings := by
  unfold Room.clearMember
  try dsimp only
  repeat' split
  all_goals simp

@[simp] theorem Room.clearGranted_keeps (r : Room) (n : Seat) :
    (r.clearGranted n).map = r.map ∧ (r.clearGranted n).mute = r.mute ∧ (r.clearGranted n).link = r.link
    ∧ (r.clearGranted n).fb = r.fb ∧ (r.clearGranted n).store = r.store ∧ (r.clearGranted n).box = r.box
    ∧ (r.clearGranted n).floor.settings = r.floor.settings ∧ (r.clearGranted n).floor.standby = r.floor.standby
    ∧ (r.clearGranted n).mix.settings = r.mix.settings ∧ (r.clearGranted n).mix.standby = r.mix.standby
    ∧ (r.clearGranted n).lines.map Line.facts = r.lines.map Line.facts
    ∧ (r.clearGranted n).lines.map Line.dark = r.lines.map Line.dark
    ∧ (r.clearGranted n).det.map Detector.settings = r.det.map Detector.settings := by
  unfold Room.clearGranted
  try dsimp only
  repeat' split
  all_goals simp

theorem Room.clearMembers_keeps (r : Room) :
    let t := allSeats.foldl (Room.clearMember) r
    t.map = r.map ∧ t.mute = r.mute ∧ t.link = r.link ∧ t.fb = r.fb ∧ t.store = r.store ∧ t.box = r.box ∧ t.floor.settings = r.floor.settings ∧ t.floor.standby = r.floor.standby ∧ t.mix.settings = r.mix.settings ∧ t.mix.standby = r.mix.standby ∧ t.lines.map Line.facts = r.lines.map Line.facts ∧ t.lines.map Line.dark = r.lines.map Line.dark ∧ t.det.map Detector.settings = r.det.map Detector.settings := by
  have h := foldl_keeps (π := fun r : Room => (r.map, r.mute, r.link, r.fb, r.store, r.box, r.floor.settings, r.floor.standby, r.mix.settings, r.mix.standby, r.lines.map Line.facts, r.lines.map Line.dark, r.det.map Detector.settings))
    (Room.clearMember) (fun r x => by
      repeat' split
      all_goals simp) allSeats r
  simpa only [Prod.mk.injEq] using h

theorem Room.clearGrants_keeps (r : Room) :
    let t := allSeats.foldl (Room.clearGranted) r
    t.map = r.map ∧ t.mute = r.mute ∧ t.link = r.link ∧ t.fb = r.fb ∧ t.store = r.store ∧ t.box = r.box ∧ t.floor.settings = r.floor.settings ∧ t.floor.standby = r.floor.standby ∧ t.mix.settings = r.mix.settings ∧ t.mix.standby = r.mix.standby ∧ t.lines.map Line.facts = r.lines.map Line.facts ∧ t.lines.map Line.dark = r.lines.map Line.dark ∧ t.det.map Detector.settings = r.det.map Detector.settings := by
  have h := foldl_keeps (π := fun r : Room => (r.map, r.mute, r.link, r.fb, r.store, r.box, r.floor.settings, r.floor.standby, r.mix.settings, r.mix.standby, r.lines.map Line.facts, r.lines.map Line.dark, r.det.map Detector.settings))
    (Room.clearGranted) (fun r x => by
      repeat' split
      all_goals simp) allSeats r
  simpa only [Prod.mk.injEq] using h

@[simp] theorem Room.clearRequests_keeps (r : Room) :
    (r.clearRequests).map = r.map ∧ (r.clearRequests).mute = r.mute ∧ (r.clearRequests).link = r.link
    ∧ (r.clearRequests).fb = r.fb ∧ (r.clearRequests).store = r.store ∧ (r.clearRequests).box = r.box
    ∧ (r.clearRequests).floor.settings = r.floor.settings ∧ (r.clearRequests).floor.standby = r.floor.standby
    ∧ (r.clearRequests).mix.settings = r.mix.settings ∧ (r.clearRequests).mix.standby = r.mix.standby
    ∧ (r.clearRequests).lines.map Line.facts = r.lines.map Line.facts
    ∧ (r.clearRequests).lines.map Line.dark = r.lines.map Line.dark
    ∧ (r.clearRequests).det.map Detector.settings = r.det.map Detector.settings := by
  simp [Room.clearRequests, Room.clearGrants_keeps]

@[simp] theorem Room.clearFloor_keeps (r : Room) :
    (r.clearFloor).map = r.map ∧ (r.clearFloor).mute = r.mute ∧ (r.clearFloor).fb = r.fb
    ∧ (r.clearFloor).store = r.store ∧ (r.clearFloor).floor.settings = r.floor.settings
    ∧ (r.clearFloor).floor.standby = r.floor.standby ∧ (r.clearFloor).mix.settings = r.mix.settings
    ∧ (r.clearFloor).mix.standby = r.mix.standby ∧ (r.clearFloor).lines.map Line.facts = r.lines.map Line.facts
    ∧ (r.clearFloor).lines.map Line.dark = r.lines.map Line.dark ∧ (r.clearFloor).link.links = r.link.links
    ∧ (r.clearFloor).link.call = r.link.call ∧ (r.clearFloor).link.delay = r.link.delay
    ∧ (r.clearFloor).det.map Detector.settings = r.det.map Detector.settings := by
  unfold Room.clearFloor Room.floorEvent
  dsimp only
  repeat' split
  all_goals simp [Room.clearMembers_keeps]

/-! ## The Link Controller -/

@[simp] theorem Room.sendTarget_keeps (r : Room) (k : Link) (b : Bool) (ms : Nat) :
    (r.sendTarget k b ms).map = r.map ∧ (r.sendTarget k b ms).lines = r.lines
    ∧ (r.sendTarget k b ms).mute = r.mute ∧ (r.sendTarget k b ms).floor = r.floor
    ∧ (r.sendTarget k b ms).fb = r.fb ∧ (r.sendTarget k b ms).store = r.store
    ∧ (r.sendTarget k b ms).out = r.out ∧ (r.sendTarget k b ms).box = r.box
    ∧ (r.sendTarget k b ms).link.call = r.link.call ∧ (r.sendTarget k b ms).link.delay = r.link.delay
    ∧ (r.sendTarget k b ms).mix.settings = r.mix.settings ∧ (r.sendTarget k b ms).mix.standby = r.mix.standby
    ∧ (r.sendTarget k b ms).det.map Detector.settings = r.det.map Detector.settings := by
  unfold Room.sendTarget
  try dsimp only
  repeat' split
  all_goals simp

@[simp] theorem Room.setCall_keeps (r : Room) (c : CallSt) (w : CallCause) (i : Nat) :
    (r.setCall c w i).map = r.map ∧ (r.setCall c w i).lines = r.lines ∧ (r.setCall c w i).det = r.det
    ∧ (r.setCall c w i).mute = r.mute ∧ (r.setCall c w i).floor = r.floor ∧ (r.setCall c w i).mix = r.mix
    ∧ (r.setCall c w i).fb = r.fb ∧ (r.setCall c w i).store = r.store ∧ (r.setCall c w i).box = r.box
    ∧ (r.setCall c w i).begun = r.begun ∧ (r.setCall c w i).link.links = r.link.links
    ∧ (r.setCall c w i).link.delay = r.link.delay := by
  unfold Room.setCall
  try dsimp only
  repeat' split
  all_goals simp

@[simp] theorem Room.setDark_keeps (r : Room) (l : LineNo) (b : Bool) :
    (r.setDark l b).map = r.map ∧ (r.setDark l b).det = r.det ∧ (r.setDark l b).mute = r.mute ∧ (r.setDark l b).floor = r.floor ∧ (r.setDark l b).mix = r.mix ∧ (r.setDark l b).link = r.link ∧ (r.setDark l b).fb = r.fb ∧ (r.setDark l b).store = r.store ∧ (r.setDark l b).out = r.out ∧ (r.setDark l b).box = r.box ∧ (r.setDark l b).begun = r.begun ∧ (r.setDark l b).lines.map Line.facts = r.lines.map Line.facts := by
  refine ⟨rfl, rfl, rfl, rfl, rfl, rfl, rfl, rfl, rfl, rfl, rfl, ?_⟩
  exact Tab.map_modify _ _ _ _ rfl

@[simp] theorem Room.standbyPod_keeps (r : Room) (b : Bool) (p : PodPos) :
    (r.standbyPod b p).map = r.map ∧ (r.standbyPod b p).det = r.det ∧ (r.standbyPod b p).mute = r.mute
    ∧ (r.standbyPod b p).floor = r.floor ∧ (r.standbyPod b p).mix = r.mix ∧ (r.standbyPod b p).link = r.link
    ∧ (r.standbyPod b p).fb = r.fb ∧ (r.standbyPod b p).store = r.store ∧ (r.standbyPod b p).out = r.out
    ∧ (r.standbyPod b p).box = r.box ∧ (r.standbyPod b p).begun = r.begun
    ∧ (r.standbyPod b p).lines.map Line.facts = r.lines.map Line.facts
    ∧ (r.standbyPod b p).lines.map Line.dark = r.lines.map Line.dark := by
  unfold Room.standbyPod
  dsimp only
  repeat' split
  all_goals simp
  all_goals exact Room.setPod_lineFacts _ _ _ fun _ => rfl

theorem Room.standbyPods_keeps (r : Room) (l : List Pos) (k : LineNo) (b : Bool) :
    let t := l.foldl (fun (r : Room) p => r.standbyPod b ⟨k, p⟩) r
    t.map = r.map ∧ t.det = r.det ∧ t.mute = r.mute ∧ t.floor = r.floor ∧ t.mix = r.mix ∧ t.link = r.link ∧ t.fb = r.fb ∧ t.store = r.store ∧ t.out = r.out ∧ t.box = r.box ∧ t.begun = r.begun ∧ t.lines.map Line.facts = r.lines.map Line.facts ∧ t.lines.map Line.dark = r.lines.map Line.dark := by
  have h := foldl_keeps (π := fun r : Room => (r.map, r.det, r.mute, r.floor, r.mix, r.link, r.fb, r.store, r.out, r.box, r.begun, r.lines.map Line.facts, r.lines.map Line.dark))
    (fun (r : Room) p => r.standbyPod b ⟨k, p⟩) (fun r x => by
      repeat' split
      all_goals simp) l r
  simpa only [Prod.mk.injEq] using h

@[simp] theorem Room.lineStandby_keeps (r : Room) (l : LineNo) (b : Bool) :
    (r.lineStandby l b).map = r.map ∧ (r.lineStandby l b).det = r.det ∧ (r.lineStandby l b).mute = r.mute
    ∧ (r.lineStandby l b).floor = r.floor ∧ (r.lineStandby l b).mix = r.mix ∧ (r.lineStandby l b).link = r.link
    ∧ (r.lineStandby l b).fb = r.fb ∧ (r.lineStandby l b).store = r.store ∧ (r.lineStandby l b).out = r.out
    ∧ (r.lineStandby l b).box = r.box ∧ (r.lineStandby l b).begun = r.begun
    ∧ (r.lineStandby l b).lines.map Line.facts = r.lines.map Line.facts := by
  simp [Room.lineStandby, Room.standbyPods_keeps]

@[simp] theorem Room.enterStandby_keeps (r : Room) :
    (r.enterStandby).map = r.map ∧ (r.enterStandby).mute = r.mute ∧ (r.enterStandby).fb = r.fb
    ∧ (r.enterStandby).store = r.store ∧ (r.enterStandby).floor.settings = r.floor.settings
    ∧ (r.enterStandby).mix.settings = r.mix.settings
    ∧ (r.enterStandby).lines.map Line.facts = r.lines.map Line.facts
    ∧ (r.enterStandby).link.links = r.link.links ∧ (r.enterStandby).link.delay = r.link.delay
    ∧ (r.enterStandby).det.map Detector.settings = r.det.map Detector.settings := by
  simp [Room.enterStandby]

@[simp] theorem Room.wake_keeps (r : Room) (c : CallSt) (w : CallCause) (i : Nat) :
    (r.wake c w i).map = r.map ∧ (r.wake c w i).mute = r.mute ∧ (r.wake c w i).fb = r.fb
    ∧ (r.wake c w i).store = r.store ∧ (r.wake c w i).floor.settings = r.floor.settings
    ∧ (r.wake c w i).mix.settings = r.mix.settings
    ∧ (r.wake c w i).lines.map Line.facts = r.lines.map Line.facts ∧ (r.wake c w i).link.links = r.link.links
    ∧ (r.wake c w i).link.delay = r.link.delay
    ∧ (r.wake c w i).det.map Detector.settings = r.det.map Detector.settings := by
  simp [Room.wake]

@[simp] theorem Room.wakePress_keeps (r : Room) (n : Seat) :
    (r.wakePress n).map = r.map ∧ (r.wakePress n).mute = r.mute ∧ (r.wakePress n).fb = r.fb
    ∧ (r.wakePress n).store = r.store ∧ (r.wakePress n).floor.settings = r.floor.settings
    ∧ (r.wakePress n).mix.settings = r.mix.settings
    ∧ (r.wakePress n).lines.map Line.facts = r.lines.map Line.facts ∧ (r.wakePress n).link.links = r.link.links
    ∧ (r.wakePress n).link.delay = r.link.delay
    ∧ (r.wakePress n).det.map Detector.settings = r.det.map Detector.settings := by
  unfold Room.wakePress
  try dsimp only
  repeat' split
  all_goals simp

@[simp] theorem Room.deriveCall_keeps (r : Room) (k : Link) :
    (r.deriveCall k).map = r.map ∧ (r.deriveCall k).mute = r.mute ∧ (r.deriveCall k).fb = r.fb
    ∧ (r.deriveCall k).store = r.store ∧ (r.deriveCall k).floor.settings = r.floor.settings
    ∧ (r.deriveCall k).mix.settings = r.mix.settings
    ∧ (r.deriveCall k).lines.map Line.facts = r.lines.map Line.facts
    ∧ (r.deriveCall k).link.links = r.link.links ∧ (r.deriveCall k).link.delay = r.link.delay
    ∧ (r.deriveCall k).det.map Detector.settings = r.det.map Detector.settings := by
  unfold Room.deriveCall
  try dsimp only
  repeat' split
  all_goals simp

@[simp] theorem Room.standbyExpiry_keeps (r : Room) :
    (r.standbyExpiry).map = r.map ∧ (r.standbyExpiry).mute = r.mute ∧ (r.standbyExpiry).fb = r.fb
    ∧ (r.standbyExpiry).store = r.store ∧ (r.standbyExpiry).floor.settings = r.floor.settings
    ∧ (r.standbyExpiry).mix.settings = r.mix.settings
    ∧ (r.standbyExpiry).lines.map Line.facts = r.lines.map Line.facts
    ∧ (r.standbyExpiry).link.links = r.link.links ∧ (r.standbyExpiry).link.delay = r.link.delay
    ∧ (r.standbyExpiry).det.map Detector.settings = r.det.map Detector.settings := by
  unfold Room.standbyExpiry
  try dsimp only
  repeat' split
  all_goals simp

@[simp] theorem Room.setLinkSt_keeps (r : Room) (k : Link) (st : LinkSt) (ph : Option Phase) (w : LinkReason) :
    (r.setLinkSt k st ph w).map = r.map ∧ (r.setLinkSt k st ph w).lines = r.lines
    ∧ (r.setLinkSt k st ph w).det = r.det ∧ (r.setLinkSt k st ph w).mute = r.mute
    ∧ (r.setLinkSt k st ph w).floor = r.floor ∧ (r.setLinkSt k st ph w).mix = r.mix
    ∧ (r.setLinkSt k st ph w).fb = r.fb ∧ (r.setLinkSt k st ph w).store = r.store
    ∧ (r.setLinkSt k st ph w).box = r.box ∧ (r.setLinkSt k st ph w).begun = r.begun
    ∧ (r.setLinkSt k st ph w).link.call = r.link.call ∧ (r.setLinkSt k st ph w).link.delay = r.link.delay := by
  unfold Room.setLinkSt
  try dsimp only
  repeat' split
  all_goals simp

@[simp] theorem Room.joinRamp_keeps (r : Room) (k : Link) :
    (r.joinRamp k).map = r.map ∧ (r.joinRamp k).lines = r.lines ∧ (r.joinRamp k).mute = r.mute
    ∧ (r.joinRamp k).floor = r.floor ∧ (r.joinRamp k).fb = r.fb ∧ (r.joinRamp k).store = r.store
    ∧ (r.joinRamp k).out = r.out ∧ (r.joinRamp k).box = r.box ∧ (r.joinRamp k).link.call = r.link.call
    ∧ (r.joinRamp k).link.delay = r.link.delay ∧ (r.joinRamp k).mix.settings = r.mix.settings
    ∧ (r.joinRamp k).mix.standby = r.mix.standby
    ∧ (r.joinRamp k).det.map Detector.settings = r.det.map Detector.settings := by
  unfold Room.joinRamp
  try dsimp only
  repeat' split
  all_goals simp

@[simp] theorem Room.join_keeps (r : Room) (k : Link) :
    (r.join k).map = r.map ∧ (r.join k).fb = r.fb ∧ (r.join k).store = r.store
    ∧ (r.join k).floor.settings = r.floor.settings ∧ (r.join k).mix.settings = r.mix.settings
    ∧ (r.join k).lines.map Line.facts = r.lines.map Line.facts ∧ (r.join k).link.delay = r.link.delay
    ∧ (r.join k).det.map Detector.settings = r.det.map Detector.settings ∧ (r.join k).mute.table = r.mute.table
    ∧ (r.join k).mute.stamp = r.mute.stamp
    ∧ (r.join k).mute.seats.map MuteSeat.facts = r.mute.seats.map MuteSeat.facts
    ∧ (r.join k).mute.eff = r.mute.eff ∧ (r.join k).mute.links = r.mute.links
    ∧ (r.join k).mute.seats = r.mute.seats := by
  unfold Room.join
  try dsimp only
  repeat' split
  all_goals simp

@[simp] theorem Room.lockNotice_keeps (r : Room) (k : Link) :
    (r.lockNotice k).map = r.map ∧ (r.lockNotice k).lines = r.lines ∧ (r.lockNotice k).mute = r.mute
    ∧ (r.lockNotice k).floor = r.floor ∧ (r.lockNotice k).fb = r.fb ∧ (r.lockNotice k).store = r.store
    ∧ (r.lockNotice k).box = r.box ∧ (r.lockNotice k).link.call = r.link.call
    ∧ (r.lockNotice k).link.delay = r.link.delay ∧ (r.lockNotice k).mix.settings = r.mix.settings
    ∧ (r.lockNotice k).mix.standby = r.mix.standby
    ∧ (r.lockNotice k).det.map Detector.settings = r.det.map Detector.settings := by
  unfold Room.lockNotice
  try dsimp only
  repeat' split
  all_goals simp

@[simp] theorem Room.clockFault_keeps (r : Room) (k : Link) :
    (r.clockFault k).map = r.map ∧ (r.clockFault k).mute = r.mute ∧ (r.clockFault k).fb = r.fb
    ∧ (r.clockFault k).store = r.store ∧ (r.clockFault k).floor.settings = r.floor.settings
    ∧ (r.clockFault k).mix.settings = r.mix.settings
    ∧ (r.clockFault k).lines.map Line.facts = r.lines.map Line.facts
    ∧ (r.clockFault k).link.delay = r.link.delay
    ∧ (r.clockFault k).det.map Detector.settings = r.det.map Detector.settings := by
  unfold Room.clockFault
  try dsimp only
  repeat' split
  all_goals simp

@[simp] theorem Room.lossNotice_keeps (r : Room) (k : Link) :
    (r.lossNotice k).map = r.map ∧ (r.lossNotice k).mute = r.mute ∧ (r.lossNotice k).fb = r.fb
    ∧ (r.lossNotice k).store = r.store ∧ (r.lossNotice k).floor.settings = r.floor.settings
    ∧ (r.lossNotice k).mix.settings = r.mix.settings
    ∧ (r.lossNotice k).lines.map Line.facts = r.lines.map Line.facts
    ∧ (r.lossNotice k).link.delay = r.link.delay
    ∧ (r.lossNotice k).det.map Detector.settings = r.det.map Detector.settings := by
  unfold Room.lossNotice
  try dsimp only
  repeat' split
  all_goals simp

@[simp] theorem Room.joinExpiry_keeps (r : Room) (k : Link) :
    (r.joinExpiry k).map = r.map ∧ (r.joinExpiry k).lines = r.lines ∧ (r.joinExpiry k).det = r.det
    ∧ (r.joinExpiry k).mute = r.mute ∧ (r.joinExpiry k).floor = r.floor ∧ (r.joinExpiry k).mix = r.mix
    ∧ (r.joinExpiry k).fb = r.fb ∧ (r.joinExpiry k).store = r.store ∧ (r.joinExpiry k).box = r.box
    ∧ (r.joinExpiry k).begun = r.begun ∧ (r.joinExpiry k).link.call = r.link.call
    ∧ (r.joinExpiry k).link.delay = r.link.delay := by
  unfold Room.joinExpiry
  try dsimp only
  repeat' split
  all_goals simp

@[simp] theorem Room.hold_keeps (r : Room) (k : Link) :
    (r.hold k).map = r.map ∧ (r.hold k).lines = r.lines ∧ (r.hold k).mute = r.mute
    ∧ (r.hold k).floor = r.floor ∧ (r.hold k).fb = r.fb ∧ (r.hold k).store = r.store ∧ (r.hold k).box = r.box
    ∧ (r.hold k).link.call = r.link.call ∧ (r.hold k).link.delay = r.link.delay
    ∧ (r.hold k).mix.settings = r.mix.settings ∧ (r.hold k).mix.standby = r.mix.standby
    ∧ (r.hold k).det.map Detector.settings = r.det.map Detector.settings := by
  unfold Room.hold
  try dsimp only
  repeat' split
  all_goals simp

@[simp] theorem Room.resume_keeps (r : Room) (k : Link) :
    (r.resume k).map = r.map ∧ (r.resume k).lines = r.lines ∧ (r.resume k).mute = r.mute
    ∧ (r.resume k).floor = r.floor ∧ (r.resume k).fb = r.fb ∧ (r.resume k).store = r.store
    ∧ (r.resume k).box = r.box ∧ (r.resume k).link.call = r.link.call ∧ (r.resume k).link.delay = r.link.delay
    ∧ (r.resume k).mix.settings = r.mix.settings ∧ (r.resume k).mix.standby = r.mix.standby
    ∧ (r.resume k).det.map Detector.settings = r.det.map Detector.settings := by
  unfold Room.resume
  try dsimp only
  repeat' split
  all_goals simp

@[simp] theorem Room.leave_keeps (r : Room) (k : Link) :
    (r.leave k).map = r.map ∧ (r.leave k).store = r.store ∧ (r.leave k).floor.settings = r.floor.settings
    ∧ (r.leave k).mix.settings = r.mix.settings ∧ (r.leave k).lines.map Line.facts = r.lines.map Line.facts
    ∧ (r.leave k).link.delay = r.link.delay
    ∧ (r.leave k).det.map Detector.settings = r.det.map Detector.settings
    ∧ (r.leave k).fb.settings = r.fb.settings
    ∧ (r.leave k).fb.seats.map FbSeat.facts = r.fb.seats.map FbSeat.facts
    ∧ (r.leave k).mute.stamp = r.mute.stamp
    ∧ (r.leave k).mute.seats.map MuteSeat.facts = r.mute.seats.map MuteSeat.facts := by
  unfold Room.leave
  try dsimp only
  repeat' split
  all_goals simp

@[simp] theorem Room.linkDone_keeps (r : Room) (k : Link) :
    (r.linkDone k).map = r.map ∧ (r.linkDone k).store = r.store
    ∧ (r.linkDone k).floor.settings = r.floor.settings ∧ (r.linkDone k).mix.settings = r.mix.settings
    ∧ (r.linkDone k).lines.map Line.facts = r.lines.map Line.facts ∧ (r.linkDone k).link.delay = r.link.delay
    ∧ (r.linkDone k).det.map Detector.settings = r.det.map Detector.settings
    ∧ (r.linkDone k).fb.settings = r.fb.settings
    ∧ (r.linkDone k).fb.seats.map FbSeat.facts = r.fb.seats.map FbSeat.facts
    ∧ (r.linkDone k).mute.stamp = r.mute.stamp
    ∧ (r.linkDone k).mute.seats.map MuteSeat.facts = r.mute.seats.map MuteSeat.facts := by
  unfold Room.linkDone
  try dsimp only
  repeat' split
  all_goals simp

@[simp] theorem Room.measure_keeps (r : Room) (k : Link) (v : Option PortReading) :
    (r.measure k v).map = r.map ∧ (r.measure k v).mute = r.mute ∧ (r.measure k v).fb = r.fb
    ∧ (r.measure k v).store = r.store ∧ (r.measure k v).floor.settings = r.floor.settings
    ∧ (r.measure k v).mix.settings = r.mix.settings
    ∧ (r.measure k v).lines.map Line.facts = r.lines.map Line.facts ∧ (r.measure k v).link.delay = r.link.delay
    ∧ (r.measure k v).det.map Detector.settings = r.det.map Detector.settings := by
  unfold Room.measure
  try dsimp only
  repeat' split
  all_goals simp

@[simp] theorem Room.callWake_keeps (r : Room) :
    (r.callWake).map = r.map ∧ (r.callWake).mute = r.mute ∧ (r.callWake).fb = r.fb
    ∧ (r.callWake).store = r.store ∧ (r.callWake).floor.settings = r.floor.settings
    ∧ (r.callWake).mix.settings = r.mix.settings ∧ (r.callWake).lines.map Line.facts = r.lines.map Line.facts
    ∧ (r.callWake).link.links = r.link.links ∧ (r.callWake).link.delay = r.link.delay
    ∧ (r.callWake).det.map Detector.settings = r.det.map Detector.settings := by
  unfold Room.callWake
  try dsimp only
  repeat' split
  all_goals simp

@[simp] theorem Room.rampNotice_keeps (r : Room) (id : CompId) :
    (r.rampNotice id).map = r.map ∧ (r.rampNotice id).store = r.store
    ∧ (r.rampNotice id).floor.settings = r.floor.settings ∧ (r.rampNotice id).mix.settings = r.mix.settings
    ∧ (r.rampNotice id).lines.map Line.facts = r.lines.map Line.facts
    ∧ (r.rampNotice id).link.delay = r.link.delay
    ∧ (r.rampNotice id).det.map Detector.settings = r.det.map Detector.settings
    ∧ (r.rampNotice id).fb.settings = r.fb.settings
    ∧ (r.rampNotice id).fb.seats.map FbSeat.facts = r.fb.seats.map FbSeat.facts
    ∧ (r.rampNotice id).mute.stamp = r.mute.stamp
    ∧ (r.rampNotice id).mute.seats.map MuteSeat.facts = r.mute.seats.map MuteSeat.facts := by
  unfold Room.rampNotice
  try dsimp only
  repeat' split
  all_goals simp

@[simp] theorem Room.rampComplete_keeps (r : Room) (id : CompId) :
    (r.rampComplete id).map = r.map ∧ (r.rampComplete id).store = r.store
    ∧ (r.rampComplete id).floor.settings = r.floor.settings ∧ (r.rampComplete id).mix.settings = r.mix.settings
    ∧ (r.rampComplete id).lines.map Line.facts = r.lines.map Line.facts
    ∧ (r.rampComplete id).link.delay = r.link.delay
    ∧ (r.rampComplete id).det.map Detector.settings = r.det.map Detector.settings
    ∧ (r.rampComplete id).fb.settings = r.fb.settings
    ∧ (r.rampComplete id).fb.seats.map FbSeat.facts = r.fb.seats.map FbSeat.facts
    ∧ (r.rampComplete id).mute.stamp = r.mute.stamp
    ∧ (r.rampComplete id).mute.seats.map MuteSeat.facts = r.mute.seats.map MuteSeat.facts := by
  unfold Room.rampComplete
  try dsimp only
  repeat' split
  all_goals simp

/-! ## The Pod Line controllers -/

@[simp] theorem Room.setLineState_keeps (r : Room) (l : LineNo) (st : LineState) :
    (r.setLineState l st).map = r.map ∧ (r.setLineState l st).det = r.det
    ∧ (r.setLineState l st).mute = r.mute ∧ (r.setLineState l st).floor = r.floor
    ∧ (r.setLineState l st).mix = r.mix ∧ (r.setLineState l st).link = r.link ∧ (r.setLineState l st).fb = r.fb
    ∧ (r.setLineState l st).store = r.store ∧ (r.setLineState l st).box = r.box
    ∧ (r.setLineState l st).begun = r.begun ∧ (r.setLineState l st).lines.map Line.dark = r.lines.map Line.dark := by
  unfold Room.setLineState
  try dsimp only
  repeat' split
  all_goals simp

@[simp] theorem Room.followCount_keeps (r : Room) (l : LineNo) :
    (r.followCount l).map = r.map ∧ (r.followCount l).det = r.det ∧ (r.followCount l).mute = r.mute
    ∧ (r.followCount l).floor = r.floor ∧ (r.followCount l).mix = r.mix ∧ (r.followCount l).link = r.link
    ∧ (r.followCount l).fb = r.fb ∧ (r.followCount l).store = r.store ∧ (r.followCount l).box = r.box
    ∧ (r.followCount l).begun = r.begun ∧ (r.followCount l).lines.map Line.dark = r.lines.map Line.dark := by
  unfold Room.followCount
  try dsimp only
  repeat' split
  all_goals simp

@[simp] theorem Room.checkProbe_keeps (r : Room) (l : LineNo) :
    (r.checkProbe l).map = r.map ∧ (r.checkProbe l).det = r.det ∧ (r.checkProbe l).mute = r.mute
    ∧ (r.checkProbe l).floor = r.floor ∧ (r.checkProbe l).mix = r.mix ∧ (r.checkProbe l).link = r.link
    ∧ (r.checkProbe l).fb = r.fb ∧ (r.checkProbe l).store = r.store ∧ (r.checkProbe l).out = r.out
    ∧ (r.checkProbe l).box = r.box ∧ (r.checkProbe l).begun = r.begun
    ∧ (r.checkProbe l).lines.map Line.dark = r.lines.map Line.dark := by
  unfold Room.checkProbe
  try dsimp only
  repeat' split
  all_goals simp

@[simp] theorem Room.losePod_keeps (r : Room) (p : PodPos) (w : LossCause) :
    (r.losePod p w).store = r.store ∧ (r.losePod p w).floor.settings = r.floor.settings
    ∧ (r.losePod p w).floor.standby = r.floor.standby ∧ (r.losePod p w).mix.settings = r.mix.settings
    ∧ (r.losePod p w).mix.standby = r.mix.standby ∧ (r.losePod p w).lines.map Line.dark = r.lines.map Line.dark
    ∧ (r.losePod p w).link.links = r.link.links ∧ (r.losePod p w).link.call = r.link.call
    ∧ (r.losePod p w).link.delay = r.link.delay
    ∧ (r.losePod p w).det.map Detector.settings = r.det.map Detector.settings
    ∧ (r.losePod p w).fb.settings = r.fb.settings ∧ (r.losePod p w).mute.stamp = r.mute.stamp
    ∧ (r.losePod p w).mute.linkIdle = r.mute.linkIdle ∧ (r.losePod p w).map.groups = r.map.groups
    ∧ (r.losePod p w).map.waitLimit = r.map.waitLimit := by
  unfold Room.losePod
  try dsimp only
  repeat' split
  all_goals simp

@[simp] theorem Room.loseAll_keeps (r : Room) (l : LineNo) (ps : List Pos) (w : LossCause) :
    (r.loseAll l ps w).store = r.store ∧ (r.loseAll l ps w).floor.settings = r.floor.settings
    ∧ (r.loseAll l ps w).floor.standby = r.floor.standby ∧ (r.loseAll l ps w).mix.settings = r.mix.settings
    ∧ (r.loseAll l ps w).mix.standby = r.mix.standby
    ∧ (r.loseAll l ps w).lines.map Line.dark = r.lines.map Line.dark
    ∧ (r.loseAll l ps w).link.links = r.link.links ∧ (r.loseAll l ps w).link.call = r.link.call
    ∧ (r.loseAll l ps w).link.delay = r.link.delay
    ∧ (r.loseAll l ps w).det.map Detector.settings = r.det.map Detector.settings
    ∧ (r.loseAll l ps w).fb.settings = r.fb.settings ∧ (r.loseAll l ps w).mute.stamp = r.mute.stamp
    ∧ (r.loseAll l ps w).mute.linkIdle = r.mute.linkIdle ∧ (r.loseAll l ps w).map.groups = r.map.groups
    ∧ (r.loseAll l ps w).map.waitLimit = r.map.waitLimit := by
  unfold Room.loseAll
  have h := foldl_keeps (π := fun r : Room => (r.store, r.floor.settings, r.floor.standby, r.mix.settings, r.mix.standby, r.lines.map Line.dark, r.link.links, r.link.call, r.link.delay, r.det.map Detector.settings, r.fb.settings, r.mute.stamp, r.mute.linkIdle, r.map.groups, r.map.waitLimit))
    (fun (r : Room) p => if (r.podAt ⟨l, p⟩).present then r.losePod ⟨l, p⟩ w else r) (fun r x => by
      try dsimp only
      repeat' split
      all_goals simp) ps r
  simpa only [Prod.mk.injEq] using h

@[simp] theorem Room.findPod_keeps (r : Room) (p : PodPos) (k : PodKind) (b : Bool) :
    (r.findPod p k b).store = r.store ∧ (r.findPod p k b).floor.settings = r.floor.settings
    ∧ (r.findPod p k b).floor.standby = r.floor.standby ∧ (r.findPod p k b).mix.settings = r.mix.settings
    ∧ (r.findPod p k b).mix.standby = r.mix.standby
    ∧ (r.findPod p k b).lines.map Line.dark = r.lines.map Line.dark
    ∧ (r.findPod p k b).link.links = r.link.links ∧ (r.findPod p k b).link.call = r.link.call
    ∧ (r.findPod p k b).link.delay = r.link.delay
    ∧ (r.findPod p k b).det.map Detector.settings = r.det.map Detector.settings
    ∧ (r.findPod p k b).fb.settings = r.fb.settings ∧ (r.findPod p k b).mute.stamp = r.mute.stamp
    ∧ (r.findPod p k b).mute.linkIdle = r.mute.linkIdle ∧ (r.findPod p k b).map.groups = r.map.groups
    ∧ (r.findPod p k b).map.waitLimit = r.map.waitLimit := by
  unfold Room.findPod
  try dsimp only
  repeat' split
  all_goals simp

@[simp] theorem Room.endScan_keeps (r : Room) (l : LineNo) :
    (r.endScan l).map = r.map ∧ (r.endScan l).det = r.det ∧ (r.endScan l).mute = r.mute
    ∧ (r.endScan l).floor = r.floor ∧ (r.endScan l).mix = r.mix ∧ (r.endScan l).link = r.link
    ∧ (r.endScan l).fb = r.fb ∧ (r.endScan l).store = r.store ∧ (r.endScan l).box = r.box
    ∧ (r.endScan l).begun = r.begun ∧ (r.endScan l).lines.map Line.dark = r.lines.map Line.dark := by
  unfold Room.endScan
  try dsimp only
  repeat' split
  all_goals simp

@[simp] theorem Room.startScan_keeps (r : Room) (l : LineNo) :
    (r.startScan l).store = r.store ∧ (r.startScan l).floor.settings = r.floor.settings
    ∧ (r.startScan l).floor.standby = r.floor.standby ∧ (r.startScan l).mix.settings = r.mix.settings
    ∧ (r.startScan l).mix.standby = r.mix.standby ∧ (r.startScan l).lines.map Line.dark = r.lines.map Line.dark
    ∧ (r.startScan l).link.links = r.link.links ∧ (r.startScan l).link.call = r.link.call
    ∧ (r.startScan l).link.delay = r.link.delay
    ∧ (r.startScan l).det.map Detector.settings = r.det.map Detector.settings
    ∧ (r.startScan l).fb.settings = r.fb.settings ∧ (r.startScan l).mute.stamp = r.mute.stamp
    ∧ (r.startScan l).mute.linkIdle = r.mute.linkIdle ∧ (r.startScan l).map.groups = r.map.groups
    ∧ (r.startScan l).map.waitLimit = r.map.waitLimit := by
  unfold Room.startScan
  try dsimp only
  repeat' split
  all_goals simp

@[simp] theorem Room.scanAnswer_keeps (r : Room) (p : PodPos) (a : EnumAnswer) :
    (r.scanAnswer p a).store = r.store ∧ (r.scanAnswer p a).floor.settings = r.floor.settings
    ∧ (r.scanAnswer p a).floor.standby = r.floor.standby ∧ (r.scanAnswer p a).mix.settings = r.mix.settings
    ∧ (r.scanAnswer p a).mix.standby = r.mix.standby
    ∧ (r.scanAnswer p a).lines.map Line.dark = r.lines.map Line.dark
    ∧ (r.scanAnswer p a).link.links = r.link.links ∧ (r.scanAnswer p a).link.call = r.link.call
    ∧ (r.scanAnswer p a).link.delay = r.link.delay
    ∧ (r.scanAnswer p a).det.map Detector.settings = r.det.map Detector.settings
    ∧ (r.scanAnswer p a).fb.settings = r.fb.settings ∧ (r.scanAnswer p a).mute.stamp = r.mute.stamp
    ∧ (r.scanAnswer p a).mute.linkIdle = r.mute.linkIdle ∧ (r.scanAnswer p a).map.groups = r.map.groups
    ∧ (r.scanAnswer p a).map.waitLimit = r.map.waitLimit := by
  unfold Room.scanAnswer
  try dsimp only
  repeat' split
  all_goals simp

@[simp] theorem Room.takeAnswer_keeps (r : Room) (l : LineNo) (a : Option EnumAnswer) :
    (r.takeAnswer l a).store = r.store ∧ (r.takeAnswer l a).floor.settings = r.floor.settings
    ∧ (r.takeAnswer l a).floor.standby = r.floor.standby ∧ (r.takeAnswer l a).mix.settings = r.mix.settings
    ∧ (r.takeAnswer l a).mix.standby = r.mix.standby
    ∧ (r.takeAnswer l a).lines.map Line.dark = r.lines.map Line.dark
    ∧ (r.takeAnswer l a).link.links = r.link.links ∧ (r.takeAnswer l a).link.call = r.link.call
    ∧ (r.takeAnswer l a).link.delay = r.link.delay
    ∧ (r.takeAnswer l a).det.map Detector.settings = r.det.map Detector.settings
    ∧ (r.takeAnswer l a).fb.settings = r.fb.settings ∧ (r.takeAnswer l a).mute.stamp = r.mute.stamp
    ∧ (r.takeAnswer l a).mute.linkIdle = r.mute.linkIdle ∧ (r.takeAnswer l a).map.groups = r.map.groups
    ∧ (r.takeAnswer l a).map.waitLimit = r.map.waitLimit := by
  unfold Room.takeAnswer
  try dsimp only
  repeat' split
  all_goals simp

@[simp] theorem Room.enumTimeout_keeps (r : Room) (l : LineNo) :
    (r.enumTimeout l).map = r.map ∧ (r.enumTimeout l).det = r.det ∧ (r.enumTimeout l).mute = r.mute
    ∧ (r.enumTimeout l).floor = r.floor ∧ (r.enumTimeout l).mix = r.mix ∧ (r.enumTimeout l).link = r.link
    ∧ (r.enumTimeout l).fb = r.fb ∧ (r.enumTimeout l).store = r.store ∧ (r.enumTimeout l).box = r.box
    ∧ (r.enumTimeout l).begun = r.begun ∧ (r.enumTimeout l).lines.map Line.dark = r.lines.map Line.dark := by
  unfold Room.enumTimeout
  try dsimp only
  repeat' split
  all_goals simp

@[simp] theorem Room.probeExpiry_keeps (r : Room) (l : LineNo) :
    (r.probeExpiry l).map = r.map ∧ (r.probeExpiry l).det = r.det ∧ (r.probeExpiry l).mute = r.mute
    ∧ (r.probeExpiry l).floor = r.floor ∧ (r.probeExpiry l).mix = r.mix ∧ (r.probeExpiry l).link = r.link
    ∧ (r.probeExpiry l).fb = r.fb ∧ (r.probeExpiry l).store = r.store ∧ (r.probeExpiry l).out = r.out
    ∧ (r.probeExpiry l).box = r.box ∧ (r.probeExpiry l).begun = r.begun
    ∧ (r.probeExpiry l).lines.map Line.dark = r.lines.map Line.dark := by
  unfold Room.probeExpiry
  try dsimp only
  repeat' split
  all_goals simp

@[simp] theorem Room.rehearsalEnd_keeps (r : Room) (l : LineNo) :
    (r.rehearsalEnd l).map = r.map ∧ (r.rehearsalEnd l).det = r.det ∧ (r.rehearsalEnd l).mute = r.mute
    ∧ (r.rehearsalEnd l).floor = r.floor ∧ (r.rehearsalEnd l).mix = r.mix ∧ (r.rehearsalEnd l).link = r.link
    ∧ (r.rehearsalEnd l).fb = r.fb ∧ (r.rehearsalEnd l).store = r.store ∧ (r.rehearsalEnd l).out = r.out
    ∧ (r.rehearsalEnd l).box = r.box ∧ (r.rehearsalEnd l).begun = r.begun
    ∧ (r.rehearsalEnd l).lines.map Line.dark = r.lines.map Line.dark := by
  unfold Room.rehearsalEnd
  try dsimp only
  repeat' split
  all_goals simp

@[simp] theorem Room.blinkEnd_keeps (r : Room) (p : PodPos) :
    (r.blinkEnd p).map = r.map ∧ (r.blinkEnd p).det = r.det ∧ (r.blinkEnd p).mute = r.mute
    ∧ (r.blinkEnd p).floor = r.floor ∧ (r.blinkEnd p).mix = r.mix ∧ (r.blinkEnd p).link = r.link
    ∧ (r.blinkEnd p).fb = r.fb ∧ (r.blinkEnd p).store = r.store ∧ (r.blinkEnd p).out = r.out
    ∧ (r.blinkEnd p).box = r.box ∧ (r.blinkEnd p).begun = r.begun
    ∧ (r.blinkEnd p).lines.map Line.facts = r.lines.map Line.facts
    ∧ (r.blinkEnd p).lines.map Line.dark = r.lines.map Line.dark := by
  unfold Room.blinkEnd
  split
  · simp
  · simp
    exact Room.setPod_lineFacts _ _ _ fun _ => rfl

@[simp] theorem Room.checkSlot_keeps (r : Room) (l : LineNo) (b : Bool) (p : Pos) :
    (r.checkSlot l b p).store = r.store ∧ (r.checkSlot l b p).floor.settings = r.floor.settings
    ∧ (r.checkSlot l b p).floor.standby = r.floor.standby ∧ (r.checkSlot l b p).mix.settings = r.mix.settings
    ∧ (r.checkSlot l b p).mix.standby = r.mix.standby
    ∧ (r.checkSlot l b p).lines.map Line.dark = r.lines.map Line.dark
    ∧ (r.checkSlot l b p).link.links = r.link.links ∧ (r.checkSlot l b p).link.call = r.link.call
    ∧ (r.checkSlot l b p).link.delay = r.link.delay
    ∧ (r.checkSlot l b p).det.map Detector.settings = r.det.map Detector.settings
    ∧ (r.checkSlot l b p).fb.settings = r.fb.settings ∧ (r.checkSlot l b p).mute.stamp = r.mute.stamp
    ∧ (r.checkSlot l b p).mute.linkIdle = r.mute.linkIdle ∧ (r.checkSlot l b p).map.groups = r.map.groups
    ∧ (r.checkSlot l b p).map.waitLimit = r.map.waitLimit := by
  unfold Room.checkSlot
  try dsimp only
  repeat' split
  all_goals simp

@[simp] theorem Room.loseBeyond_keeps (r : Room) (l : LineNo) :
    (r.loseBeyond l).store = r.store ∧ (r.loseBeyond l).floor.settings = r.floor.settings
    ∧ (r.loseBeyond l).floor.standby = r.floor.standby ∧ (r.loseBeyond l).mix.settings = r.mix.settings
    ∧ (r.loseBeyond l).mix.standby = r.mix.standby
    ∧ (r.loseBeyond l).lines.map Line.dark = r.lines.map Line.dark ∧ (r.loseBeyond l).link.links = r.link.links
    ∧ (r.loseBeyond l).link.call = r.link.call ∧ (r.loseBeyond l).link.delay = r.link.delay
    ∧ (r.loseBeyond l).det.map Detector.settings = r.det.map Detector.settings
    ∧ (r.loseBeyond l).fb.settings = r.fb.settings ∧ (r.loseBeyond l).mute.stamp = r.mute.stamp
    ∧ (r.loseBeyond l).mute.linkIdle = r.mute.linkIdle ∧ (r.loseBeyond l).map.groups = r.map.groups
    ∧ (r.loseBeyond l).map.waitLimit = r.map.waitLimit := by
  unfold Room.loseBeyond
  try dsimp only
  repeat' split
  all_goals simp

@[simp] theorem Room.hearProgram_keeps (r : Room) (x : Tab 2 Samples) :
    (r.hearProgram x).map = r.map ∧ (r.hearProgram x).lines = r.lines ∧ (r.hearProgram x).det = r.det
    ∧ (r.hearProgram x).mute = r.mute ∧ (r.hearProgram x).floor = r.floor ∧ (r.hearProgram x).link = r.link
    ∧ (r.hearProgram x).fb = r.fb ∧ (r.hearProgram x).store = r.store ∧ (r.hearProgram x).out = r.out
    ∧ (r.hearProgram x).box = r.box ∧ (r.hearProgram x).begun = r.begun
    ∧ (r.hearProgram x).mix.settings = r.mix.settings ∧ (r.hearProgram x).mix.standby = r.mix.standby := by
  simp [Room.hearProgram]

@[simp] theorem Room.hearWindow_keeps (r : Room) (n : Seat) :
    (r.hearWindow n).map = r.map ∧ (r.hearWindow n).lines = r.lines ∧ (r.hearWindow n).det = r.det
    ∧ (r.hearWindow n).mute = r.mute ∧ (r.hearWindow n).floor = r.floor ∧ (r.hearWindow n).mix = r.mix
    ∧ (r.hearWindow n).link = r.link ∧ (r.hearWindow n).store = r.store ∧ (r.hearWindow n).out = r.out
    ∧ (r.hearWindow n).box = r.box ∧ (r.hearWindow n).begun = r.begun
    ∧ (r.hearWindow n).fb.settings = r.fb.settings
    ∧ (r.hearWindow n).fb.seats.map FbSeat.facts = r.fb.seats.map FbSeat.facts := by
  simp [Room.hearWindow]
  exact Tab.map_modify _ _ _ _ rfl

@[simp] theorem Room.hearLoud_keeps (r : Room) (n : Seat) :
    (r.hearLoud n).map = r.map ∧ (r.hearLoud n).lines = r.lines ∧ (r.hearLoud n).mute = r.mute
    ∧ (r.hearLoud n).floor = r.floor ∧ (r.hearLoud n).mix = r.mix ∧ (r.hearLoud n).link = r.link
    ∧ (r.hearLoud n).fb = r.fb ∧ (r.hearLoud n).store = r.store ∧ (r.hearLoud n).out = r.out
    ∧ (r.hearLoud n).box = r.box ∧ (r.hearLoud n).begun = r.begun
    ∧ (r.hearLoud n).det.map Detector.settings = r.det.map Detector.settings := by
  simp [Room.hearLoud]
  exact Room.setDet_detSettings _ _ _ rfl

@[simp] theorem Room.audio_keeps (r : Room) (n : Seat) :
    (r.audio n).store = r.store ∧ (r.audio n).floor.settings = r.floor.settings
    ∧ (r.audio n).floor.standby = r.floor.standby ∧ (r.audio n).mix.settings = r.mix.settings
    ∧ (r.audio n).mix.standby = r.mix.standby ∧ (r.audio n).lines.map Line.dark = r.lines.map Line.dark
    ∧ (r.audio n).link.links = r.link.links ∧ (r.audio n).link.call = r.link.call
    ∧ (r.audio n).link.delay = r.link.delay ∧ (r.audio n).fb.settings = r.fb.settings
    ∧ (r.audio n).mute.stamp = r.mute.stamp ∧ (r.audio n).mute.linkIdle = r.mute.linkIdle
    ∧ (r.audio n).map.groups = r.map.groups ∧ (r.audio n).map.waitLimit = r.map.waitLimit := by
  simp [Room.audio]

@[simp] theorem Room.audioOf_keeps (r : Room) (found : PodPos → Bool) (n : Seat) :
    (r.audioOf found n).store = r.store ∧ (r.audioOf found n).floor.settings = r.floor.settings
    ∧ (r.audioOf found n).floor.standby = r.floor.standby ∧ (r.audioOf found n).mix.settings = r.mix.settings
    ∧ (r.audioOf found n).mix.standby = r.mix.standby
    ∧ (r.audioOf found n).lines.map Line.dark = r.lines.map Line.dark
    ∧ (r.audioOf found n).link.links = r.link.links ∧ (r.audioOf found n).link.call = r.link.call
    ∧ (r.audioOf found n).link.delay = r.link.delay ∧ (r.audioOf found n).fb.settings = r.fb.settings
    ∧ (r.audioOf found n).mute.stamp = r.mute.stamp ∧ (r.audioOf found n).mute.linkIdle = r.mute.linkIdle
    ∧ (r.audioOf found n).map.groups = r.map.groups ∧ (r.audioOf found n).map.waitLimit = r.map.waitLimit := by
  unfold Room.audioOf
  repeat' split
  all_goals simp

@[simp] theorem Room.deliver_keeps (r : Room) (p : PodPos) (n : Seat) (b : Button) :
    (r.deliver p n b).map = r.map ∧ (r.deliver p n b).store = r.store
    ∧ (r.deliver p n b).floor.settings = r.floor.settings ∧ (r.deliver p n b).floor.standby = r.floor.standby
    ∧ (r.deliver p n b).mix.settings = r.mix.settings ∧ (r.deliver p n b).mix.standby = r.mix.standby
    ∧ (r.deliver p n b).lines.map Line.facts = r.lines.map Line.facts
    ∧ (r.deliver p n b).lines.map Line.dark = r.lines.map Line.dark
    ∧ (r.deliver p n b).link.links = r.link.links ∧ (r.deliver p n b).link.call = r.link.call
    ∧ (r.deliver p n b).link.delay = r.link.delay
    ∧ (r.deliver p n b).det.map Detector.settings = r.det.map Detector.settings
    ∧ (r.deliver p n b).fb.settings = r.fb.settings
    ∧ (r.deliver p n b).fb.seats.map FbSeat.facts = r.fb.seats.map FbSeat.facts
    ∧ (r.deliver p n b).mute.linkIdle = r.mute.linkIdle := by
  unfold Room.deliver Room.chairPress
  repeat' split
  all_goals simp

@[simp] theorem Room.press_keeps (r : Room) (p : PodPos) (b : Button) :
    (r.press p b).store = r.store ∧ (r.press p b).floor.settings = r.floor.settings
    ∧ (r.press p b).mix.settings = r.mix.settings ∧ (r.press p b).lines.map Line.facts = r.lines.map Line.facts
    ∧ (r.press p b).link.links = r.link.links ∧ (r.press p b).link.delay = r.link.delay
    ∧ (r.press p b).det.map Detector.settings = r.det.map Detector.settings
    ∧ (r.press p b).fb.settings = r.fb.settings ∧ (r.press p b).mute.linkIdle = r.mute.linkIdle
    ∧ (r.press p b).map.groups = r.map.groups ∧ (r.press p b).map.waitLimit = r.map.waitLimit
    ∧ (r.press p b).mute.linkIdle = r.mute.linkIdle := by
  unfold Room.press
  repeat' split
  all_goals simp

theorem Room.presses_keeps (r : Room) (l : List Button) (p : PodPos) :
    let t := l.foldl (fun (r : Room) b => r.press p b) r
    t.store = r.store ∧ t.floor.settings = r.floor.settings ∧ t.mix.settings = r.mix.settings ∧ t.lines.map Line.facts = r.lines.map Line.facts ∧ t.link.links = r.link.links ∧ t.link.delay = r.link.delay ∧ t.det.map Detector.settings = r.det.map Detector.settings ∧ t.fb.settings = r.fb.settings ∧ t.mute.linkIdle = r.mute.linkIdle ∧ t.map.groups = r.map.groups ∧ t.map.waitLimit = r.map.waitLimit := by
  have h := foldl_keeps (π := fun r : Room => (r.store, r.floor.settings, r.mix.settings, r.lines.map Line.facts, r.link.links, r.link.delay, r.det.map Detector.settings, r.fb.settings, r.mute.linkIdle, r.map.groups, r.map.waitLimit))
    (fun (r : Room) b => r.press p b) (fun r x => by
      repeat' split
      all_goals simp) l r
  simpa only [Prod.mk.injEq] using h

@[simp] theorem Room.hearPrivacy_keeps (r : Room) (p : PodPos) (b : Bool) :
    (r.hearPrivacy p b).store = r.store ∧ (r.hearPrivacy p b).floor.settings = r.floor.settings
    ∧ (r.hearPrivacy p b).floor.standby = r.floor.standby ∧ (r.hearPrivacy p b).mix.settings = r.mix.settings
    ∧ (r.hearPrivacy p b).mix.standby = r.mix.standby
    ∧ (r.hearPrivacy p b).lines.map Line.dark = r.lines.map Line.dark
    ∧ (r.hearPrivacy p b).link.links = r.link.links ∧ (r.hearPrivacy p b).link.call = r.link.call
    ∧ (r.hearPrivacy p b).link.delay = r.link.delay
    ∧ (r.hearPrivacy p b).det.map Detector.settings = r.det.map Detector.settings
    ∧ (r.hearPrivacy p b).fb.settings = r.fb.settings ∧ (r.hearPrivacy p b).mute.stamp = r.mute.stamp
    ∧ (r.hearPrivacy p b).mute.linkIdle = r.mute.linkIdle ∧ (r.hearPrivacy p b).map.groups = r.map.groups
    ∧ (r.hearPrivacy p b).map.waitLimit = r.map.waitLimit := by
  unfold Room.hearPrivacy
  try dsimp only
  repeat' split
  all_goals simp

@[simp] theorem Room.hearStatus_keeps (r : Room) (p : PodPos) (x : StatusRecord) :
    (r.hearStatus p x).store = r.store ∧ (r.hearStatus p x).floor.settings = r.floor.settings
    ∧ (r.hearStatus p x).mix.settings = r.mix.settings ∧ (r.hearStatus p x).link.links = r.link.links
    ∧ (r.hearStatus p x).link.delay = r.link.delay
    ∧ (r.hearStatus p x).det.map Detector.settings = r.det.map Detector.settings
    ∧ (r.hearStatus p x).fb.settings = r.fb.settings ∧ (r.hearStatus p x).mute.linkIdle = r.mute.linkIdle
    ∧ (r.hearStatus p x).map.groups = r.map.groups ∧ (r.hearStatus p x).map.waitLimit = r.map.waitLimit := by
  unfold Room.hearStatus
  split
  · simp
  · simp [Room.presses_keeps]

@[simp] theorem Room.setLineSettings_keeps (r : Room) (l : LineNo) (x : LineSettings) :
    (r.setLineSettings l x).store = r.store ∧ (r.setLineSettings l x).floor.settings = r.floor.settings
    ∧ (r.setLineSettings l x).floor.standby = r.floor.standby
    ∧ (r.setLineSettings l x).mix.settings = r.mix.settings
    ∧ (r.setLineSettings l x).mix.standby = r.mix.standby
    ∧ (r.setLineSettings l x).lines.map Line.dark = r.lines.map Line.dark
    ∧ (r.setLineSettings l x).link.links = r.link.links ∧ (r.setLineSettings l x).link.call = r.link.call
    ∧ (r.setLineSettings l x).link.delay = r.link.delay
    ∧ (r.setLineSettings l x).det.map Detector.settings = r.det.map Detector.settings
    ∧ (r.setLineSettings l x).fb.settings = r.fb.settings ∧ (r.setLineSettings l x).mute.stamp = r.mute.stamp
    ∧ (r.setLineSettings l x).mute.linkIdle = r.mute.linkIdle
    ∧ (r.setLineSettings l x).map.groups = r.map.groups
    ∧ (r.setLineSettings l x).map.waitLimit = r.map.waitLimit := by
  simp [Room.setLineSettings]

@[simp] theorem Room.startRehearsal_keeps (r : Room) (l : LineNo) (x : Rehearsal) :
    (r.startRehearsal l x).store = r.store ∧ (r.startRehearsal l x).floor.settings = r.floor.settings
    ∧ (r.startRehearsal l x).floor.standby = r.floor.standby
    ∧ (r.startRehearsal l x).mix.settings = r.mix.settings ∧ (r.startRehearsal l x).mix.standby = r.mix.standby
    ∧ (r.startRehearsal l x).lines.map Line.dark = r.lines.map Line.dark
    ∧ (r.startRehearsal l x).link.links = r.link.links ∧ (r.startRehearsal l x).link.call = r.link.call
    ∧ (r.startRehearsal l x).link.delay = r.link.delay
    ∧ (r.startRehearsal l x).det.map Detector.settings = r.det.map Detector.settings
    ∧ (r.startRehearsal l x).fb.settings = r.fb.settings ∧ (r.startRehearsal l x).mute.stamp = r.mute.stamp
    ∧ (r.startRehearsal l x).mute.linkIdle = r.mute.linkIdle ∧ (r.startRehearsal l x).map.groups = r.map.groups
    ∧ (r.startRehearsal l x).map.waitLimit = r.map.waitLimit := by
  unfold Room.startRehearsal
  try dsimp only
  repeat' split
  all_goals simp

/-! ## The Scene Store -/

@[simp] theorem Room.startSave_keeps (r : Room) (i : Fin 12) (name : List Byte) :
    (r.startSave i name).map = r.map ∧ (r.startSave i name).lines = r.lines
    ∧ (r.startSave i name).det = r.det ∧ (r.startSave i name).mute = r.mute
    ∧ (r.startSave i name).floor = r.floor ∧ (r.startSave i name).mix = r.mix
    ∧ (r.startSave i name).link = r.link ∧ (r.startSave i name).fb = r.fb ∧ (r.startSave i name).out = r.out
    ∧ (r.startSave i name).box = r.box ∧ (r.startSave i name).begun = r.begun := by
  unfold Room.startSave
  try dsimp only
  repeat' split
  all_goals simp

@[simp] theorem Room.saveDone_keeps (r : Room) (b : Bool) :
    (r.saveDone b).map = r.map ∧ (r.saveDone b).lines = r.lines ∧ (r.saveDone b).det = r.det
    ∧ (r.saveDone b).mute = r.mute ∧ (r.saveDone b).floor = r.floor ∧ (r.saveDone b).mix = r.mix
    ∧ (r.saveDone b).link = r.link ∧ (r.saveDone b).fb = r.fb ∧ (r.saveDone b).box = r.box
    ∧ (r.saveDone b).begun = r.begun := by
  unfold Room.saveDone
  try dsimp only
  repeat' split
  all_goals simp

@[simp] theorem Room.eraseDone_keeps (r : Room) (b : Bool) :
    (r.eraseDone b).map = r.map ∧ (r.eraseDone b).lines = r.lines ∧ (r.eraseDone b).det = r.det
    ∧ (r.eraseDone b).mute = r.mute ∧ (r.eraseDone b).floor = r.floor ∧ (r.eraseDone b).mix = r.mix
    ∧ (r.eraseDone b).link = r.link ∧ (r.eraseDone b).fb = r.fb ∧ (r.eraseDone b).box = r.box
    ∧ (r.eraseDone b).begun = r.begun := by
  unfold Room.eraseDone
  try dsimp only
  repeat' split
  all_goals simp

@[simp] theorem Room.startDone_keeps (r : Room) (b : Bool) :
    (r.startDone b).map = r.map ∧ (r.startDone b).lines = r.lines ∧ (r.startDone b).det = r.det
    ∧ (r.startDone b).mute = r.mute ∧ (r.startDone b).floor = r.floor ∧ (r.startDone b).mix = r.mix
    ∧ (r.startDone b).link = r.link ∧ (r.startDone b).fb = r.fb ∧ (r.startDone b).box = r.box
    ∧ (r.startDone b).begun = r.begun := by
  unfold Room.startDone
  try dsimp only
  repeat' split
  all_goals simp

@[simp] theorem Room.recallSwitch_keeps (r : Room) :
    (r.recallSwitch).lines = r.lines ∧ (r.recallSwitch).det = r.det ∧ (r.recallSwitch).mute = r.mute
    ∧ (r.recallSwitch).floor = r.floor ∧ (r.recallSwitch).mix = r.mix ∧ (r.recallSwitch).link = r.link
    ∧ (r.recallSwitch).fb = r.fb ∧ (r.recallSwitch).store = r.store ∧ (r.recallSwitch).box = r.box
    ∧ (r.recallSwitch).begun = r.begun ∧ (r.recallSwitch).map.running = r.map.running
    ∧ (r.recallSwitch).map.staged = r.map.staged ∧ (r.recallSwitch).map.groups = r.map.groups
    ∧ (r.recallSwitch).map.waitLimit = r.map.waitLimit := by
  unfold Room.recallSwitch
  try dsimp only
  repeat' split
  all_goals simp

@[simp] theorem Room.groupNotices_keeps (r : Room) (b : Bool) :
    (r.groupNotices b).store = r.store ∧ (r.groupNotices b).floor.settings = r.floor.settings
    ∧ (r.groupNotices b).floor.standby = r.floor.standby ∧ (r.groupNotices b).mix.settings = r.mix.settings
    ∧ (r.groupNotices b).mix.standby = r.mix.standby
    ∧ (r.groupNotices b).lines.map Line.facts = r.lines.map Line.facts
    ∧ (r.groupNotices b).lines.map Line.dark = r.lines.map Line.dark
    ∧ (r.groupNotices b).link.links = r.link.links ∧ (r.groupNotices b).link.call = r.link.call
    ∧ (r.groupNotices b).link.delay = r.link.delay
    ∧ (r.groupNotices b).det.map Detector.settings = r.det.map Detector.settings
    ∧ (r.groupNotices b).fb.settings = r.fb.settings ∧ (r.groupNotices b).mute.stamp = r.mute.stamp
    ∧ (r.groupNotices b).mute.linkIdle = r.mute.linkIdle := by
  cases b <;> simp [Room.groupNotices]

@[simp] theorem Room.recallSeating_keeps (r : Room) (c : Scene) :
    (r.recallSeating c).store = r.store ∧ (r.recallSeating c).floor.settings = r.floor.settings
    ∧ (r.recallSeating c).floor.standby = r.floor.standby ∧ (r.recallSeating c).mix.settings = r.mix.settings
    ∧ (r.recallSeating c).mix.standby = r.mix.standby
    ∧ (r.recallSeating c).lines.map Line.facts = r.lines.map Line.facts
    ∧ (r.recallSeating c).lines.map Line.dark = r.lines.map Line.dark
    ∧ (r.recallSeating c).link.links = r.link.links ∧ (r.recallSeating c).link.call = r.link.call
    ∧ (r.recallSeating c).link.delay = r.link.delay
    ∧ (r.recallSeating c).det.map Detector.settings = r.det.map Detector.settings
    ∧ (r.recallSeating c).fb.settings = r.fb.settings ∧ (r.recallSeating c).mute.stamp = r.mute.stamp
    ∧ (r.recallSeating c).mute.linkIdle = r.mute.linkIdle := by
  simp -implicitDefEqProofs [Room.recallSeating]

@[simp] theorem Room.recallLines_keeps (r : Room) (c : Scene) :
    (r.recallLines c).store = r.store ∧ (r.recallLines c).floor.settings = r.floor.settings
    ∧ (r.recallLines c).floor.standby = r.floor.standby ∧ (r.recallLines c).mix.settings = r.mix.settings
    ∧ (r.recallLines c).mix.standby = r.mix.standby
    ∧ (r.recallLines c).lines.map Line.dark = r.lines.map Line.dark
    ∧ (r.recallLines c).link.links = r.link.links ∧ (r.recallLines c).link.call = r.link.call
    ∧ (r.recallLines c).link.delay = r.link.delay
    ∧ (r.recallLines c).det.map Detector.settings = r.det.map Detector.settings
    ∧ (r.recallLines c).fb.settings = r.fb.settings ∧ (r.recallLines c).mute.stamp = r.mute.stamp
    ∧ (r.recallLines c).mute.linkIdle = r.mute.linkIdle ∧ (r.recallLines c).map.groups = r.map.groups
    ∧ (r.recallLines c).map.waitLimit = r.map.waitLimit := by
  simp [Room.recallLines]

@[simp] theorem Room.recallDetectors_keeps (r : Room) (c : Scene) :
    (r.recallDetectors c).store = r.store ∧ (r.recallDetectors c).floor.settings = r.floor.settings
    ∧ (r.recallDetectors c).floor.standby = r.floor.standby
    ∧ (r.recallDetectors c).mix.settings = r.mix.settings ∧ (r.recallDetectors c).mix.standby = r.mix.standby
    ∧ (r.recallDetectors c).lines.map Line.facts = r.lines.map Line.facts
    ∧ (r.recallDetectors c).lines.map Line.dark = r.lines.map Line.dark
    ∧ (r.recallDetectors c).link.links = r.link.links ∧ (r.recallDetectors c).link.call = r.link.call
    ∧ (r.recallDetectors c).link.delay = r.link.delay ∧ (r.recallDetectors c).fb.settings = r.fb.settings
    ∧ (r.recallDetectors c).mute.stamp = r.mute.stamp ∧ (r.recallDetectors c).mute.linkIdle = r.mute.linkIdle
    ∧ (r.recallDetectors c).map.groups = r.map.groups ∧ (r.recallDetectors c).map.waitLimit = r.map.waitLimit := by
  unfold Room.recallDetectors
  simp

@[simp] theorem Room.recallSound_keeps (r : Room) (c : Scene) :
    (r.recallSound c).store = r.store ∧ (r.recallSound c).floor.settings = r.floor.settings
    ∧ (r.recallSound c).floor.standby = r.floor.standby ∧ (r.recallSound c).mix.standby = r.mix.standby
    ∧ (r.recallSound c).lines.map Line.facts = r.lines.map Line.facts
    ∧ (r.recallSound c).lines.map Line.dark = r.lines.map Line.dark
    ∧ (r.recallSound c).link.links = r.link.links ∧ (r.recallSound c).link.call = r.link.call
    ∧ (r.recallSound c).det.map Detector.settings = r.det.map Detector.settings
    ∧ (r.recallSound c).mute.stamp = r.mute.stamp ∧ (r.recallSound c).mute.linkIdle = r.mute.linkIdle
    ∧ (r.recallSound c).map.groups = r.map.groups ∧ (r.recallSound c).map.waitLimit = r.map.waitLimit := by
  simp -implicitDefEqProofs [Room.recallSound]

@[simp] theorem Room.recallFloor_keeps (r : Room) (c : Scene) :
    (r.recallFloor c).store = r.store ∧ (r.recallFloor c).floor.standby = r.floor.standby
    ∧ (r.recallFloor c).mix.settings = r.mix.settings ∧ (r.recallFloor c).mix.standby = r.mix.standby
    ∧ (r.recallFloor c).lines.map Line.facts = r.lines.map Line.facts
    ∧ (r.recallFloor c).lines.map Line.dark = r.lines.map Line.dark
    ∧ (r.recallFloor c).link.links = r.link.links ∧ (r.recallFloor c).link.call = r.link.call
    ∧ (r.recallFloor c).link.delay = r.link.delay
    ∧ (r.recallFloor c).det.map Detector.settings = r.det.map Detector.settings
    ∧ (r.recallFloor c).fb.settings = r.fb.settings ∧ (r.recallFloor c).mute.stamp = r.mute.stamp
    ∧ (r.recallFloor c).mute.linkIdle = r.mute.linkIdle ∧ (r.recallFloor c).map.groups = r.map.groups
    ∧ (r.recallFloor c).map.waitLimit = r.map.waitLimit := by
  simp [Room.recallFloor]

@[simp] theorem Room.recall_keeps (r : Room) (c : Scene) :
    (r.recall c).store = r.store ∧ (r.recall c).mute.stamp = r.mute.stamp
    ∧ (r.recall c).mute.linkIdle = r.mute.linkIdle ∧ (r.recall c).link.links = r.link.links
    ∧ (r.recall c).link.call = r.link.call := by
  simp [Room.recall]

@[simp] theorem Room.liveNotice_keeps (r : Room) (n : Seat) :
    (r.liveNotice n).map = r.map ∧ (r.liveNotice n).lines = r.lines ∧ (r.liveNotice n).det = r.det ∧ (r.liveNotice n).mute = r.mute
    ∧ (r.liveNotice n).floor = r.floor ∧ (r.liveNotice n).mix = r.mix ∧ (r.liveNotice n).link = r.link ∧ (r.liveNotice n).store = r.store
    ∧ (r.liveNotice n).out = r.out ∧ (r.liveNotice n).box = r.box ∧ (r.liveNotice n).begun = r.begun
    ∧ (r.liveNotice n).fb.settings = r.fb.settings
    ∧ (r.liveNotice n).fb.seats.map FbSeat.facts = r.fb.seats.map FbSeat.facts := by
  unfold Room.liveNotice
  split
  · simp
  · simp [Room.fbLive_keeps]

@[simp] theorem Room.liveNotices_keeps (r : Room) :
    r.liveNotices.map = r.map ∧ r.liveNotices.lines = r.lines ∧ r.liveNotices.det = r.det ∧ r.liveNotices.mute = r.mute
    ∧ r.liveNotices.floor = r.floor ∧ r.liveNotices.mix = r.mix ∧ r.liveNotices.link = r.link ∧ r.liveNotices.store = r.store
    ∧ r.liveNotices.out = r.out ∧ r.liveNotices.box = r.box ∧ r.liveNotices.begun = r.begun
    ∧ r.liveNotices.fb.settings = r.fb.settings
    ∧ r.liveNotices.fb.seats.map FbSeat.facts = r.fb.seats.map FbSeat.facts := by
  have h : ∀ (ns : List Seat) (r : Room), let t := ns.foldl Room.liveNotice r
    t.map = r.map ∧ t.lines = r.lines ∧ t.det = r.det ∧ t.mute = r.mute
    ∧ t.floor = r.floor ∧ t.mix = r.mix ∧ t.link = r.link ∧ t.store = r.store
    ∧ t.out = r.out ∧ t.box = r.box ∧ t.begun = r.begun
    ∧ t.fb.settings = r.fb.settings
    ∧ t.fb.seats.map FbSeat.facts = r.fb.seats.map FbSeat.facts := by
    intro ns
    induction ns with
    | nil => simp
    | cons n ns ih =>
      intro r
      have a := ih (r.liveNotice n)
      simpa [Room.liveNotice_keeps] using a
  unfold Room.liveNotices
  generalize allSeats = ns
  exact h ns r

end Sys2Proof.Machine
end

