-- ==== Sys2Proof/Laws/Derive.lean ====
section
/-! SUPPORT. The derivation of effective mute (R71): what it reads, that no part of it changes what it reads, and that it
leaves every seat and link as the claims and flags give it. -/

namespace Sys2Proof.Machine

open Sys2Proof

/-- Two rooms give the same effective mutes where their maps, flags and claims agree. -/
structure Room.SameClaims (r t : Room) : Prop where
  running : t.map.running = r.map.running
  groups : t.map.groups = r.map.groups
  flags : t.mute.seats.map MuteSeat.facts = r.mute.seats.map MuteSeat.facts
  table : t.mute.table = r.mute.table

theorem Room.SameClaims.rfl' (r : Room) : r.SameClaims r := ⟨rfl, rfl, rfl, rfl⟩

theorem Room.SameClaims.trans {r t u : Room} (h : r.SameClaims t) (g : t.SameClaims u) : r.SameClaims u :=
  ⟨g.running.trans h.running, g.groups.trans h.groups, g.flags.trans h.flags, g.table.trans h.table⟩

theorem facts_at {r t : Room} (h : t.mute.seats.map MuteSeat.facts = r.mute.seats.map MuteSeat.facts) (n : Seat) :
    (t.mute.seats.get n).facts = (r.mute.seats.get n).facts := by
  have := congrArg (fun x => Tab.get x n) h
  simpa using this

theorem Room.SameClaims.covers {r t : Room} (h : r.SameClaims t) (sc : Scope) (n : Seat) :
    t.scopeCovers sc n = r.scopeCovers sc n := by
  cases sc <;> simp [Room.scopeCovers, Room.isChair, Room.entry, h.running, h.groups]
  rfl

theorem Room.SameClaims.claims {r t : Room} (h : r.SameClaims t) (n : Seat) (d : Dir) :
    t.claimsOver n d = r.claimsOver n d := by
  simp [Room.claimsOver, h.table, h.covers]

/-- The effective mute of a seat depends on nothing but the map, the groups, the flags and the claims. -/
theorem Room.SameClaims.effOf {r t : Room} (h : r.SameClaims t) (n : Seat) : t.effOf n = r.effOf n := by
  have hf := facts_at h.flags n
  simp only [MuteSeat.facts, FlagFacts.mk.injEq] at hf
  simp [Room.effOf, h.claims, hf]

/-- The effective mute of a link depends on nothing but the claims. -/
theorem Room.SameClaims.linkEffOf {r t : Room} (h : r.SameClaims t) (k : Link) : t.linkEffOf k = r.linkEffOf k := by
  simp [Room.linkEffOf, Room.linkClaims, h.table]

theorem Room.seatChanged_eff (r : Room) (n : Seat) (o w : Eff) : (r.seatChanged n o w).mute = r.mute := by simp

/-- The derivation of one seat leaves that seat derived, and no other seat's effective mute changed. -/
theorem Room.deriveSeat_eff (r : Room) (n m : Seat) :
    (r.deriveSeat n).eff m = if n = m then r.effOf m else r.eff m := by
  unfold Room.deriveSeat
  dsimp only
  split
  · rename_i h
    split
    · subst m
      exact h
    · rfl
  · show (Mute.eff _).get m = _
    simp only [Room.spellUpdate_keeps, Room.seatChanged_keeps, Tab.get_set]
    split
    · subst m; rfl
    · rfl

theorem Room.deriveSeat_same (r : Room) (n : Seat) : r.SameClaims (r.deriveSeat n) := by
  constructor <;> simp

theorem Room.deriveLink_same (r : Room) (k : Link) : r.SameClaims (r.deriveLink k) := by
  constructor <;> simp

theorem Room.deriveLink_eff (r : Room) (k : Link) (m : Seat) : (r.deriveLink k).eff m = r.eff m := by
  simp [Room.eff, Room.deriveLink]

theorem Room.deriveLink_links (r : Room) (k j : Link) :
    (r.deriveLink k).mute.links.get j = if k = j then r.linkEffOf j else r.mute.links.get j := by
  simp only [Room.deriveLink, Room.deriveWay_keeps, Tab.get_set]
  split
  · subst j; rfl
  · rfl

theorem Room.deriveSeat_links (r : Room) (n : Seat) : (r.deriveSeat n).mute.links = r.mute.links := by
  unfold Room.deriveSeat
  dsimp only
  split <;> simp

theorem Room.deriveSeats_same (r : Room) (l : List Seat) : r.SameClaims (l.foldl Room.deriveSeat r) := by
  induction l generalizing r with
  | nil => exact .rfl' r
  | cons n l ih => exact (r.deriveSeat_same n).trans (ih _)

theorem Room.deriveLinks_same (r : Room) (l : List Link) : r.SameClaims (l.foldl Room.deriveLink r) := by
  induction l generalizing r with
  | nil => exact .rfl' r
  | cons n l ih => exact (r.deriveLink_same n).trans (ih _)

theorem Room.derive_same (r : Room) : r.SameClaims r.derive :=
  (r.deriveSeats_same allSeats).trans (Room.deriveLinks_same _ allLinks)

theorem Room.deriveSeats_eff (r : Room) (l : List Seat) (m : Seat) :
    (l.foldl Room.deriveSeat r).eff m = if m ∈ l then r.effOf m else r.eff m := by
  induction l generalizing r with
  | nil => simp
  | cons n l ih =>
    rw [List.foldl_cons, ih, (r.deriveSeat_same n).effOf, r.deriveSeat_eff]
    by_cases h : m ∈ l
    · simp [h]
    · by_cases e : n = m
      · simp [e]
      · simp [h, e, Ne.symm e]

theorem Room.deriveLinks_links (r : Room) (l : List Link) (k : Link) :
    (l.foldl Room.deriveLink r).mute.links.get k = if k ∈ l then r.linkEffOf k else r.mute.links.get k := by
  induction l generalizing r with
  | nil => simp
  | cons n l ih =>
    rw [List.foldl_cons, ih, (r.deriveLink_same n).linkEffOf, r.deriveLink_links]
    by_cases h : k ∈ l
    · simp [h]
    · by_cases e : n = k
      · simp [e]
      · simp [h, e, Ne.symm e]

theorem Room.deriveLinks_eff (r : Room) (l : List Link) (m : Seat) : (l.foldl Room.deriveLink r).eff m = r.eff m := by
  induction l generalizing r with
  | nil => rfl
  | cons n l ih => rw [List.foldl_cons, ih, r.deriveLink_eff]

theorem mem_allSeats (n : Seat) : n ∈ allSeats := List.mem_finRange n
theorem mem_allLinks (k : Link) : k ∈ allLinks := List.mem_finRange k

/-- The effective mute of a seat after the derivation. -/
theorem Room.derive_eff (r : Room) (n : Seat) : r.derive.eff n = r.effOf n := by
  unfold Room.derive
  rw [Room.deriveLinks_eff, Room.deriveSeats_eff, if_pos (mem_allSeats n)]

/-- After the derivation every effective mute is the one the flags and claims give (R70, R71). -/
theorem Room.derive_derived (r : Room) : r.derive.Derived := by
  refine ⟨fun n => ?_, fun k => ?_⟩
  · rw [Room.derive_eff, r.derive_same.effOf]
  · rw [r.derive_same.linkEffOf]
    unfold Room.derive
    rw [Room.deriveLinks_links, if_pos (mem_allLinks k), (Room.deriveSeats_same r allSeats).linkEffOf]

/-- An operation that leaves the Arbiter, the map and the groups alone keeps the mutes derived. -/
theorem Room.Derived.of_same {r t : Room} (h : r.Derived) (hs : r.SameClaims t) (he : t.mute.eff = r.mute.eff)
    (hl : t.mute.links = r.mute.links) : t.Derived := by
  refine ⟨fun n => ?_, fun k => ?_⟩
  · rw [hs.effOf, ← h.1 n, Room.eff, he]
    rfl
  · rw [hs.linkEffOf, ← h.2 k, hl]

end Sys2Proof.Machine
end

