-- ==== Sys2Proof/Laws/Dues.lean ====
section
/-! SUPPORT. What has fallen due, block by block: which commands the due list of each block holds, and when. A proof about
the due commands cites these in place of the lists. -/

namespace Sys2Proof.Machine

open Sys2Proof

theorem mem_allComps (id : CompId) : id ∈ allComps := by
  cases id <;> simp [allComps, seatComps, linkComps, loneComps, classMics, trimComps, allSeats, allLinks, allTrims]

/-- A command under a condition. -/
theorem mem_ite_singleton {α : Type} (p : Prop) [Decidable p] (c d : α) :
    (c ∈ if p then [d] else []) ↔ p ∧ c = d := by
  split <;> simp [*]

theorem due_iff (t : Option Nat) : due t = true ↔ t = some 0 := by simp [due]

theorem Line.mem_dues (l : Line) (n : LineNo) (c : Instr) :
    c ∈ l.dues n ↔
      (c = .enumerationTimeout n ∧ l.waited = true) ∨ (c = .probeTimerExpiry n ∧ l.probeTimer = some 0)
      ∨ (c = .rehearsalEnd n ∧ ∃ x, l.rehearsal = some x ∧ x.left = 0)
      ∨ ∃ p, c = .roomLampBlinkEnd n p ∧ (l.pods.get p).blink = some 0 := by
  unfold Line.dues
  rw [List.mem_append, List.mem_append, List.mem_append, mem_ite_singleton, mem_ite_singleton, or_assoc, or_assoc,
    due_iff, and_comm, and_comm (b := c = .probeTimerExpiry n)]
  refine or_congr_right (or_congr_right (or_congr ?_ ?_))
  · rcases l.rehearsal with _ | ⟨_, _, _ | _⟩ <;> simp
  · simp only [List.mem_map, List.mem_filter, allPositions, List.mem_finRange, true_and, due_iff]
    exact exists_congr fun p => by rw [and_comm, eq_comm]

theorem Detector.mem_dues (d : Detector) (n : Seat) (c : Instr) :
    c ∈ d.dues n ↔
      (c = .seedTimerExpiry n ∧ d.seed = some 0) ∨ (c = .riseBlankExpiry n ∧ d.rise = some 0)
      ∨ (c = .fallGuardExpiry n ∧ d.fall = some 0) := by
  unfold Detector.dues
  rw [List.mem_append, List.mem_append, mem_ite_singleton, mem_ite_singleton, mem_ite_singleton, or_assoc]
  simp only [due_iff, and_comm (b := c = _)]

theorem FloorSeat.mem_dues (x : FloorSeat) (n : Seat) (c : Instr) :
    c ∈ x.dues n ↔
      (c = .holdTimerExpiry n ∧ x.timer = .hold 0) ∨ (c = .idleTimerExpiry n ∧ x.timer = .idle 0) := by
  unfold FloorSeat.dues
  rcases x.timer with _ | ⟨_ | _⟩ | ⟨_ | _⟩ <;> simp

theorem FbSeat.mem_dues (x : FbSeat) (n : Seat) (c : Instr) :
    c ∈ x.dues n ↔
      (∃ w, x.window = some w ∧ w.length ≤ w.elapsed
        ∧ c = .windowEnd n (Config.strongest w.frames).1 (Config.strongest w.frames).2)
      ∨ (c = .retryTimerExpiry n ∧ x.retryTimer = some 0) := by
  unfold FbSeat.dues
  rw [List.mem_append, mem_ite_singleton]
  apply or_congr
  · cases x.window with
    | none => simp
    | some w => simp
  · rw [due_iff, and_comm]

theorem Line.waited_iff (l : Line) :
    l.waited = true ↔ match l.scan with
      | some e => e.left = 0
      | none => ∃ e, l.probe = some e ∧ e.left = 0 := by
  unfold Line.waited
  cases l.scan <;> cases l.probe <;> simp

theorem Comp.due_iff (c : Comp) : c.due = true ↔ ∃ p, c.ramp = some p ∧ p.total ≤ p.elapsed := by
  unfold Comp.due
  cases c.ramp <;> simp

theorem Mix.toneDue_iff (m : Mix) (n : Seat) :
    m.toneDue n = true ↔
      ∃ p, m.players.get n = some p ∧ (m.envelope.get n).target ≠ .off ∧ p.tone.length ≤ p.elapsed + 5 := by
  unfold Mix.toneDue
  cases m.players.get n <;> simp [and_comm]

end Sys2Proof.Machine
end

