-- ==== Sys2Proof/Laws/Fields.lean ====
section
/-! SUPPORT. The fields of requests read back: each reading function gives the thing its byte was written for;
the terms of a bus that a component stands in; and the gain of a term that one component holds off. -/

namespace Sys2Proof.Machine

open Sys2Proof

@[simp] theorem byteOf_toNat (n : Nat) : (byteOf n).toNat = n % 256 := by simp [byteOf]

theorem byteOf_small {n : Nat} (h : n < 256) : (byteOf n).toNat = n := by
  rw [byteOf_toNat, Nat.mod_eq_of_lt h]

theorem numByte_toNat {n : Nat} (i : Fin n) (h : n ≤ 255) : (numByte i).toNat = i.val + 1 := by
  unfold numByte numberOf
  exact byteOf_small (by omega)

/-- A thing counted from 1 reads back (R188). -/
theorem numbered_numByte {n : Nat} (i : Fin n) (h : n ≤ 255) : numbered n (numByte i) = some i := by
  have hi := numByte_toNat i h
  unfold numbered
  rw [dif_pos ⟨by omega, by omega⟩]
  congr 1
  apply Fin.ext
  simp [hi]

@[simp] theorem numbered_seat (n : Seat) : numbered 40 (numByte n) = some n := numbered_numByte n (by decide)
@[simp] theorem numbered_link (k : Link) : numbered 4 (numByte k) = some k := numbered_numByte k (by decide)
@[simp] theorem numbered_line (l : LineNo) : numbered 2 (numByte l) = some l := numbered_numByte l (by decide)
@[simp] theorem numbered_pos (p : Pos) : numbered 20 (numByte p) = some p := numbered_numByte p (by decide)
@[simp] theorem numbered_group (g : Group) : numbered 8 (numByte g) = some g := numbered_numByte g (by decide)

/-- What `numbered` reads is the thing its number names. -/
theorem numbered_some {n : Nat} {b : Byte} {i : Fin n} (h : numbered n b = some i) : b.toNat = i.val + 1 := by
  unfold numbered at h
  split at h
  · cases h
    simp
    omega
  · cases h

/-- A byte reads as the thing numbered one below it, and as no other. -/
theorem numbered_iff {n : Nat} {b : Byte} {i : Fin n} (h : n ≤ 255) : numbered n b = some i ↔ b.toNat = i.val + 1 := by
  refine ⟨numbered_some, fun e => ?_⟩
  rw [show b = numByte i from BitVec.eq_of_toNat_eq (by rw [numByte_toNat i h, e]), numbered_numByte i h]

theorem mapM_some {α β : Type} (f : α → Option β) (g : β → α) (h : ∀ b, f (g b) = some b) (l : List β) :
    (l.map g).mapM f = some l := by
  induction l with
  | nil => rfl
  | cons b l ih => simp [h, ih]

/-- A thing counted from 0 reads back (R188). -/
theorem counted_byteOf {n : Nat} (i : Fin n) (h : n ≤ 256) : counted n (byteOf i.val) = some i := by
  have hi : (byteOf i.val).toNat = i.val := byteOf_small (by omega)
  unfold counted
  rw [dif_pos (by omega)]
  congr 1
  exact Fin.ext hi

/-- The entries of MAP_LOAD's body read back (R189). -/
theorem rawEntries_flatMap (l : List RawEntry) :
    rawEntries (l.flatMap fun e => [e.line, e.position, e.attributes]) = l := by
  induction l with
  | nil => rfl
  | cons e l ih =>
    simp only [List.flatMap_cons, List.cons_append, List.nil_append, rawEntries, ih]

/-- Two bytes of a field of two bytes make its number. -/
theorem pairOf_pair (p : Pair) : pairOf (p.extractLsb' 8 8) (p.extractLsb' 0 8) = p.toNat := by
  unfold pairOf
  simp [BitVec.extractLsb'_toNat, Nat.shiftRight_eq_div_pow]
  have := p.isLt
  omega

/-- The terms of Ln that a component stands in are those whose components it is among (R122). -/
theorem CompId.mem_termsOn (n : Seat) (id : CompId) (s : Source) :
    s ∈ CompId.termsOn n id ↔ s ∈ (Bus.loud n).terms ∧ id ∈ termComps (.loud n) s := by
  rcases s with m | k | _ | _ | m <;> cases id <;>
    simp [CompId.termsOn, Bus.terms, termComps, classComp, Source.index, allSeats, allLinks] <;> grind

/-- A sum of gains is off once one of them is (R122). -/
theorem sumGains_off (gs : List Gain) : gs.foldl Gain.add .off = .off := by
  induction gs with
  | nil => rfl
  | cons g gs ih => exact ih

/-- The term of a microphone whose gate is going to off gives no rise notice, whichever of its components ramps (R121,
R132). -/
theorem Room.closedMic_never_rises (r : Room) (n m : Seat) (old : Gain) (h : (r.mix.gate.get m).target = .off) :
    risesTo old (r.mix.targetOf (termComps (.loud n) (.mic m))) = false := by
  have off : r.mix.targetOf (termComps (.loud n) (.mic m)) = .off := by
    simp only [Mix.targetOf, sumGains, termComps, List.cons_append, List.map_cons, List.foldl_cons, Mix.comp, h]
    exact sumGains_off _
  rw [off]
  cases old <;> rfl

end Sys2Proof.Machine
end

