-- ==== Sys2Proof/Laws/Grows.lean ====
section
/-! SUPPORT. No operation takes back an event: what a block has queued in a command stands at the front of what the
operations after it leave. -/

set_option linter.unusedTactic false
set_option linter.unusedSimpArgs false
set_option linter.unreachableTactic false

namespace Sys2Proof.Machine

open Sys2Proof

theorem foldl_grows {β : Type} (f : Room → β → Room) (es : List Event)
    (h : ∀ r b, es <+: r.out → es <+: (f r b).out) (l : List β) (r : Room) (hr : es <+: r.out) :
    es <+: (l.foldl f r).out := by
  induction l generalizing r with
  | nil => exact hr
  | cons b l ih => exact ih _ (h r b hr)

@[simp] theorem Room.emit_grows (r : Room) (e : Event) {es : List Event} (h : es <+: r.out) :
    es <+: (r.emit e).out := h.trans (List.prefix_append _ _)

@[simp] theorem Room.closeSeat_grows (r : Room) (n : Seat) (why : Reason) {es : List Event} (h : es <+: r.out) :
    es <+: (r.closeSeat n why).out := by
  unfold Room.closeSeat
  try dsimp only
  repeat' split
  all_goals simp (maxDischargeDepth := 30) -implicitDefEqProofs [h]

@[simp] theorem Room.emitAdmitted_grows (r : Room) (n : Seat) (g : GateState) {es : List Event} (h : es <+: r.out) :
    es <+: (r.emitAdmitted n g).out := by
  unfold Room.emitAdmitted
  try dsimp only
  repeat' split
  all_goals simp (maxDischargeDepth := 30) -implicitDefEqProofs [h]

@[simp] theorem Room.admitSeat_grows (r : Room) (n : Seat) (g : GateState) {es : List Event} (h : es <+: r.out) :
    es <+: (r.admitSeat n g).out := by
  unfold Room.admitSeat
  try dsimp only
  repeat' split
  all_goals simp (maxDischargeDepth := 30) -implicitDefEqProofs [h]

@[simp] theorem Room.waitSeat_grows (r : Room) (n : Seat) {es : List Event} (h : es <+: r.out) :
    es <+: (r.waitSeat n).out := by
  unfold Room.waitSeat
  try dsimp only
  repeat' split
  all_goals simp (maxDischargeDepth := 30) -implicitDefEqProofs [h]

@[simp] theorem Room.queueSeat_grows (r : Room) (n : Seat) {es : List Event} (h : es <+: r.out) :
    es <+: (r.queueSeat n).out := by
  unfold Room.queueSeat
  try dsimp only
  repeat' split
  all_goals simp (maxDischargeDepth := 30) -implicitDefEqProofs [h]

@[simp] theorem Room.fillWaitOne_grows (r : Room) {es : List Event} (h : es <+: r.out) :
    es <+: (r.fillWaitOne).out := by
  unfold Room.fillWaitOne
  try dsimp only
  repeat' split
  all_goals simp (maxDischargeDepth := 30) -implicitDefEqProofs [h]

@[simp] theorem Room.fillQueueOne_grows (r : Room) {es : List Event} (h : es <+: r.out) :
    es <+: (r.fillQueueOne).out := by
  unfold Room.fillQueueOne
  try dsimp only
  repeat' split
  all_goals simp (maxDischargeDepth := 30) -implicitDefEqProofs [h]

@[simp] theorem Room.fillWait_grows (r : Room) {es : List Event} (h : es <+: r.out) :
    es <+: (r.fillWait).out := by
  unfold Room.fillWait
  refine foldl_grows _ _ (fun r x h => ?_) _ _ h
  simp (maxDischargeDepth := 30) -implicitDefEqProofs [h]

@[simp] theorem Room.fillQueue_grows (r : Room) {es : List Event} (h : es <+: r.out) :
    es <+: (r.fillQueue).out := by
  unfold Room.fillQueue
  refine foldl_grows _ _ (fun r x h => ?_) _ _ h
  simp (maxDischargeDepth := 30) -implicitDefEqProofs [h]

@[simp] theorem Room.floorFill_grows (r : Room) {es : List Event} (h : es <+: r.out) :
    es <+: (r.floorFill).out := by
  unfold Room.floorFill
  try dsimp only
  repeat' split
  all_goals simp (maxDischargeDepth := 30) -implicitDefEqProofs [h]

@[simp] theorem Room.onsetClosed_grows (r : Room) (n : Seat) {es : List Event} (h : es <+: r.out) :
    es <+: (r.onsetClosed n).out := by
  unfold Room.onsetClosed
  try dsimp only
  repeat' split
  all_goals simp (maxDischargeDepth := 30) -implicitDefEqProofs [h]

@[simp] theorem Room.onsetAct_grows (r : Room) (n : Seat) {es : List Event} (h : es <+: r.out) :
    es <+: (r.onsetAct n).out := by
  unfold Room.onsetAct
  try dsimp only
  repeat' split
  all_goals simp (maxDischargeDepth := 30) -implicitDefEqProofs [h]

@[simp] theorem Room.endAct_grows (r : Room) (n : Seat) {es : List Event} (h : es <+: r.out) :
    es <+: (r.endAct n).out := by
  unfold Room.endAct
  try dsimp only
  repeat' split
  all_goals simp (maxDischargeDepth := 30) -implicitDefEqProofs [h]

@[simp] theorem Room.becomeAdmissible_grows (r : Room) (n : Seat) {es : List Event} (h : es <+: r.out) :
    es <+: (r.becomeAdmissible n).out := by
  unfold Room.becomeAdmissible
  try dsimp only
  repeat' split
  all_goals simp (maxDischargeDepth := 30) -implicitDefEqProofs [h]

@[simp] theorem Room.floorSpeech_grows (r : Room) (n : Seat) (b : Bool) {es : List Event} (h : es <+: r.out) :
    es <+: (r.floorSpeech n b).out := by
  unfold Room.floorSpeech Room.floorEvent
  try dsimp only
  repeat' split
  all_goals simp (maxDischargeDepth := 30) -implicitDefEqProofs [h]

@[simp] theorem Room.floorMic_grows (r : Room) (n : Seat) (b : Bool) {es : List Event} (h : es <+: r.out) :
    es <+: (r.floorMic n b).out := by
  unfold Room.floorMic Room.floorEvent
  try dsimp only
  repeat' split
  all_goals simp (maxDischargeDepth := 30) -implicitDefEqProofs [h]

@[simp] theorem Room.floorPresence_grows (r : Room) (n : Seat) (p : Presence) {es : List Event} (h : es <+: r.out) :
    es <+: (r.floorPresence n p).out := by
  unfold Room.floorPresence Room.floorEvent
  try dsimp only
  repeat' split
  all_goals simp (maxDischargeDepth := 30) -implicitDefEqProofs [h]

@[simp] theorem Room.floorReseated_grows (r : Room) (n : Seat) {es : List Event} (h : es <+: r.out) :
    es <+: (r.floorReseated n).out := by
  unfold Room.floorReseated Room.floorEvent
  try dsimp only
  repeat' split
  all_goals simp (maxDischargeDepth := 30) -implicitDefEqProofs [h]

@[simp] theorem Room.closeAll_grows (r : Room) (l : List Seat) (why : Reason) {es : List Event} (h : es <+: r.out) :
    es <+: (r.closeAll l why).out := by
  unfold Room.closeAll
  refine foldl_grows _ _ (fun r x h => ?_) _ _ h
  simp (maxDischargeDepth := 30) -implicitDefEqProofs [h]

@[simp] theorem Room.floorRest_grows (r : Room) {es : List Event} (h : es <+: r.out) :
    es <+: (r.floorRest).out := by
  unfold Room.floorRest Room.floorEvent
  try dsimp only
  repeat' split
  all_goals simp (maxDischargeDepth := 30) -implicitDefEqProofs [h]

@[simp] theorem Room.floorWake_grows (r : Room) {es : List Event} (h : es <+: r.out) :
    es <+: (r.floorWake).out := by
  unfold Room.floorWake Room.floorEvent
  simp only [Room.floorFinish_keeps]
  apply Room.floorFill_grows
  exact foldl_grows (fun r n => r.becomeAdmissible n) _ (fun r x h => Room.becomeAdmissible_grows _ _ h) _ _ h

@[simp] theorem Room.floorReset_grows (r : Room) {es : List Event} (h : es <+: r.out) :
    es <+: (r.floorReset).out := by
  unfold Room.floorReset
  exact foldl_grows _ _ (fun r x h => Room.becomeAdmissible_grows _ _ h) _ _ (Room.closeAll_grows _ _ _ h)

@[simp] theorem Room.requeue_grows (r : Room) (n : Seat) (i : Nat) {es : List Event} (h : es <+: r.out) :
    es <+: (r.requeue n i).out := by
  unfold Room.requeue
  try dsimp only
  repeat' split
  all_goals simp (maxDischargeDepth := 30) -implicitDefEqProofs [h]

@[simp] theorem Room.lowerLimit_grows (r : Room) {es : List Event} (h : es <+: r.out) :
    es <+: (r.lowerLimit).out := by
  unfold Room.lowerLimit
  dsimp only
  split
  · exact h
  · exact Room.closeAll_grows _ _ _ h
  · suffices hl : ∀ (l : List Seat) (a : Room × Nat), es <+: a.1.out →
        es <+: (l.foldl (fun (a : Room × Nat) n => (a.1.requeue n a.2, a.2 + 1)) a).1.out from
      hl _ (_, 0) (Room.closeAll_grows _ _ _ h)
    intro l
    induction l with
    | nil => exact fun a h => h
    | cons n l ih => exact fun a h => ih _ (Room.requeue_grows _ _ _ h)

@[simp] theorem Room.closeIfKept_grows (r : Room) (n : Seat) {es : List Event} (h : es <+: r.out) :
    es <+: (r.closeIfKept n).out := by
  unfold Room.closeIfKept
  try dsimp only
  repeat' split
  all_goals simp (maxDischargeDepth := 30) -implicitDefEqProofs [h]

@[simp] theorem Room.closeKept_grows (r : Room) {es : List Event} (h : es <+: r.out) :
    es <+: (r.closeKept).out := by
  unfold Room.closeKept
  refine foldl_grows _ _ (fun r x h => ?_) _ _ h
  simp (maxDischargeDepth := 30) -implicitDefEqProofs [h]

@[simp] theorem Room.setFloor_grows (r : Room) (s : FloorSettings) (b : Bool) {es : List Event} (h : es <+: r.out) :
    es <+: (r.setFloor s b).out := by
  unfold Room.setFloor Room.floorEvent
  try dsimp only
  repeat' split
  all_goals simp (maxDischargeDepth := 30) -implicitDefEqProofs [h]

@[simp] theorem Room.holdExpiry_grows (r : Room) (n : Seat) {es : List Event} (h : es <+: r.out) :
    es <+: (r.holdExpiry n).out := by
  unfold Room.holdExpiry Room.floorEvent
  try dsimp only
  repeat' split
  all_goals simp (maxDischargeDepth := 30) -implicitDefEqProofs [h]

@[simp] theorem Room.idleExpiry_grows (r : Room) (n : Seat) {es : List Event} (h : es <+: r.out) :
    es <+: (r.idleExpiry n).out := by
  unfold Room.idleExpiry Room.floorEvent
  try dsimp only
  repeat' split
  all_goals simp (maxDischargeDepth := 30) -implicitDefEqProofs [h]

@[simp] theorem Room.spellUpdate_grows (r : Room) (n : Seat) {es : List Event} (h : es <+: r.out) :
    es <+: (r.spellUpdate n).out := by
  unfold Room.spellUpdate
  try dsimp only
  repeat' split
  all_goals simp (maxDischargeDepth := 30) -implicitDefEqProofs [h]

@[simp] theorem Room.clearMarks_grows (r : Room) (n : Seat) {es : List Event} (h : es <+: r.out) :
    es <+: (r.clearMarks n).out := by
  unfold Room.clearMarks
  try dsimp only
  repeat' split
  all_goals simp (maxDischargeDepth := 30) -implicitDefEqProofs [h]

@[simp] theorem Room.floorTold_grows (r : Room) (n : Seat) (o w : Eff) {es : List Event} (h : es <+: r.out) :
    es <+: (r.floorTold n o w).out := by
  unfold Room.floorTold
  try dsimp only
  repeat' split
  all_goals simp (maxDischargeDepth := 30) -implicitDefEqProofs [h]

@[simp] theorem Room.stateTold_grows (r : Room) (n : Seat) (o w : Eff) {es : List Event} (h : es <+: r.out) :
    es <+: (r.stateTold n o w).out := by
  unfold Room.stateTold
  try dsimp only
  repeat' split
  all_goals simp (maxDischargeDepth := 30) -implicitDefEqProofs [h]

@[simp] theorem Room.seatChanged_grows (r : Room) (n : Seat) (o w : Eff) {es : List Event} (h : es <+: r.out) :
    es <+: (r.seatChanged n o w).out := by
  unfold Room.seatChanged
  try dsimp only
  repeat' split
  all_goals simp (maxDischargeDepth := 30) -implicitDefEqProofs [h]

@[simp] theorem Room.deriveSeat_grows (r : Room) (n : Seat) {es : List Event} (h : es <+: r.out) :
    es <+: (r.deriveSeat n).out := by
  unfold Room.deriveSeat
  try dsimp only
  repeat' split
  all_goals simp (maxDischargeDepth := 30) -implicitDefEqProofs [h]

@[simp] theorem Room.deriveWay_grows (r : Room) (k : Link) (d : Dir) (o w : Bool) {es : List Event} (h : es <+: r.out) :
    es <+: (r.deriveWay k d o w).out := by
  unfold Room.deriveWay
  try dsimp only
  repeat' split
  all_goals simp (maxDischargeDepth := 30) -implicitDefEqProofs [h]

@[simp] theorem Room.deriveLink_grows (r : Room) (k : Link) {es : List Event} (h : es <+: r.out) :
    es <+: (r.deriveLink k).out := by
  unfold Room.deriveLink
  try dsimp only
  repeat' split
  all_goals simp (maxDischargeDepth := 30) -implicitDefEqProofs [h]

@[simp] theorem Room.derive_grows (r : Room) {es : List Event} (h : es <+: r.out) :
    es <+: (r.derive).out := by
  unfold Room.derive
  exact foldl_grows _ _ (fun r x h => Room.deriveLink_grows _ _ h) _ _
    (foldl_grows _ _ (fun r x h => Room.deriveSeat_grows _ _ h) _ _ h)

@[simp] theorem Room.heldPress_grows (r : Room) (n : Seat) (b : Button) {es : List Event} (h : es <+: r.out) :
    es <+: (r.heldPress n b).out := by
  unfold Room.heldPress
  try dsimp only
  repeat' split
  all_goals simp (maxDischargeDepth := 30) -implicitDefEqProofs [h]

@[simp] theorem Room.micPress_grows (r : Room) (n : Seat) {es : List Event} (h : es <+: r.out) :
    es <+: (r.micPress n).out := by
  unfold Room.micPress
  try dsimp only
  repeat' split
  all_goals simp (maxDischargeDepth := 30) -implicitDefEqProofs [h]

@[simp] theorem Room.talkRelease_grows (r : Room) (n : Seat) {es : List Event} (h : es <+: r.out) :
    es <+: (r.talkRelease n).1.out := by
  unfold Room.talkRelease
  dsimp only
  split <;> simp (maxDischargeDepth := 30) -implicitDefEqProofs [h]

@[simp] theorem Room.goneAll_grows (r : Room) (cs : List Claim) (why : GoneReason) {es : List Event} (h : es <+: r.out) :
    es <+: (r.goneAll cs why).out := by
  unfold Room.goneAll
  refine foldl_grows _ _ (fun r x h => ?_) _ _ h
  simp (maxDischargeDepth := 30) -implicitDefEqProofs [h]

@[simp] theorem Room.roomPress_grows (r : Room) (n : Seat) {es : List Event} (h : es <+: r.out) :
    es <+: (r.roomPress n).out := by
  unfold Room.roomPress
  try dsimp only
  repeat' split
  all_goals simp (maxDischargeDepth := 30) -implicitDefEqProofs [h]

@[simp] theorem Room.fbRaise_grows (r : Room) (n : Seat) {es : List Event} (h : es <+: r.out) :
    es <+: (r.fbRaise n).out := by
  unfold Room.fbRaise
  try dsimp only
  repeat' split
  all_goals simp (maxDischargeDepth := 30) -implicitDefEqProofs [h]

@[simp] theorem Room.fbClear_grows (r : Room) (n : Seat) {es : List Event} (h : es <+: r.out) :
    es <+: (r.fbClear n).out := by
  unfold Room.fbClear
  try dsimp only
  repeat' split
  all_goals simp (maxDischargeDepth := 30) -implicitDefEqProofs [h]

@[simp] theorem Room.privacyReport_grows (r : Room) (n : Seat) (b : Bool) {es : List Event} (h : es <+: r.out) :
    es <+: (r.privacyReport n b).out := by
  unfold Room.privacyReport
  try dsimp only
  repeat' split
  all_goals simp (maxDischargeDepth := 30) -implicitDefEqProofs [h]

@[simp] theorem Room.mutePresence_grows (r : Room) (n : Seat) (p : Presence) {es : List Event} (h : es <+: r.out) :
    es <+: (r.mutePresence n p).out := by
  unfold Room.mutePresence
  try dsimp only
  repeat' split
  all_goals simp (maxDischargeDepth := 30) -implicitDefEqProofs [h]

@[simp] theorem Room.checkChair_grows (r : Room) (n : Seat) {es : List Event} (h : es <+: r.out) :
    es <+: (r.checkChair n).out := by
  unfold Room.checkChair
  try dsimp only
  repeat' split
  all_goals simp (maxDischargeDepth := 30) -implicitDefEqProofs [h]

@[simp] theorem Room.muteReseated_grows (r : Room) (n : Seat) {es : List Event} (h : es <+: r.out) :
    es <+: (r.muteReseated n).out := by
  unfold Room.muteReseated
  try dsimp only
  repeat' split
  all_goals simp (maxDischargeDepth := 30) -implicitDefEqProofs [h]

@[simp] theorem Room.muteSpeech_grows (r : Room) (n : Seat) (b : Bool) {es : List Event} (h : es <+: r.out) :
    es <+: (r.muteSpeech n b).out := by
  unfold Room.muteSpeech
  try dsimp only
  repeat' split
  all_goals simp (maxDischargeDepth := 30) -implicitDefEqProofs [h]

@[simp] theorem Room.linkEnteredIdle_grows (r : Room) (k : Link) {es : List Event} (h : es <+: r.out) :
    es <+: (r.linkEnteredIdle k).out := by
  unfold Room.linkEnteredIdle
  try dsimp only
  repeat' split
  all_goals simp (maxDischargeDepth := 30) -implicitDefEqProofs [h]

@[simp] theorem Room.claimExpiry_grows (r : Room) (i : Fin 48) {es : List Event} (h : es <+: r.out) :
    es <+: (r.claimExpiry i).out := by
  unfold Room.claimExpiry
  try dsimp only
  repeat' split
  all_goals simp (maxDischargeDepth := 30) -implicitDefEqProofs [h]

@[simp] theorem Room.report_grows (r : Room) (n : Seat) (b : Bool) {es : List Event} (h : es <+: r.out) :
    es <+: (r.report n b).out := by
  unfold Room.report
  try dsimp only
  repeat' split
  all_goals simp (maxDischargeDepth := 30) -implicitDefEqProofs [h]

@[simp] theorem Room.runDet_grows (r : Room) (n : Seat) (f : Detector → Heard) {es : List Event} (h : es <+: r.out) :
    es <+: (r.runDet n f).out := by
  unfold Room.runDet
  try dsimp only
  repeat' split
  all_goals simp (maxDischargeDepth := 30) -implicitDefEqProofs [h]

@[simp] theorem Room.fbPresence_grows (r : Room) (n : Seat) (p : Presence) {es : List Event} (h : es <+: r.out) :
    es <+: (r.fbPresence n p).out := by
  unfold Room.fbPresence
  try dsimp only
  repeat' split
  all_goals simp (maxDischargeDepth := 30) -implicitDefEqProofs [h]

@[simp] theorem Room.tripReport_grows (r : Room) (n : Seat) (b : Bool) {es : List Event} (h : es <+: r.out) :
    es <+: (r.tripReport n b).out := by
  unfold Room.tripReport
  try dsimp only
  repeat' split
  all_goals simp (maxDischargeDepth := 30) -implicitDefEqProofs [h]

@[simp] theorem Room.tripLatch_grows (r : Room) (n : Seat) (b : Bool) {es : List Event} (h : es <+: r.out) :
    es <+: (r.tripLatch n b).out := by
  unfold Room.tripLatch
  try dsimp only
  repeat' split
  all_goals simp (maxDischargeDepth := 30) -implicitDefEqProofs [h]

@[simp] theorem Room.tripRetry_grows (r : Room) (n : Seat) (b : Bool) {es : List Event} (h : es <+: r.out) :
    es <+: (r.tripRetry n b).out := by
  unfold Room.tripRetry
  try dsimp only
  repeat' split
  all_goals simp (maxDischargeDepth := 30) -implicitDefEqProofs [h]

@[simp] theorem Room.trip_grows (r : Room) (n : Seat) (b : Bool) {es : List Event} (h : es <+: r.out) :
    es <+: (r.trip n b).out := by
  unfold Room.trip
  try dsimp only
  repeat' split
  all_goals simp (maxDischargeDepth := 30) -implicitDefEqProofs [h]

@[simp] theorem Room.judgeWindow_grows (r : Room) (n : Seat) (b : Bool) {es : List Event} (h : es <+: r.out) :
    es <+: (r.judgeWindow n b).out := by
  unfold Room.judgeWindow
  try dsimp only
  repeat' split
  all_goals simp (maxDischargeDepth := 30) -implicitDefEqProofs [h]

@[simp] theorem Room.windowEnd_grows (r : Room) (n : Seat) (c : Nat) (p : Int) {es : List Event} (h : es <+: r.out) :
    es <+: (r.windowEnd n c p).out := by
  unfold Room.windowEnd
  try dsimp only
  repeat' split
  all_goals simp (maxDischargeDepth := 30) -implicitDefEqProofs [h]

@[simp] theorem Room.retryExpiry_grows (r : Room) (n : Seat) {es : List Event} (h : es <+: r.out) :
    es <+: (r.retryExpiry n).out := by
  unfold Room.retryExpiry
  try dsimp only
  repeat' split
  all_goals simp (maxDischargeDepth := 30) -implicitDefEqProofs [h]

@[simp] theorem Room.release_grows (r : Room) (n : Seat) {es : List Event} (h : es <+: r.out) :
    es <+: (r.release n).out := by
  unfold Room.release
  try dsimp only
  repeat' split
  all_goals simp (maxDischargeDepth := 30) -implicitDefEqProofs [h]

@[simp] theorem Room.rehearseTrip_grows (r : Room) (n : Seat) {es : List Event} (h : es <+: r.out) :
    es <+: (r.rehearseTrip n).out := by
  unfold Room.rehearseTrip
  try dsimp only
  repeat' split
  all_goals simp (maxDischargeDepth := 30) -implicitDefEqProofs [h]

@[simp] theorem Room.presenceNotice_grows (r : Room) (n : Seat) (p : Presence) {es : List Event} (h : es <+: r.out) :
    es <+: (r.presenceNotice n p).out := by
  unfold Room.presenceNotice
  try dsimp only
  repeat' split
  all_goals simp (maxDischargeDepth := 30) -implicitDefEqProofs [h]

@[simp] theorem Room.reseatedNotice_grows (r : Room) (n : Seat) {es : List Event} (h : es <+: r.out) :
    es <+: (r.reseatedNotice n).out := by
  unfold Room.reseatedNotice
  try dsimp only
  repeat' split
  all_goals simp (maxDischargeDepth := 30) -implicitDefEqProofs [h]

@[simp] theorem Room.announce_grows (r : Room) (n : Seat) (p : Presence) {es : List Event} (h : es <+: r.out) :
    es <+: (r.announce n p).out := by
  unfold Room.announce
  try dsimp only
  repeat' split
  all_goals simp (maxDischargeDepth := 30) -implicitDefEqProofs [h]

@[simp] theorem Room.reseat_grows (r : Room) (m : SeatMapUnit) {es : List Event} (h : es <+: r.out) :
    es <+: (r.reseat m).out := by
  unfold Room.reseat
  simp only [Room.repositionAll_keeps]
  refine foldl_grows _ _ (fun r x h => Room.announce_grows _ _ _ h) _ _ ?_
  simpa using h

@[simp] theorem Room.swap_grows (r : Room) (l : LockMode) (q : Bool) {es : List Event} (h : es <+: r.out) :
    es <+: (r.swap l q).out := by
  unfold Room.swap
  try dsimp only
  repeat' split
  all_goals simp (maxDischargeDepth := 30) -implicitDefEqProofs [h]

@[simp] theorem Room.quietNotice_grows (r : Room) (q : Bool) {es : List Event} (h : es <+: r.out) :
    es <+: (r.quietNotice q).out := by
  unfold Room.quietNotice
  try dsimp only
  repeat' split
  all_goals simp (maxDischargeDepth := 30) -implicitDefEqProofs [h]

@[simp] theorem Room.settle_grows (r : Room) {es : List Event} (h : es <+: r.out) :
    es <+: (r.settle).out := by
  unfold Room.settle
  dsimp only
  rw [Room.flagFold]
  simp only [Room.setQuiet_out, Room.judge_keeps]
  exact foldl_grows Room.quietNotice _ (fun r x h => Room.quietNotice_grows _ _ h) _ _ (by simpa using h)

@[simp] theorem Room.retuneSeat_grows (r : Room) (n : Seat) (s : DetSettings) {es : List Event} (h : es <+: r.out) :
    es <+: (r.retuneSeat n s).out := by
  unfold Room.retuneSeat
  try dsimp only
  repeat' split
  all_goals simp (maxDischargeDepth := 30) -implicitDefEqProofs [h]

@[simp] theorem Room.retuneAll_grows (r : Room) (l : List Seat) (s : Seat → DetSettings) {es : List Event} (h : es <+: r.out) :
    es <+: (r.retuneAll l s).out := by
  unfold Room.retuneAll
  refine foldl_grows _ _ (fun r x h => ?_) _ _ h
  simp (maxDischargeDepth := 30) -implicitDefEqProofs [h]

@[simp] theorem Room.askedFree_grows (r : Room) (n : Seat) (b : Bool) {es : List Event} (h : es <+: r.out) :
    es <+: (r.askedFree n b).out := by
  unfold Room.askedFree
  try dsimp only
  repeat' split
  all_goals simp (maxDischargeDepth := 30) -implicitDefEqProofs [h]

@[simp] theorem Room.talkAsk_grows (r : Room) (n : Seat) {es : List Event} (h : es <+: r.out) :
    es <+: (r.talkAsk n).out := by
  unfold Room.talkAsk
  dsimp only
  split
  · simp [h]
  · have h := r.talkRelease_grows n h
    rcases hx : r.talkRelease n with ⟨a, b⟩
    rw [hx] at h
    cases b
    · exact Room.askedFree_grows _ _ _ h
    · exact h

@[simp] theorem Room.talkPress_grows (r : Room) (n : Seat) {es : List Event} (h : es <+: r.out) :
    es <+: (r.talkPress n).out := by
  unfold Room.talkPress Room.floorEvent
  try dsimp only
  repeat' split
  all_goals simp (maxDischargeDepth := 30) -implicitDefEqProofs [h]

@[simp] theorem Room.nextPress_grows (r : Room) (n : Seat) {es : List Event} (h : es <+: r.out) :
    es <+: (r.nextPress n).out := by
  unfold Room.nextPress Room.floorEvent
  try dsimp only
  repeat' split
  all_goals simp (maxDischargeDepth := 30) -implicitDefEqProofs [h]

@[simp] theorem Room.clearMember_grows (r : Room) (n : Seat) {es : List Event} (h : es <+: r.out) :
    es <+: (r.clearMember n).out := by
  unfold Room.clearMember
  try dsimp only
  repeat' split
  all_goals simp (maxDischargeDepth := 30) -implicitDefEqProofs [h]

@[simp] theorem Room.clearGranted_grows (r : Room) (n : Seat) {es : List Event} (h : es <+: r.out) :
    es <+: (r.clearGranted n).out := by
  unfold Room.clearGranted
  try dsimp only
  repeat' split
  all_goals simp (maxDischargeDepth := 30) -implicitDefEqProofs [h]

@[simp] theorem Room.clearRequests_grows (r : Room) {es : List Event} (h : es <+: r.out) :
    es <+: (r.clearRequests).out := by
  unfold Room.clearRequests
  exact Room.closeAll_grows _ _ _ (foldl_grows _ _ (fun r x h => Room.clearGranted_grows _ _ h) _ _ h)

@[simp] theorem Room.clearFloor_grows (r : Room) {es : List Event} (h : es <+: r.out) :
    es <+: (r.clearFloor).out := by
  unfold Room.clearFloor Room.floorEvent
  dsimp only
  repeat' split
  all_goals try simp only [Room.floorFinish_keeps]
  · exact h
  · exact h
  · exact Room.floorFill_grows _ (foldl_grows _ _ (fun r x h => Room.clearMember_grows _ _ h) _ _ h)
  · exact Room.floorFill_grows _ (Room.clearRequests_grows _ h)

@[simp] theorem Room.setCall_grows (r : Room) (c : CallSt) (w : CallCause) (i : Nat) {es : List Event} (h : es <+: r.out) :
    es <+: (r.setCall c w i).out := by
  unfold Room.setCall
  try dsimp only
  repeat' split
  all_goals simp (maxDischargeDepth := 30) -implicitDefEqProofs [h]

@[simp] theorem Room.enterStandby_grows (r : Room) {es : List Event} (h : es <+: r.out) :
    es <+: (r.enterStandby).out := by
  unfold Room.enterStandby
  try dsimp only
  repeat' split
  all_goals simp (maxDischargeDepth := 30) -implicitDefEqProofs [h]

@[simp] theorem Room.wake_grows (r : Room) (c : CallSt) (w : CallCause) (i : Nat) {es : List Event} (h : es <+: r.out) :
    es <+: (r.wake c w i).out := by
  unfold Room.wake
  try dsimp only
  repeat' split
  all_goals simp (maxDischargeDepth := 30) -implicitDefEqProofs [h]

@[simp] theorem Room.wakePress_grows (r : Room) (n : Seat) {es : List Event} (h : es <+: r.out) :
    es <+: (r.wakePress n).out := by
  unfold Room.wakePress
  try dsimp only
  repeat' split
  all_goals simp (maxDischargeDepth := 30) -implicitDefEqProofs [h]

@[simp] theorem Room.deriveCall_grows (r : Room) (k : Link) {es : List Event} (h : es <+: r.out) :
    es <+: (r.deriveCall k).out := by
  unfold Room.deriveCall
  try dsimp only
  repeat' split
  all_goals simp (maxDischargeDepth := 30) -implicitDefEqProofs [h]

@[simp] theorem Room.standbyExpiry_grows (r : Room) {es : List Event} (h : es <+: r.out) :
    es <+: (r.standbyExpiry).out := by
  unfold Room.standbyExpiry
  try dsimp only
  repeat' split
  all_goals simp (maxDischargeDepth := 30) -implicitDefEqProofs [h]

@[simp] theorem Room.setLinkSt_grows (r : Room) (k : Link) (st : LinkSt) (ph : Option Phase) (w : LinkReason) {es : List Event} (h : es <+: r.out) :
    es <+: (r.setLinkSt k st ph w).out := by
  unfold Room.setLinkSt
  try dsimp only
  repeat' split
  all_goals simp (maxDischargeDepth := 30) -implicitDefEqProofs [h]

@[simp] theorem Room.join_grows (r : Room) (k : Link) {es : List Event} (h : es <+: r.out) :
    es <+: (r.join k).out := by
  unfold Room.join
  try dsimp only
  repeat' split
  all_goals simp (maxDischargeDepth := 30) -implicitDefEqProofs [h]

@[simp] theorem Room.lockNotice_grows (r : Room) (k : Link) {es : List Event} (h : es <+: r.out) :
    es <+: (r.lockNotice k).out := by
  unfold Room.lockNotice
  try dsimp only
  repeat' split
  all_goals simp (maxDischargeDepth := 30) -implicitDefEqProofs [h]

@[simp] theorem Room.clockFault_grows (r : Room) (k : Link) {es : List Event} (h : es <+: r.out) :
    es <+: (r.clockFault k).out := by
  unfold Room.clockFault
  try dsimp only
  repeat' split
  all_goals simp (maxDischargeDepth := 30) -implicitDefEqProofs [h]

@[simp] theorem Room.lossNotice_grows (r : Room) (k : Link) {es : List Event} (h : es <+: r.out) :
    es <+: (r.lossNotice k).out := by
  unfold Room.lossNotice
  try dsimp only
  repeat' split
  all_goals simp (maxDischargeDepth := 30) -implicitDefEqProofs [h]

@[simp] theorem Room.joinExpiry_grows (r : Room) (k : Link) {es : List Event} (h : es <+: r.out) :
    es <+: (r.joinExpiry k).out := by
  unfold Room.joinExpiry
  try dsimp only
  repeat' split
  all_goals simp (maxDischargeDepth := 30) -implicitDefEqProofs [h]

@[simp] theorem Room.hold_grows (r : Room) (k : Link) {es : List Event} (h : es <+: r.out) :
    es <+: (r.hold k).out := by
  unfold Room.hold
  try dsimp only
  repeat' split
  all_goals simp (maxDischargeDepth := 30) -implicitDefEqProofs [h]

@[simp] theorem Room.resume_grows (r : Room) (k : Link) {es : List Event} (h : es <+: r.out) :
    es <+: (r.resume k).out := by
  unfold Room.resume
  try dsimp only
  repeat' split
  all_goals simp (maxDischargeDepth := 30) -implicitDefEqProofs [h]

@[simp] theorem Room.leave_grows (r : Room) (k : Link) {es : List Event} (h : es <+: r.out) :
    es <+: (r.leave k).out := by
  unfold Room.leave
  try dsimp only
  repeat' split
  all_goals simp (maxDischargeDepth := 30) -implicitDefEqProofs [h]

@[simp] theorem Room.linkDone_grows (r : Room) (k : Link) {es : List Event} (h : es <+: r.out) :
    es <+: (r.linkDone k).out := by
  unfold Room.linkDone
  try dsimp only
  repeat' split
  all_goals simp (maxDischargeDepth := 30) -implicitDefEqProofs [h]

@[simp] theorem Room.measure_grows (r : Room) (k : Link) (v : Option PortReading) {es : List Event} (h : es <+: r.out) :
    es <+: (r.measure k v).out := by
  unfold Room.measure
  try dsimp only
  repeat' split
  all_goals simp (maxDischargeDepth := 30) -implicitDefEqProofs [h]

@[simp] theorem Room.callWake_grows (r : Room) {es : List Event} (h : es <+: r.out) :
    es <+: (r.callWake).out := by
  unfold Room.callWake
  try dsimp only
  repeat' split
  all_goals simp (maxDischargeDepth := 30) -implicitDefEqProofs [h]

@[simp] theorem Room.rampNotice_grows (r : Room) (id : CompId) {es : List Event} (h : es <+: r.out) :
    es <+: (r.rampNotice id).out := by
  unfold Room.rampNotice
  try dsimp only
  repeat' split
  all_goals simp (maxDischargeDepth := 30) -implicitDefEqProofs [h]

@[simp] theorem Room.rampComplete_grows (r : Room) (id : CompId) {es : List Event} (h : es <+: r.out) :
    es <+: (r.rampComplete id).out := by
  unfold Room.rampComplete
  try dsimp only
  repeat' split
  all_goals simp (maxDischargeDepth := 30) -implicitDefEqProofs [h]

@[simp] theorem Room.setLineState_grows (r : Room) (l : LineNo) (st : LineState) {es : List Event} (h : es <+: r.out) :
    es <+: (r.setLineState l st).out := by
  unfold Room.setLineState
  try dsimp only
  repeat' split
  all_goals simp (maxDischargeDepth := 30) -implicitDefEqProofs [h]

@[simp] theorem Room.followCount_grows (r : Room) (l : LineNo) {es : List Event} (h : es <+: r.out) :
    es <+: (r.followCount l).out := by
  unfold Room.followCount
  try dsimp only
  repeat' split
  all_goals simp (maxDischargeDepth := 30) -implicitDefEqProofs [h]

@[simp] theorem Room.losePod_grows (r : Room) (p : PodPos) (w : LossCause) {es : List Event} (h : es <+: r.out) :
    es <+: (r.losePod p w).out := by
  unfold Room.losePod
  try dsimp only
  repeat' split
  all_goals simp (maxDischargeDepth := 30) -implicitDefEqProofs [h]

@[simp] theorem Room.loseAll_grows (r : Room) (l : LineNo) (ps : List Pos) (w : LossCause) {es : List Event} (h : es <+: r.out) :
    es <+: (r.loseAll l ps w).out := by
  unfold Room.loseAll
  refine foldl_grows _ _ (fun r x h => ?_) _ _ h
  split
  · simp (maxDischargeDepth := 30) -implicitDefEqProofs [h]
  · exact h

@[simp] theorem Room.findPod_grows (r : Room) (p : PodPos) (k : PodKind) (b : Bool) {es : List Event} (h : es <+: r.out) :
    es <+: (r.findPod p k b).out := by
  unfold Room.findPod
  try dsimp only
  repeat' split
  all_goals simp (maxDischargeDepth := 30) -implicitDefEqProofs [h]

@[simp] theorem Room.endScan_grows (r : Room) (l : LineNo) {es : List Event} (h : es <+: r.out) :
    es <+: (r.endScan l).out := by
  unfold Room.endScan
  try dsimp only
  repeat' split
  all_goals simp (maxDischargeDepth := 30) -implicitDefEqProofs [h]

@[simp] theorem Room.startScan_grows (r : Room) (l : LineNo) {es : List Event} (h : es <+: r.out) :
    es <+: (r.startScan l).out := by
  unfold Room.startScan
  try dsimp only
  repeat' split
  all_goals simp (maxDischargeDepth := 30) -implicitDefEqProofs [h]

@[simp] theorem Room.scanAnswer_grows (r : Room) (p : PodPos) (a : EnumAnswer) {es : List Event} (h : es <+: r.out) :
    es <+: (r.scanAnswer p a).out := by
  unfold Room.scanAnswer
  try dsimp only
  repeat' split
  all_goals simp (maxDischargeDepth := 30) -implicitDefEqProofs [h]

@[simp] theorem Room.takeAnswer_grows (r : Room) (l : LineNo) (a : Option EnumAnswer) {es : List Event} (h : es <+: r.out) :
    es <+: (r.takeAnswer l a).out := by
  unfold Room.takeAnswer
  try dsimp only
  repeat' split
  all_goals simp (maxDischargeDepth := 30) -implicitDefEqProofs [h]

@[simp] theorem Room.enumTimeout_grows (r : Room) (l : LineNo) {es : List Event} (h : es <+: r.out) :
    es <+: (r.enumTimeout l).out := by
  unfold Room.enumTimeout
  try dsimp only
  repeat' split
  all_goals simp (maxDischargeDepth := 30) -implicitDefEqProofs [h]

@[simp] theorem Room.checkSlot_grows (r : Room) (l : LineNo) (b : Bool) (p : Pos) {es : List Event} (h : es <+: r.out) :
    es <+: (r.checkSlot l b p).out := by
  unfold Room.checkSlot
  try dsimp only
  repeat' split
  all_goals simp (maxDischargeDepth := 30) -implicitDefEqProofs [h]

@[simp] theorem Room.loseBeyond_grows (r : Room) (l : LineNo) {es : List Event} (h : es <+: r.out) :
    es <+: (r.loseBeyond l).out := by
  unfold Room.loseBeyond
  try dsimp only
  repeat' split
  all_goals simp (maxDischargeDepth := 30) -implicitDefEqProofs [h]

@[simp] theorem Room.audio_grows (r : Room) (n : Seat) {es : List Event} (h : es <+: r.out) :
    es <+: (r.audio n).out := by
  unfold Room.audio
  try dsimp only
  repeat' split
  all_goals simp (maxDischargeDepth := 30) -implicitDefEqProofs [h]

@[simp] theorem Room.audioOf_grows (r : Room) (found : PodPos → Bool) (n : Seat) {es : List Event} (h : es <+: r.out) :
    es <+: (r.audioOf found n).out := by
  unfold Room.audioOf
  repeat' split
  all_goals simp (maxDischargeDepth := 30) -implicitDefEqProofs [h]

@[simp] theorem Room.deliver_grows (r : Room) (p : PodPos) (n : Seat) (b : Button) {es : List Event} (h : es <+: r.out) :
    es <+: (r.deliver p n b).out := by
  unfold Room.deliver Room.chairPress
  try dsimp only
  repeat' split
  all_goals simp (maxDischargeDepth := 30) -implicitDefEqProofs [h]

@[simp] theorem Room.press_grows (r : Room) (p : PodPos) (b : Button) {es : List Event} (h : es <+: r.out) :
    es <+: (r.press p b).out := by
  unfold Room.press
  try dsimp only
  repeat' split
  all_goals simp (maxDischargeDepth := 30) -implicitDefEqProofs [h]

@[simp] theorem Room.hearPrivacy_grows (r : Room) (p : PodPos) (b : Bool) {es : List Event} (h : es <+: r.out) :
    es <+: (r.hearPrivacy p b).out := by
  unfold Room.hearPrivacy
  try dsimp only
  repeat' split
  all_goals simp (maxDischargeDepth := 30) -implicitDefEqProofs [h]

@[simp] theorem Room.hearStatus_grows (r : Room) (p : PodPos) (x : StatusRecord) {es : List Event} (h : es <+: r.out) :
    es <+: (r.hearStatus p x).out := by
  unfold Room.hearStatus
  split
  · exact h
  · exact foldl_grows _ _ (fun r x h => Room.press_grows _ _ _ h) _ _ (Room.hearPrivacy_grows _ _ _ h)

@[simp] theorem Room.setLineSettings_grows (r : Room) (l : LineNo) (x : LineSettings) {es : List Event} (h : es <+: r.out) :
    es <+: (r.setLineSettings l x).out := by
  unfold Room.setLineSettings
  try dsimp only
  repeat' split
  all_goals simp (maxDischargeDepth := 30) -implicitDefEqProofs [h]

@[simp] theorem Room.startRehearsal_grows (r : Room) (l : LineNo) (x : Rehearsal) {es : List Event} (h : es <+: r.out) :
    es <+: (r.startRehearsal l x).out := by
  unfold Room.startRehearsal
  try dsimp only
  repeat' split
  all_goals simp (maxDischargeDepth := 30) -implicitDefEqProofs [h]

@[simp] theorem Room.saveDone_grows (r : Room) (b : Bool) {es : List Event} (h : es <+: r.out) :
    es <+: (r.saveDone b).out := by
  unfold Room.saveDone
  try dsimp only
  repeat' split
  all_goals simp (maxDischargeDepth := 30) -implicitDefEqProofs [h]

@[simp] theorem Room.eraseDone_grows (r : Room) (b : Bool) {es : List Event} (h : es <+: r.out) :
    es <+: (r.eraseDone b).out := by
  unfold Room.eraseDone
  try dsimp only
  repeat' split
  all_goals simp (maxDischargeDepth := 30) -implicitDefEqProofs [h]

@[simp] theorem Room.startDone_grows (r : Room) (b : Bool) {es : List Event} (h : es <+: r.out) :
    es <+: (r.startDone b).out := by
  unfold Room.startDone
  try dsimp only
  repeat' split
  all_goals simp (maxDischargeDepth := 30) -implicitDefEqProofs [h]

@[simp] theorem Room.recallSwitch_grows (r : Room) {es : List Event} (h : es <+: r.out) :
    es <+: (r.recallSwitch).out := by
  unfold Room.recallSwitch
  try dsimp only
  repeat' split
  all_goals simp (maxDischargeDepth := 30) -implicitDefEqProofs [h]

@[simp] theorem Room.groupNotices_grows (r : Room) (b : Bool) {es : List Event} (h : es <+: r.out) :
    es <+: (r.groupNotices b).out := by
  cases b <;> simp [Room.groupNotices, h]

@[simp] theorem Room.recallSeating_grows (r : Room) (c : Scene) {es : List Event} (h : es <+: r.out) :
    es <+: (r.recallSeating c).out := by
  simp -implicitDefEqProofs [Room.recallSeating, h]

@[simp] theorem Room.recallLines_grows (r : Room) (c : Scene) {es : List Event} (h : es <+: r.out) :
    es <+: (r.recallLines c).out := by
  unfold Room.recallLines
  try dsimp only
  repeat' split
  all_goals simp (maxDischargeDepth := 30) -implicitDefEqProofs [h]

@[simp] theorem Room.recallDetectors_grows (r : Room) (c : Scene) {es : List Event} (h : es <+: r.out) :
    es <+: (r.recallDetectors c).out := by
  unfold Room.recallDetectors
  try dsimp only
  repeat' split
  all_goals simp (maxDischargeDepth := 30) -implicitDefEqProofs [h]

@[simp] theorem Room.recallSound_grows (r : Room) (c : Scene) {es : List Event} (h : es <+: r.out) :
    es <+: (r.recallSound c).out := by
  unfold Room.recallSound
  try dsimp only
  repeat' split
  all_goals simp (maxDischargeDepth := 30) -implicitDefEqProofs [h]

@[simp] theorem Room.recallFloor_grows (r : Room) (c : Scene) {es : List Event} (h : es <+: r.out) :
    es <+: (r.recallFloor c).out := by
  unfold Room.recallFloor
  try dsimp only
  repeat' split
  all_goals simp (maxDischargeDepth := 30) -implicitDefEqProofs [h]

@[simp] theorem Room.recall_grows (r : Room) (c : Scene) {es : List Event} (h : es <+: r.out) :
    es <+: (r.recall c).out := by
  unfold Room.recall
  try dsimp only
  repeat' split
  all_goals simp (maxDischargeDepth := 30) -implicitDefEqProofs [h]

end Sys2Proof.Machine
end

