-- ==== Sys2Proof/Laws/Lines.lean ====
section
/-! SUPPORT. What the loss and the find of a pod do to the pod records and to the lines (R26, R30): the record itself, the
line state and the probe timer, and nothing else that stands. -/

namespace Sys2Proof.Machine

open Sys2Proof

/-- What a line keeps through the loss or the find of a pod. -/
structure LineCore where
  expected : Nat
  lostLimit : Nat
  scan : Option Enumeration
  probe : Option Enumeration
  rehearsal : Option Rehearsal
  termReported : Nat
  deriving DecidableEq

/-- The core of a line. -/
def Line.core (l : Line) : LineCore := ⟨l.expected, l.lostLimit, l.scan, l.probe, l.rehearsal, l.termReported⟩

theorem line_facts {r t : Room} (h : t.lines.map Line.facts = r.lines.map Line.facts) (l : LineNo) :
    (t.line l).facts = (r.line l).facts := by
  have := congrArg (fun x => Tab.get x l) h
  simpa [Room.line] using this

theorem core_of_facts {a b : Line} (h : a.facts = b.facts) : a.core = b.core := by
  simp only [Line.facts, LineFacts.mk.injEq] at h
  simp [Line.core, h]

theorem pods_of_facts {a b : Line} (h : a.facts = b.facts) (p : Pos) : (a.pods.get p).facts = (b.pods.get p).facts := by
  simp only [Line.facts, LineFacts.mk.injEq] at h
  have := congrArg (fun x => Tab.get x p) h.2.1
  simpa using this

theorem pod_facts {r t : Room} (h : t.lines.map Line.facts = r.lines.map Line.facts) (p : PodPos) :
    (t.podAt p).facts = (r.podAt p).facts := pods_of_facts (line_facts h p.line) p.pos

@[simp] theorem Room.setLine_line (r : Room) (l : LineNo) (f : Line → Line) : (r.setLine l f).line l = f (r.line l) := by
  simp [Room.line, Room.setLine]

theorem Room.setLine_line_ne (r : Room) {l k : LineNo} (f : Line → Line) (h : l ≠ k) :
    (r.setLine l f).line k = r.line k := by
  simp [Room.line, Room.setLine, h]

theorem Room.setPod_podAt (r : Room) (p q : PodPos) (f : Pod → Pod) :
    (r.setPod p f).podAt q = if p = q then f (r.podAt p) else r.podAt q := by
  obtain ⟨l, i⟩ := p
  obtain ⟨k, j⟩ := q
  simp only [Room.podAt, Room.setPod, Tab.get_modify]
  by_cases hl : l = k
  · subst hl
    simp only [if_true, Tab.get_modify, PodPos.mk.injEq, true_and]
  · simp [hl]

theorem Room.setPod_core (r : Room) (p : PodPos) (f : Pod → Pod) (k : LineNo) :
    ((r.setPod p f).line k).core = (r.line k).core ∧ ((r.setPod p f).line k).lstate = (r.line k).lstate := by
  simp only [Room.line, Room.setPod, Tab.get_modify]
  by_cases h : p.line = k
  · subst h
    simp [Line.core]
  · simp [h]

theorem Room.setPod_line_ne (r : Room) (p : PodPos) (f : Pod → Pod) {k : LineNo} (h : p.line ≠ k) :
    (r.setPod p f).line k = r.line k := by
  simp [Room.line, Room.setPod, h]

/-- The line state and the probe timer are all that `setLineState` and `checkProbe` change. -/
theorem Room.setLineState_line (r : Room) (l k : LineNo) (st : LineState) :
    ((r.setLineState l st).line k).core = (r.line k).core ∧ ((r.setLineState l st).line k).pods = (r.line k).pods
      ∧ (l ≠ k → (r.setLineState l st).line k = r.line k) := by
  unfold Room.setLineState
  split
  · simp
  · show ((r.setLine l _).line k).core = _ ∧ ((r.setLine l _).line k).pods = _ ∧ (_ → (r.setLine l _).line k = _)
    by_cases h : l = k
    · subst h
      simp [Line.core]
    · simp [Room.setLine_line_ne r _ h]

theorem Room.setLineState_lstate (r : Room) (l : LineNo) (st : LineState) :
    ((r.setLineState l st).line l).lstate = st := by
  unfold Room.setLineState
  split
  · assumption
  · show ((r.setLine l _).line l).lstate = _
    simp

theorem Room.followCount_line (r : Room) (l k : LineNo) :
    ((r.followCount l).line k).core = (r.line k).core ∧ ((r.followCount l).line k).pods = (r.line k).pods
      ∧ (l ≠ k → (r.followCount l).line k = r.line k) := by
  unfold Room.followCount
  split
  · simp
  · exact r.setLineState_line l k _

theorem Line.probeCheck_core (x : Line) :
    x.probeCheck.core = x.core ∧ x.probeCheck.pods = x.pods ∧ x.probeCheck.lstate = x.lstate := by
  unfold Line.probeCheck
  repeat' split
  all_goals exact ⟨rfl, rfl, rfl⟩

theorem Room.checkProbe_line (r : Room) (l k : LineNo) :
    ((r.checkProbe l).line k).core = (r.line k).core ∧ ((r.checkProbe l).line k).pods = (r.line k).pods
      ∧ ((r.checkProbe l).line k).lstate = (r.line k).lstate ∧ (l ≠ k → (r.checkProbe l).line k = r.line k) := by
  unfold Room.checkProbe
  by_cases h : l = k
  · subst h
    simp [Line.probeCheck_core]
  · simp [Room.setLine_line_ne r _ h]

theorem podAt_of_pods {r t : Room} {k : LineNo} (h : (t.line k).pods = (r.line k).pods) (p : Pos) :
    t.podAt ⟨k, p⟩ = r.podAt ⟨k, p⟩ := congrArg (fun x => Tab.get x p) h

/-- The events, notices and settling that follow the change of a pod record leave what stands of the lines as it is but
for the line state and the probe timer. -/
theorem Room.afterPod (r : Room) (l k : LineNo) :
    (((r.followCount l).checkProbe l).settle.line k).core = (r.line k).core
      ∧ (∀ p, ((((r.followCount l).checkProbe l).settle).podAt ⟨k, p⟩).facts = (r.podAt ⟨k, p⟩).facts)
      ∧ (l ≠ k → (((r.followCount l).checkProbe l).settle.line k).facts = (r.line k).facts) := by
  have hs : (((r.followCount l).checkProbe l).settle.line k).facts = ((((r.followCount l).checkProbe l)).line k).facts :=
    line_facts (by simp) k
  have hc := (r.followCount l).checkProbe_line l k
  have hf := r.followCount_line l k
  refine ⟨?_, fun p => ?_, fun hne => ?_⟩
  · rw [core_of_facts hs, hc.1, hf.1]
  · refine (pods_of_facts hs p).trans ?_
    rw [hc.2.1, hf.2.1]
    rfl
  · rw [hs, hc.2.2.2 hne, hf.2.2 hne]

theorem Pod.gone_facts (p : Pod) : p.gone.facts = ⟨false, p.kind, true, 0⟩ := rfl

/-- The loss of a pod (R26): its record is gone, no other record changes, and a line keeps its settings, its scan and its
rehearsal. -/
theorem Room.losePod_lines (r : Room) (p : PodPos) (w : LossCause) :
    (∀ k, ((r.losePod p w).line k).core = (r.line k).core)
      ∧ (∀ q, ((r.losePod p w).podAt q).facts = if p = q then (r.podAt p).gone.facts else (r.podAt q).facts)
      ∧ (∀ k, p.line ≠ k → ((r.losePod p w).line k).facts = (r.line k).facts) := by
  unfold Room.losePod
  dsimp only
  have key : ∀ t : Room, t.lines.map Line.facts = (r.setPod p Pod.gone).lines.map Line.facts →
      (∀ k, (((t.followCount p.line).checkProbe p.line).settle.line k).core = (r.line k).core)
      ∧ (∀ q, ((((t.followCount p.line).checkProbe p.line).settle).podAt q).facts
          = if p = q then (r.podAt p).gone.facts else (r.podAt q).facts)
      ∧ (∀ k, p.line ≠ k → (((t.followCount p.line).checkProbe p.line).settle.line k).facts = (r.line k).facts) := by
    intro t ht
    refine ⟨fun k => ?_, fun q => ?_, fun k hk => ?_⟩
    · rw [(t.afterPod p.line k).1, core_of_facts (line_facts ht k), (r.setPod_core p _ k).1]
    · rw [(t.afterPod p.line q.line).2.1 q.pos, pod_facts ht ⟨q.line, q.pos⟩, Room.setPod_podAt]
      split <;> rfl
    · rw [(t.afterPod p.line k).2.2 hk, line_facts ht k, Room.setPod_line_ne r p _ hk]
  split
  · exact key _ (by simp)
  · exact key _ rfl

/-- The find of a pod (R30): its record holds what the answer says, no other record changes, and a line keeps its
settings, its scan and its rehearsal. -/
theorem Room.findPod_lines (r : Room) (p : PodPos) (kind : PodKind) (privacy : Bool) :
    (∀ k, ((r.findPod p kind privacy).line k).core = (r.line k).core)
      ∧ (∀ q, ((r.findPod p kind privacy).podAt q).facts
          = if p = q then ⟨true, kind, privacy, 0⟩ else (r.podAt q).facts)
      ∧ (∀ k, p.line ≠ k → ((r.findPod p kind privacy).line k).facts = (r.line k).facts) := by
  unfold Room.findPod
  dsimp only
  have key : ∀ t : Room, t.lines.map Line.facts = (r.setPod p fun pod =>
        { pod with present := true, kind := kind, privacy := privacy, bad := 0 }).lines.map Line.facts →
      (∀ k, (((t.followCount p.line).checkProbe p.line).settle.line k).core = (r.line k).core)
      ∧ (∀ q, ((((t.followCount p.line).checkProbe p.line).settle).podAt q).facts
          = if p = q then ⟨true, kind, privacy, 0⟩ else (r.podAt q).facts)
      ∧ (∀ k, p.line ≠ k → (((t.followCount p.line).checkProbe p.line).settle.line k).facts = (r.line k).facts) := by
    intro t ht
    refine ⟨fun k => ?_, fun q => ?_, fun k hk => ?_⟩
    · rw [(t.afterPod p.line k).1, core_of_facts (line_facts ht k), (r.setPod_core p _ k).1]
    · rw [(t.afterPod p.line q.line).2.1 q.pos, pod_facts ht ⟨q.line, q.pos⟩, Room.setPod_podAt]
      split <;> rfl
    · rw [(t.afterPod p.line k).2.2 hk, line_facts ht k, Room.setPod_line_ne r p _ hk]
  split
  · exact key _ (by simp)
  · exact key _ (by simp)

/-- The loss of several pods (R25, R27, R39, R40). -/
theorem Room.loseAll_lines (r : Room) (l : LineNo) (ps : List Pos) (w : LossCause) :
    (∀ k, ((r.loseAll l ps w).line k).core = (r.line k).core)
      ∧ (∀ q, ((r.loseAll l ps w).podAt q).facts
          = if q.line = l ∧ q.pos ∈ ps ∧ (r.podAt q).present = true then (r.podAt q).gone.facts else (r.podAt q).facts)
      ∧ (∀ k, k ≠ l → ((r.loseAll l ps w).line k).facts = (r.line k).facts) := by
  unfold Room.loseAll
  induction ps generalizing r with
  | nil => simp
  | cons p ps ih =>
    rw [List.foldl_cons]
    have hp := r.losePod_lines ⟨l, p⟩ w
    split
    · rename_i hpres
      generalize r.losePod ⟨l, p⟩ w = t at hp ⊢
      obtain ⟨h1, h2, h3⟩ := ih t
      refine ⟨fun k => (h1 k).trans (hp.1 k), fun q => ?_, fun k hk => (h3 k hk).trans (hp.2.2 k (Ne.symm hk))⟩
      rw [h2 q]
      have hq := hp.2.1 q
      by_cases e : (⟨l, p⟩ : PodPos) = q
      · subst e
        rw [if_pos rfl] at hq
        have hnp : (t.podAt ⟨l, p⟩).present = false := congrArg PodFacts.present hq
        simp [hnp, hpres, hq]
      · rw [if_neg e] at hq
        have hpr : (t.podAt q).present = (r.podAt q).present := congrArg PodFacts.present hq
        have hk : (t.podAt q).kind = (r.podAt q).kind := congrArg PodFacts.kind hq
        have hm : q.line = l ∧ q.pos ∈ p :: ps ↔ q.line = l ∧ q.pos ∈ ps := by
          constructor
          · rintro ⟨a, b⟩
            refine ⟨a, (List.mem_cons.1 b).resolve_left fun c => e ?_⟩
            rw [← a, ← c]
          · rintro ⟨a, b⟩
            exact ⟨a, List.mem_cons_of_mem _ b⟩
        simp only [hpr, Pod.gone_facts, hk, hq, ← and_assoc, hm]
    · rename_i hpres
      obtain ⟨h1, h2, h3⟩ := ih r
      refine ⟨h1, fun q => ?_, h3⟩
      rw [h2 q]
      by_cases e : q.line = l ∧ q.pos = p
      · have : q = ⟨l, p⟩ := by rw [← e.1, ← e.2]
        subst this
        simp [hpres]
      · have hm : q.line = l ∧ q.pos ∈ p :: ps ↔ q.line = l ∧ q.pos ∈ ps := by
          constructor
          · rintro ⟨a, b⟩
            exact ⟨a, (List.mem_cons.1 b).resolve_left fun c => e ⟨a, c⟩⟩
          · rintro ⟨a, b⟩
            exact ⟨a, List.mem_cons_of_mem _ b⟩
        simp only [← and_assoc, hm]

/-- Each present pod among them is reported lost, with the seat the map names then, no switch being pending. -/
theorem Room.loseAll_events (r : Room) (l : LineNo) (ps : List Pos) (w : LossCause) (h : r.map.switch = none) (p : Pos)
    (hp : p ∈ ps) (hq : (r.podAt ⟨l, p⟩).present = true) :
    .podLost ⟨l, p⟩ w (seatAt r.map.running ⟨l, p⟩) ∈ (r.loseAll l ps w).out := by
  unfold Room.loseAll
  induction ps generalizing r with
  | nil => cases hp
  | cons a ps ih =>
    rw [List.foldl_cons]
    have calm : ∀ w, (r.losePod ⟨l, a⟩ w).map.running = r.map.running ∧ (r.losePod ⟨l, a⟩ w).map.switch = none := by
      intro w
      unfold Room.losePod
      dsimp only
      split
      · rw [Room.settle_calm _ (by simp [h])]
        simp [Room.setQuiet, h]
      · rw [Room.settle_calm _ (by simp [h])]
        simp [Room.setQuiet, h]
    by_cases e : a = p
    · subst e
      rw [if_pos hq]
      have h1 : .podLost ⟨l, a⟩ w (seatAt r.map.running ⟨l, a⟩) ∈ (r.losePod ⟨l, a⟩ w).out := by
        have : (r.out ++ [.podLost ⟨l, a⟩ w (seatAt r.map.running ⟨l, a⟩)]) <+: (r.losePod ⟨l, a⟩ w).out := by
          unfold Room.losePod
          dsimp only
          have h0 : (r.out ++ [.podLost ⟨l, a⟩ w (seatAt r.map.running ⟨l, a⟩)])
              <+: ((r.setPod ⟨l, a⟩ Pod.gone).emit (.podLost ⟨l, a⟩ w (seatAt r.map.running ⟨l, a⟩))).out :=
            List.prefix_rfl
          generalize (r.setPod ⟨l, a⟩ Pod.gone).emit _ = t at h0
          split <;> simp (maxDischargeDepth := 30) -implicitDefEqProofs [h0]
        exact this.subset (by simp)
      generalize r.losePod ⟨l, a⟩ w = t at h1 ⊢
      have h2 : t.out <+: (Room.loseAll t l ps w).out := Room.loseAll_grows _ _ _ _ List.prefix_rfl
      exact h2.subset h1
    · have hp' : p ∈ ps := (List.mem_cons.1 hp).resolve_left (Ne.symm e)
      split
      · have hk : ((r.losePod ⟨l, a⟩ w).podAt ⟨l, p⟩).present = true := by
          have := (r.losePod_lines ⟨l, a⟩ w).2.1 ⟨l, p⟩
          rw [if_neg (by simp [e])] at this
          exact (congrArg PodFacts.present this).trans hq
        have := ih (r.losePod ⟨l, a⟩ w) (calm w).2 hp' hk
        rw [(calm w).1] at this
        exact this
      · exact ih r h hp' hq

/-- The slot check of one position (R24). -/
theorem Room.checkSlot_lines (r : Room) (l : LineNo) (good : Bool) (p : Pos) :
    (∀ k, ((r.checkSlot l good p).line k).core = (r.line k).core)
    ∧ (∀ q, ((r.checkSlot l good p).podAt q).facts =
        if (⟨l,p⟩ : PodPos) = q ∧ (r.podAt q).present = true then
          (if good then ⟨true, (r.podAt q).kind, (r.podAt q).privacy, 0⟩
           else if (r.podAt q).bad + 1 < (r.line l).lostLimit then ⟨true, (r.podAt q).kind, (r.podAt q).privacy, (r.podAt q).bad + 1⟩
           else ⟨false, (r.podAt q).kind, true, 0⟩)
        else (r.podAt q).facts)
    ∧ (∀ k, l ≠ k → ((r.checkSlot l good p).line k).facts = (r.line k).facts) := by
  unfold Room.checkSlot
  by_cases hp : (r.podAt ⟨l, p⟩).present
  · simp only [hp, Bool.not_true, Bool.false_eq_true, if_false]
    cases good
    · simp only [Bool.false_eq_true, if_false]
      have hb : ((r.setPod ⟨l, p⟩ fun pod => { pod with bad := pod.bad + 1 }).podAt ⟨l, p⟩) = { r.podAt ⟨l,p⟩ with bad := (r.podAt ⟨l,p⟩).bad + 1 } := by
        rw [Room.setPod_podAt, if_pos rfl]
      have hl : ((r.setPod ⟨l, p⟩ fun pod => { pod with bad := pod.bad + 1 }).line l).lostLimit = (r.line l).lostLimit :=
        congrArg LineCore.lostLimit (r.setPod_core ⟨l,p⟩ _ l).1
      rw [hb, hl]
      simp only
      split
      · rename_i hge
        generalize hg : (r.setPod ⟨l, p⟩ fun pod => { pod with bad := pod.bad + 1 }) = t
        have hlose := t.losePod_lines ⟨l,p⟩ .slot
        refine ⟨fun k => ?_, fun q => ?_, fun k hk => ?_⟩
        · rw [hlose.1, ← hg]; exact (r.setPod_core _ _ k).1
        · rw [hlose.2.1, ← hg]
          by_cases e : (⟨l,p⟩ : PodPos) = q
          · subst e; simp [hp, Nat.not_lt.2 hge, Room.setPod_podAt, Pod.gone_facts]
          · simp [e, Room.setPod_podAt]
        · rw [hlose.2.2 k hk, ← hg]; rw [Room.setPod_line_ne]; exact hk
      · rename_i hge
        refine ⟨fun k => (r.setPod_core _ _ k).1, fun q => ?_, fun k hk => ?_⟩
        · rw [Room.setPod_podAt]
          by_cases e : (⟨l,p⟩ : PodPos) = q
          · subst e; simp [hp, Nat.not_le.1 hge, Pod.facts]
          · simp [e]
        · rw [Room.setPod_line_ne]; exact hk
    · simp only [if_true]
      refine ⟨fun k => (r.setPod_core _ _ k).1, fun q => ?_, fun k hk => ?_⟩
      · rw [Room.setPod_podAt]
        by_cases e : (⟨l,p⟩ : PodPos) = q
        · subst e; simp [hp, Pod.facts]
        · simp [e]
      · rw [Room.setPod_line_ne]; exact hk
  · simp only [hp, Bool.not_false, if_true]
    refine ⟨fun _ => trivial, fun q => ?_, fun _ _ => trivial⟩
    by_cases e : (⟨l,p⟩ : PodPos) = q
    · subst e; simp [hp]
    · simp [e]

/-- What the slot checks make of a present record (R24). -/
def checkedPod (good : Bool) (limit : Nat) (x : PodFacts) : PodFacts :=
  if good then ⟨true, x.kind, x.privacy, 0⟩
  else if x.bad + 1 < limit then ⟨true, x.kind, x.privacy, x.bad + 1⟩
  else ⟨false, x.kind, true, 0⟩

/-- The slot checks of a list of different positions (R24). -/
theorem Room.checkSlots_lines (r : Room) (l : LineNo) (good : Pos → Bool) (ps : List Pos) (hn : ps.Nodup) :
    let t := ps.foldl (fun r p => r.checkSlot l (good p) p) r
    (∀ k, (t.line k).core = (r.line k).core)
    ∧ (∀ q, (t.podAt q).facts =
        if q.line = l ∧ q.pos ∈ ps ∧ (r.podAt q).present = true then
          checkedPod (good q.pos) (r.line l).lostLimit (r.podAt q).facts
        else (r.podAt q).facts)
    ∧ (∀ k, l ≠ k → (t.line k).facts = (r.line k).facts) := by
  induction ps generalizing r with
  | nil => simp
  | cons p ps ih =>
    have hp := r.checkSlot_lines l (good p) p
    have hnp := List.nodup_cons.1 hn
    simp only [List.foldl_cons]
    generalize r.checkSlot l (good p) p = u at hp ⊢
    obtain ⟨h1, h2, h3⟩ := ih u hnp.2
    refine ⟨fun k => (h1 k).trans (hp.1 k), fun q => ?_, fun k hk => (h3 k hk).trans (hp.2.2 k hk)⟩
    have hq := hp.2.1 q
    have hlim : (u.line l).lostLimit = (r.line l).lostLimit := congrArg LineCore.lostLimit (hp.1 l)
    rw [h2 q]
    by_cases e : (⟨l, p⟩ : PodPos) = q
    · subst e
      simp only [hnp.1, and_false, false_and, if_false, List.mem_cons, true_or, true_and] at hq ⊢
      rw [hq]
      rfl
    · rw [if_neg (fun h => e h.1)] at hq
      have hpr : (u.podAt q).present = (r.podAt q).present := congrArg PodFacts.present hq
      have hm : q.line = l ∧ q.pos ∈ p :: ps ↔ q.line = l ∧ q.pos ∈ ps := by
        constructor
        · rintro ⟨a, b⟩
          refine ⟨a, (List.mem_cons.1 b).resolve_left fun c => e ?_⟩
          rw [← a, ← c]
        · rintro ⟨a, b⟩
          exact ⟨a, List.mem_cons_of_mem _ b⟩
      simp only [hpr, hq, hlim, ← and_assoc, hm]

end Sys2Proof.Machine
end

