-- ==== Sys2Proof/Laws/Swap.lean ====
section
/-! SUPPORT. The swap of the two maps (R16) and the runs of seats that requests name (R5). -/

namespace Sys2Proof.Machine

open Sys2Proof

theorem keptSeat_iff (running : Tab 40 Entry) (lock : LockMode) (n : Seat) :
    keptSeat running lock n = true ↔ decide (lock = .keep) = true ∧ (running.get n).locked = true := by
  simp [keptSeat]

theorem namedByKept_iff (running side : Tab 40 Entry) (lock : LockMode) (p : Option PodPos) :
    namedByKept running side lock p = true
      ↔ p.isSome = true ∧ ∃ m, (decide (lock = .keep) = true ∧ (running.get m).locked = true)
          ∧ (side.get m).place = p := by
  simp only [namedByKept, Bool.and_eq_true, List.any_eq_true, keptSeat_iff, decide_eq_true_eq]
  constructor
  · rintro ⟨h, m, _, hm⟩
    exact ⟨h, m, hm⟩
  · rintro ⟨h, m, hm⟩
    exact ⟨h, m, List.mem_finRange m, hm⟩

/-- The exchange obeys R16. -/
theorem SeatMapUnit.swapped_rule (m : SeatMapUnit) (lock : LockMode) :
    SwapRule (lock = .keep) m.running m.staged (m.swapped lock).running (m.swapped lock).staged := by
  intro n
  simp only [SeatMapUnit.swapped, Tab.get_ofFn, swappedRunning, swappedStaged]
  constructor
  · intro h
    have hk := (keptSeat_iff m.running lock n).2 h
    simp [hk]
  · intro h
    have hk : keptSeat m.running lock n = false := by
      rw [← Bool.not_eq_true, keptSeat_iff]
      exact h
    simp only [hk, Bool.false_eq_true, if_false, Entry.unseated]
    refine ⟨fun h => ?_, fun h => ?_, fun h => ?_, fun h => ?_⟩
    · rw [if_pos ((namedByKept_iff _ _ _ _).2 h)]
    · rw [if_neg (fun g => h ((namedByKept_iff _ _ _ _).1 g))]
    · rw [if_pos ((namedByKept_iff _ _ _ _).2 h)]
    · rw [if_neg (fun g => h ((namedByKept_iff _ _ _ _).1 g))]

/-! ## Runs of seats -/

/-- The seats of a run, first by first. -/
theorem run_eq (f c : Nat) (h1 : 1 ≤ f) (h3 : f + c ≤ 41) :
    (allSeats.filter fun n => f ≤ numberOf n && numberOf n < f + c)
      = (List.finRange c).map fun i => ⟨f - 1 + i.val, by omega⟩ := by
  have key : ∀ N : Nat, f + c ≤ N + 1 → ((List.range N).filter fun n => decide (f ≤ n + 1) && decide (n + 1 < f + c))
      = (List.range c).map fun i => f - 1 + i := by
    intro N hN
    obtain ⟨k, rfl⟩ : ∃ k, N = f - 1 + (c + k) := ⟨N - (f - 1) - c, by omega⟩
    rw [List.range_add, List.filter_append, List.range_add, List.map_append, List.filter_append]
    have e1 : ((List.range (f - 1)).filter fun n => decide (f ≤ n + 1) && decide (n + 1 < f + c)) = [] := by
      rw [List.filter_eq_nil_iff]
      intro a ha
      have := List.mem_range.1 ha
      simp
      omega
    have e2 : (((List.range c).map fun x => f - 1 + x).filter fun n => decide (f ≤ n + 1) && decide (n + 1 < f + c))
        = (List.range c).map fun x => f - 1 + x := by
      rw [List.filter_eq_self]
      intro a ha
      obtain ⟨x, hx, rfl⟩ := List.mem_map.1 ha
      have := List.mem_range.1 hx
      simp
      omega
    rw [e1, e2, List.nil_append]
    refine (congrArg _ ?_).trans (List.append_nil _)
    rw [List.filter_eq_nil_iff]
    intro a ha
    obtain ⟨x, hx, rfl⟩ := List.mem_map.1 ha
    obtain ⟨y, hy, rfl⟩ := List.mem_map.1 hx
    simp
    omega
  have hmap : ∀ l l' : List Seat, l.map Fin.val = l'.map Fin.val → l = l' :=
    fun l l' h => (List.map_injective_iff.2 Fin.val_injective) h
  apply hmap
  have h40 := key 40 (by omega)
  rw [List.map_map]
  have lhs : (allSeats.filter fun n => f ≤ numberOf n && numberOf n < f + c).map Fin.val
      = (List.range 40).filter fun n => decide (f ≤ n + 1) && decide (n + 1 < f + c) := by
    have hr : List.range 40 = allSeats.map Fin.val := by
      simp [allSeats]
    rw [hr, List.filter_map]
    rfl
  rw [lhs, h40]
  have hc : List.range c = (List.finRange c).map Fin.val := by simp
  rw [hc, List.map_map]
  rfl

/-- A loaded map: the run's entries replaced, the rest as before (R5). -/
theorem loaded_get (f c : Nat) (h1 : 1 ≤ f) (h3 : f + c ≤ 41) (map : Tab 40 Entry) (es : List Entry)
    (hl : es.length = c) (n : Seat) :
    (loaded map ((allSeats.filter fun n => f ≤ numberOf n && numberOf n < f + c).zip es)).get n
      = if f ≤ n.val + 1 then (es[n.val + 1 - f]?).getD (map.get n) else map.get n := by
  subst hl
  rw [run_eq f _ h1 h3]
  suffices h : ∀ (k : Nat) (hk : k ≤ es.length),
      (loaded map ((((List.finRange es.length).map fun i => (⟨f - 1 + i.val, by omega⟩ : Seat)).zip es).take k)).get n
        = if f ≤ n.val + 1 ∧ n.val + 1 - f < k then (es[n.val + 1 - f]?).getD (map.get n) else map.get n by
    have := h es.length (le_refl _)
    rw [List.take_of_length_le (by simp)] at this
    rw [this]
    by_cases hf : f ≤ n.val + 1
    · by_cases hc : n.val + 1 - f < es.length
      · simp [hf, hc]
      · simp [hf, hc]
    · simp [hf]
  intro k
  induction k with
  | zero => intro _; simp [loaded]
  | succ k ih =>
    intro hk
    have hlt : k < (((List.finRange es.length).map fun i => (⟨f - 1 + i.val, by omega⟩ : Seat)).zip es).length := by
      simp
      omega
    rw [List.take_succ_eq_append_getElem hlt]
    unfold loaded
    rw [List.foldl_append]
    change ((loaded map _).set _ _).get n = _
    rw [Tab.get_set, ih (by omega)]
    simp only [List.getElem_zip, List.getElem_map, List.getElem_finRange]
    by_cases hn : n.val = f - 1 + k
    · have e : (⟨f - 1 + k, by omega⟩ : Seat) = n := Fin.ext hn.symm
      have h2 : n.val + 1 - f = k := by omega
      have h4 : f ≤ n.val + 1 := by omega
      simp [e, h2, h4, List.getElem?_eq_getElem (show k < es.length by omega)]
    · have e : (⟨f - 1 + k, by omega⟩ : Seat) ≠ n := fun h => hn (congrArg Fin.val h).symm
      simp only [Fin.cast_mk, e, if_false]
      by_cases h4 : f ≤ n.val + 1
      · have : n.val + 1 - f < k + 1 ↔ n.val + 1 - f < k := by omega
        simp [h4, this]
      · simp [h4]

end Sys2Proof.Machine
end

