-- ==== Sys2Proof/Laws/Taken.lean ====
section
/-! SUPPORT. What a command leaves: a request taken at once is answered by its owner and leaves `State.replied`; any other
command of the blocks leaves `State.moved`. -/

namespace Sys2Proof.Machine

open Sys2Proof

/-- The code of a request kind names that kind (section 10.2). -/
theorem ReqKind.ofByte_byte (k : ReqKind) : ReqKind.ofByte k.byte = some k := by
  cases k <;> rfl

/-- The code of a request kind is below 0x80. -/
theorem ReqKind.byte_low (k : ReqKind) : ¬ 0x80 ≤ k.byte.toNat := by
  cases k <;> decide

/-- A room with its events handed to the port. -/
def Room.sent (r : Room) : Room := { r with out := [] }

theorem Room.sent_settled (r : Room) (h : r.Settled) : r.sent = r := by
  obtain ⟨h, _, _⟩ := h
  cases r
  simp_all [Room.sent]

/-- Once its events are handed over, a settled room has nothing under way. -/
theorem Room.settle_sent (r : Room) : r.settle.sent.Settled := ⟨rfl, r.settle_done.1, r.settle_done.2⟩

/-- The answer to a frame of a listed kind is its owner's (R195). -/
theorem State.answer_kind (s : State) (k : ReqKind) (tag : Byte) (body : List Byte) :
    s.answer ⟨k.byte, tag, body⟩ = k.take body s := by
  simp [State.answer, k.byte_low, k.ofByte_byte]

/-- A frame that arrives when it can be taken at once is answered, and its events queued (R195). -/
theorem State.hostRequest_free (s : State) (h : s.Free) (f : Frame) :
    s.hostRequest f
      = (((s.withPort fun p => { p with rxq := [f] }).takeFrame f).withPort Port.startTx) := by
  obtain ⟨h1, h2, h3, h4, h5, h6, _⟩ := h
  simp only [State.hostRequest, h1, h2, Bool.or_self, Bool.false_eq_true, if_false, State.acceptFrame]
  congr 1
  have ha : (s.withPort fun p => p.accept f) = s.withPort fun p => { p with rxq := [f] } := by
    simp [State.withPort, Port.accept, h3]
  rw [ha]
  have hs : (s.withPort fun p => { p with rxq := [f] }).port.sendingReply = false := h6
  unfold State.takeNext
  rw [hs]
  simp [h4, h5]

/-- A request of a block, taken at once: its owner's effect, settled, and its reply (R195, R197). -/
theorem State.request_owner (s : State) (h : s.Free) (k : ReqKind) (tag : Byte) (body : List Byte)
    (g : List Byte → Room → Room × Answer) (hk : ∀ s, k.take body s = ownerTakes g body s) :
    s.request k tag body
      = s.replied ⟨k.byte, tag, body⟩ (g body s.room).2 (g body s.room).1.settle.out
          (g body s.room).1.settle.sent := by
  rw [State.request, State.hostRequest_free s h]
  simp only [State.takeFrame, State.answer_kind, hk, ownerTakes]
  rfl

/-- A request whose owner's answer is known (R195). -/
theorem State.request_replied (s : State) (h : s.Free) (k : ReqKind) (tag : Byte) (body : List Byte)
    (g : List Byte → Room → Room × Answer) (hk : ∀ s, k.take body s = ownerTakes g body s) {r : Room} {a : Answer}
    (hg : g body s.room = (r, a)) :
    s.request k tag body = s.replied ⟨k.byte, tag, body⟩ a r.settle.out r.settle.sent := by
  rw [State.request_owner s h k tag body g hk, hg]

/-- A request that its owner answers without a change. -/
theorem State.request_told (s : State) (h : s.Free) (k : ReqKind) (tag : Byte) (body : List Byte)
    (g : List Byte → Room → Room × Answer) (hk : ∀ s, k.take body s = ownerTakes g body s) {st : Status}
    {data : List Byte} (hg : g body s.room = (s.room, ⟨st, data⟩)) :
    s.request k tag body = s.told ⟨k.byte, tag, body⟩ st data := by
  have hs : s.room.Settled := h.2.2.2.2.2.2
  rw [State.request_replied s h k tag body g hk hg, Room.settle_settled _ hs, Room.sent_settled _ hs, hs.1]
  rfl

/-- A command of the blocks that is no request (R198; log 42). -/
theorem State.act_awake (s : State) (h : s.held = false) (f : Room → Room) :
    s.act f = s.moved (f s.room).settle.out (f s.room).settle.sent := by
  unfold State.act State.moved
  simp only [h, Bool.false_eq_true, if_false]
  cases s
  subst h
  rfl

/-! ## The control line (R187) -/

/-- A character read back after its start bit is its byte. -/
@[simp] theorem charRead_charBits : ∀ b : Byte, charRead (charBits b).tail = some b := by decide

/-- A whole character arriving is its byte received. -/
@[simp] theorem State.receiveChar_charBits (s : State) (b : Byte) : s.receiveChar (charBits b) = s.receive [b] := by
  have h := charRead_charBits b
  unfold State.receiveChar charBits at *
  simp only [List.cons_append, List.tail_cons] at *
  rw [h]

end Sys2Proof.Machine
end

