-- ==== Sys2Proof/Tests/Slice0.lean ====
section
/-! SUPPORT. The model's own tests: the checks of WellFormed with an ill-formed term for each, small tests of single
commands on the state after reset, and, for every statement with hypotheses, concrete states and operands that meet
them. -/

namespace Sys2Proof.Tests

set_option Elab.async false

open Sys2Proof Sys2Proof.Machine

/-! ## WellFormed refuses an ill-formed term of each check -/

theorem test_wf_mapLoad : (Instr.mapLoad 1 1 40 (List.replicate 84 ⟨0, 0, 0⟩)).wf = false := by decide +kernel
theorem test_wf_groupSet : (Instr.groupSet 1 1 (List.replicate 253 1)).wf = false := by decide +kernel
theorem test_wf_sceneSave : (Instr.sceneSave 1 1 (List.replicate 253 0x41)).wf = false := by decide +kernel
theorem test_wf_unknown_long : (Instr.unknown 1 0x04 (List.replicate 254 0)).wf = false := by decide +kernel
theorem test_wf_unknown_kind : (Instr.unknown 1 0x55 []).wf = false := by decide +kernel
theorem test_wf_upstream_term :
    (Instr.upstreamFrame 0 ⟨Tab.fill 20 ⟨true, ⟨.member, true, false, false, false, false, false⟩, silence⟩, ⟨21, true⟩,
      none, Tab.fill 2 silence⟩).wf = false := by decide +kernel
theorem test_wf_upstream_status :
    (Instr.upstreamFrame 0 ⟨Tab.fill 20 ⟨true, ⟨.member, true, false, false, true, false, false⟩, silence⟩, ⟨20, true⟩,
      none, Tab.fill 2 silence⟩).wf = false := by decide +kernel
theorem test_wf_clock : (Instr.clockMeasurement 0 (some ⟨0, []⟩)).wf = false := by decide +kernel
theorem test_wf_accepts :
    (Instr.mapLoad 1 1 40 (List.replicate 83 ⟨0, 0, 0⟩)).wf = true ∧ (Instr.unknown 1 0x04 []).wf = true := by decide +kernel

/-! ## States for tests -/

/-- The state after reset with its Control Port changed. -/
def onPort (f : Port → Port) : State := { State.reset with port := f State.reset.port }

/-- The state after reset with its blocks changed. -/
def onRoom (f : Room → Room) : State := { State.reset with room := f State.reset.room }

/-- The state a command answers. -/
def after (c : Instr) (s : State) : State :=
  match exec c s with
  | .next t => t
  | _ => s

/-- The state after reset with one block changed. -/
def onMap (f : SeatMapUnit → SeatMapUnit) : State := onRoom fun r => { r with map := f r.map }
def onLine (l : LineNo) (f : Line → Line) : State := onRoom fun r => { r with lines := r.lines.modify l f }
def onDet (n : Seat) (f : Detector → Detector) : State := onRoom fun r => { r with det := r.det.modify n f }
def onMute (f : Mute → Mute) : State := onRoom fun r => { r with mute := f r.mute }
def onFloor (f : Floor → Floor) : State := onRoom fun r => { r with floor := f r.floor }
def onMix (f : Mix → Mix) : State := onRoom fun r => { r with mix := f r.mix }
def atLink (k : Link) (call : CallSt) (f : LinkRec → LinkRec) : State :=
  onRoom fun r => { r with link := { r.link with call := call, links := r.link.links.modify k f } }
def onFb (n : Seat) (f : FbSeat → FbSeat) : State :=
  onRoom fun r => { r with fb := { r.fb with seats := r.fb.seats.modify n f } }
def onStore (f : Store → Store) : State := onRoom fun r => { r with store := f r.store }

/-- The events a command leaves, the one being sent first. -/
def seen (s : State) : List Event :=
  match s.port.tx with
  | some (.event e _) => e :: s.port.events
  | _ => s.port.events

/-- The status byte of the reply being sent. -/
def statusOf (s : State) : Option Byte :=
  match s.port.tx with
  | some (.reply f) => f.body.head?
  | _ => none

/-- A member pod's frame with nothing pressed. -/
def stillRecord : StatusRecord := ⟨.member, false, false, false, false, false, false⟩

/-- An upstream frame of member pods with nothing pressed. -/
def stillFrame (term : Nat) (answer : Option EnumAnswer) : UpFrame :=
  ⟨Tab.fill 20 ⟨true, stillRecord, silence⟩, ⟨term, true⟩, answer, Tab.fill 2 silence⟩

/-- A claim of the room on every microphone. -/
def roomClaim (i : Fin 48) (ms : Option Nat) : Claim := ⟨i, .room, .everyone, .mic, ms, 0⟩

/-! ## Single commands -/

theorem test_ident_reply :
    (after (.ident 7) State.reset).port.tx
      = some (.reply ⟨0x81, 7, [0, 0x0A, 0x17, 0x53, 0x40, 0x01, 40, 2, 4, 13, 0]⟩) := by
  decide +kernel
theorem test_eventMask_sets : (after (.eventMask 1 (some 0x05)) State.reset).port.mask = 0x05 := by decide +kernel
theorem test_deviceReset_waits : (after (.deviceReset 1) State.reset).port.resetDue = true := by decide +kernel
theorem test_unknown_replies : statusOf (after (.unknown 1 0x04 []) State.reset) = some 1 := by decide +kernel
/-- The check value of the cyclic check over the characters 1 to 9: polynomial 0x8005, initial 0xFFFF, nothing reflected
or inverted. -/
theorem test_crc_check : crc [0x31, 0x32, 0x33, 0x34, 0x35, 0x36, 0x37, 0x38, 0x39] = 0xAEE7 := by decide +kernel
theorem test_request_by_frame :
    (after (.receiveFrame (Frame.bytes ⟨0x01, 9, []⟩)) State.reset).port.tx
      = (after (.ident 9) State.reset).port.tx := by
  decide +kernel
theorem test_badFrame_event :
    (after (.receiveFrame [0xC5, 0x01]) State.reset).port.events.getLast? = some (.frameBad .length) := by
  decide +kernel
theorem test_gap_abandons : (after .gap (onPort fun p => { p with rx := [0xC5] })).port.rx = [] := by decide +kernel
theorem test_framing_event :
    (after .framing (onPort fun p => { p with rx := [0xC5] })).port.events.getLast? = some (.frameBad .framing) := by
  decide +kernel
theorem test_transmitDone_takes_next :
    (after .transmitFrameDone (after (.ident 1) State.reset)).port.tx
      = some (.event (.resetDone .power 0 false) false) := by
  decide +kernel
theorem test_break_empties : (after .breakLine State.reset).port.events = [] := by decide +kernel
theorem test_portReady_first :
    (after .portReady (after .breakLine State.reset)).port.tx = some (.event (.portReady .baud115200) false) := by
  decide +kernel
theorem test_resetInput_holds : (after .resetInputAsserted State.reset).held = true := by decide +kernel
theorem test_fullReset_rate :
    (after (.fullReset .pin true false) State.reset).port.rate = .baud460800 := by
  decide +kernel
theorem test_mapLoad_conflict :
    (reqMapLoad [1, 1, 1, 2, 0] State.reset.room).2.status = .conflict := by
  decide +kernel
theorem test_mapLoad_length : (reqMapLoad [1, 2, 1, 2, 0] State.reset.room).2.status = .length := by decide +kernel
theorem test_mapDump_entry :
    (reqMapDump [0, 21, 1] State.reset.room).2 = okWith [0, 21, 1, 2, 1, 0] := by
  decide +kernel
theorem test_mapSwitchQuiet_pends :
    (after (.mapSwitchQuiet 1 0 60) (onMap fun m => { m with quiet := false })).room.map.switch
      = some ⟨.keep, some 60000⟩ := by
  decide +kernel
theorem test_mapSwitchCancel_refused :
    statusOf (after (.mapSwitchCancel 1 0 255) State.reset) = some 4 := by
  decide +kernel
theorem test_groupRead_empty : (reqGroupRead [8] State.reset.room).2 = okWith [0] := by decide +kernel
theorem test_lineSet_settings :
    ((after (.lineSet 1 2 5 32) State.reset).room.line 1).expected = 5 := by
  decide +kernel
theorem test_lineScan_busy : statusOf (after (.lineScan 1 1) State.reset) = some 8 := by decide +kernel
theorem test_enumerationTimeout_ends_scan :
    seen (after (.enumerationTimeout 1) (onPort fun p => { p with events := [] }))
      = [.lineState 1 .down, .scanDone 1 0] := by
  decide +kernel
theorem test_detector_onset :
    (Detector.decide { State.reset.room.det.get 0 with dstate := .rising, acc := 39 } true).2 = some true := by
  decide +kernel
theorem test_mutePlace_claim :
    (after (.mutePlace 1 3 0 4 0 1 0) State.reset).room.mute.table = [roomClaim 0 none] := by
  decide +kernel
theorem test_mutePlace_far_idle :
    statusOf (after (.mutePlace 1 5 1 1 7 1 0) State.reset) = some 4 := by
  decide +kernel
theorem test_muteLift_absent :
    statusOf (after (.muteLift 1 3 0 0 (.byNumber 47)) State.reset) = some 7 := by
  decide +kernel
theorem test_floorGrant_state : statusOf (after (.floorGrant 1 1 0) State.reset) = some 4 := by decide +kernel
theorem test_floorSet_range :
    statusOf (after (.floorSet 1 1 7 500 1 0 1 0 10 300) State.reset) = some 3 := by
  decide +kernel
theorem test_mixSet_range :
    (reqMixSet [0, 46, 25, 0, 0] State.reset.room).2.status = .range
      ∧ (reqMixSet [0, 47, 0, 0, 0] State.reset.room).2.status = .range := by
  decide +kernel
theorem test_toneSet_range :
    statusOf (after (.toneSet 1 0 195) State.reset) = some 3 := by
  decide +kernel
theorem test_rampComplete_holds :
    ((after (.rampComplete .classFar) State.reset).room.mix.comp .classFar) = ⟨.db 0, none⟩ := by
  decide +kernel
theorem test_linkJoin_waits :
    (after (.linkJoin 1 4) State.reset).room.linkRec 3
      = { LinkRec.afterReset with st := .joining, phase := some .wait, joinTimer := some 2000 } := by
  decide +kernel
theorem test_linkHold_state : statusOf (after (.linkHold 1 1) State.reset) = some 4 := by decide +kernel
theorem test_clock_locks :
    ((after (.clockMeasurement 0 (some ⟨47760, []⟩)) (atLink 0 .idle fun x => { x with qual := 49 })).room.linkRec 0).locked
      = true := by
  decide +kernel
theorem test_callSet_never : (after (.callSet 1 0) State.reset).room.link.timer = none := by decide +kernel
theorem test_standby_dark : ((after .standbyTimerExpiry State.reset).room.line 1).dark = true := by decide +kernel
theorem test_feedbackSet_range :
    statusOf (after (.feedbackSet 1 0 50 12 3 5) State.reset) = some 3 := by
  decide +kernel
theorem test_linkMute_record :
    ((Event.linkMute 3 .send true .room).frame false).body = [2, 0, 3, 0, 4, 2, 1, 3]
      ∧ ((Event.linkMute 0 .ret false .free).frame true).body = [2, 1, 3, 0, 1, 3, 0, 0] := by decide
theorem test_feedbackRead_flag :
    let x := State.reset.room.fbSeat 0
    FbSeat.bytes { x with flag := true } = [0, 1, 1, 0, 0, 0, 0, 0, 0, 0, 0, 0, 0]
      ∧ x.bytes = [0, 1, 1, 0, 0, 0, 0, 0, 0, 1, 0, 0, 0] := by decide +kernel
theorem test_windowEnd_hot :
    hotWindow (-120) 100 (-96) 12 = true ∧ hotWindow (-120) 12000 (-97) 12 = false ∧ hotWindow (-121) 1000 0 12 = false
      ∧ hotWindow 0 99 40 12 = false ∧ hotWindow 0 12001 40 12 = false := by
  decide +kernel
theorem test_sceneSave_marks_bad :
    ((after (.sceneSave 1 12 [0x41]) State.reset).room.store.slots.get 11).state = .bad := by
  decide +kernel
theorem test_sceneErase_guarded : statusOf (after (.sceneErase 1 0) State.reset) = some 10 := by decide +kernel
theorem test_startDone_moves :
    (after (.startDone true) (onStore fun s => { s with op := some (.settingStart 12) })).room.store.start = 12 := by
  decide +kernel
theorem test_crc_of_no_bytes : crc [] = 0xFFFF := by decide +kernel


/-! ## The hypotheses of every statement are met -/

theorem free_onRoom {f : Room → Room} (h : (f State.reset.room).Settled) : (onRoom f).Free :=
  ⟨rfl, rfl, rfl, rfl, rfl, rfl, h⟩

theorem calm_onRoom {f : Room → Room} (h : (f State.reset.room).Settled)
    (hs : (f State.reset.room).map.switch = none) : (onRoom f).Calm := ⟨free_onRoom h, hs⟩

theorem awake_onRoom {f : Room → Room} (h : (f State.reset.room).Settled) : (onRoom f).Awake := ⟨rfl, h⟩

theorem steady_onRoom {f : Room → Room} (h : (f State.reset.room).Settled)
    (hs : (f State.reset.room).map.switch = none) : (onRoom f).Steady := ⟨awake_onRoom h, hs⟩

theorem reset_settled : State.reset.room.Settled := ⟨rfl, rfl, rfl⟩
theorem reset_free : State.reset.Free := ⟨rfl, rfl, rfl, rfl, rfl, rfl, reset_settled⟩
theorem reset_calm : State.reset.Calm := ⟨reset_free, rfl⟩
theorem reset_awake : State.reset.Awake := ⟨rfl, reset_settled⟩
theorem reset_steady : State.reset.Steady := ⟨reset_awake, rfl⟩
theorem reset_table : State.reset.room.mute.TableSound := ⟨List.nodup_nil, List.nodup_nil⟩

/-! ### The machine as a whole -/

theorem test_meets_StepRunsFrontCommand :
    ∃ (s : State) (c : Instr) (rest : List Instr), s.pending = c :: rest :=
  ⟨{ State.reset with pending := [.gap] }, .gap, [], rfl⟩

theorem fresh_due (g : Gain) (ms : Nat) : (Comp.fresh g ms).due = false := by
  cases g
  · rfl
  · simp only [Comp.fresh, Comp.due, decide_eq_false_iff_not]
    omega

theorem reset_comp_due (id : CompId) : (State.reset.room.mix.comp id).due = false := by
  have h : Comp.atOff.due = false := rfl
  cases id <;> simp [State.reset, Room.started, Mix.started, Mix.afterReset, Mix.comp, fresh_due, h]

theorem reset_dues : State.reset.dues = [] := by
  have h : allComps.filter (fun id => (State.reset.room.mix.comp id).due) = [] :=
    List.filter_eq_nil_iff.mpr fun id _ => by simp [reset_comp_due]
  unfold State.dues Room.dueLists
  rw [h]
  decide +kernel

theorem test_meets_EmptyQueueTakesDueOrTicks :
    (∃ s : State, s.pending = [] ∧ s.held = true)
    ∧ (∃ (s : State) (c : Instr) (cs : List Instr), s.pending = [] ∧ s.held = false ∧ s.dues = c :: cs)
    ∧ ∃ s : State, s.pending = [] ∧ s.held = false ∧ s.dues = [] :=
  ⟨⟨{ State.reset with held := true }, rfl, rfl⟩,
    ⟨onPort fun p => { p with gapTime := 21, rx := [0xC5] }, .gap, State.reset.room.dueLists.flatten, rfl, rfl, by
      simp [State.dues, onPort]⟩,
    ⟨State.reset, rfl, rfl, reset_dues⟩⟩

/-- A timer is a hold timer. -/
def isHold : SeatTimer → Bool
  | .hold _ => true
  | _ => false

/-- A floor whose kept seats and hold timers are in HOLD, and HOLD in AUTO mode, seat by seat. -/
theorem holdSound_of {f : Floor} (h : ∀ n : Seat, let x := f.seats.get n
    (x.kept = true → x.gate = .hold) ∧ (isHold x.timer = true → x.gate = .hold)
      ∧ (x.gate = .hold → f.settings.mode = .auto)) : f.HoldSound := fun n =>
  ⟨(h n).1, fun left e => (h n).2.1 (by rw [e]; rfl), (h n).2.2⟩

theorem test_meets_StepKeepsCapacities :
    ∃ s t : State, s.Inv ∧ step s = .next t :=
  ⟨{ onPort fun p => { p with rxq := List.replicate 4 ⟨1, 1, []⟩, events := List.replicate 32 .mapSwitchCancelled } with
      pending := [.gap] }, _, ⟨⟨by decide +kernel, by decide +kernel⟩, reset_settled, holdSound_of (by decide +kernel)⟩,
    rfl⟩

/-- The state after reset with the floor in OPEN mode. -/
def openRoom : State := onFloor fun f => { f with settings := { f.settings with mode := .opened } }

theorem openRoom_told : openRoom.room.Told := by constructor <;> decide +kernel

theorem openRoom_gate : ∀ n, (openRoom.room.fseat n).gate = .closed ∧ (openRoom.room.fseat n).timer = .off := by
  decide +kernel

theorem openRoom_floor : openRoom.room.FloorSound where
  openLimit := by decide +kernel
  waitLimit := by decide +kernel
  queueLimit := by decide +kernel
  openOnce := by decide +kernel
  waitOnce := by decide +kernel
  queueOnce := by decide +kernel
  inOpen := by decide +kernel
  inWait := by decide +kernel
  inQueue := by decide +kernel
  modes n := by rw [(openRoom_gate n).1]; trivial
  chairs := by decide +kernel
  admissible := by decide +kernel
  asking := by decide +kernel
  idling n left h := by rw [(openRoom_gate n).2] at h; cases h
  openMode := by decide +kernel

theorem openRoom_distinct : openRoom.room.Distinct :=
  ⟨⟨by unfold MapDistinct; decide +kernel, by unfold MapDistinct; decide +kernel⟩,
    fun i x h => by simp [openRoom, onFloor, onRoom, State.reset, Room.started, Room.afterReset, Store.factory] at h,
    fun i x h => by cases h⟩

theorem openRoom_whole : openRoom.room.Whole :=
  ⟨openRoom_distinct, ⟨by decide +kernel, by decide +kernel⟩, openRoom_told, openRoom_floor⟩

theorem openRoom_inv : openRoom.Inv :=
  ⟨⟨by decide +kernel, by decide +kernel⟩, reset_settled, holdSound_of (by decide +kernel)⟩

theorem openRoom_follows : openRoom.Follows := fun _ => by constructor <;> decide +kernel

/-- The premises that StepKeepsCapacities and StepKeepsMuteDerived put together. -/
theorem test_meets_StepKeepsCapacities_floor :
    ∃ s t : State, s.Inv ∧ s.room.Whole ∧ s.Follows ∧ s.held = false ∧ step s = .next t :=
  ⟨{ openRoom with pending := [.gap] }, _, openRoom_inv, openRoom_whole, openRoom_follows, rfl, rfl⟩

/-- A tick with a ramp in flight and none, a seat whose LIVE notice is due, with a window and without, and one whose
notice is not. -/
theorem test_meets_EmptyQueueTakesDueOrTicks_tick :
    State.reset.held = false ∧ (State.reset.room.mix.comp .classFar).ramp.isSome = true
    ∧ (State.reset.room.mix.comp (.gate 0)).ramp = none
    ∧ (∀ flag ∈ [false, true], ∃ r : Room, (r.fbSeat 0).live = false ∧ (r.mix.speakerMute.get 0).isOff = false
      ∧ (r.fbSeat 0).presence = .present ∧ (r.fbSeat 0).flag = flag)
    ∧ ∃ r : Room, (r.fbSeat 0).live = false ∧ (r.mix.speakerMute.get 0).isOff = true := by
  refine ⟨rfl, by decide +kernel, by decide +kernel, fun flag h => ?_,
    ⟨{ State.reset.room with mix := Mix.afterReset factoryScene }, by decide +kernel, by decide +kernel⟩⟩
  refine ⟨{ State.reset.room with fb := { State.reset.room.fb with
    seats := State.reset.room.fb.seats.modify 0 fun x => { x with presence := .present, flag := flag } } }, ?_⟩
  fin_cases h <;> decide +kernel

/-- Maps with no positions. -/
def noPlaces : Tab 40 Entry := Tab.fill 40 ⟨none, .member, false⟩

theorem test_meets_StepKeepsMapsDistinct :
    ∃ s t : State, s.room.Distinct ∧ step s = .next t := by
  refine ⟨{ onMap fun m => { m with running := noPlaces, staged := noPlaces } with pending := [.gap] }, _,
    ⟨⟨?_, ?_⟩, ?_, ?_⟩, rfl⟩
  · intro i j h
    simp [onMap, onRoom, noPlaces] at h
  · intro i j h
    simp [onMap, onRoom, noPlaces] at h
  · intro i x h
    simp [onMap, onRoom, State.reset, Room.started, Room.afterReset, Store.factory] at h
  · intro i x h
    simp [onMap, onRoom, State.reset, Room.started, Room.afterReset, Store.factory] at h

theorem test_meets_StepKeepsClaimTable :
    ∃ s t : State, s.room.mute.TableSound ∧ step s = .next t :=
  ⟨{ onMute fun m => { m with table := [roomClaim 0 none] } with pending := [.gap] }, _,
    ⟨by decide +kernel, by decide +kernel⟩, rfl⟩

theorem test_meets_StepKeepsMuteDerived :
    ∃ s t : State, s.room.Derived ∧ step s = .next t :=
  ⟨{ onRoom fun r => { r with mute := { r.mute with eff := Tab.ofFn r.effOf, links := Tab.ofFn r.linkEffOf } } with
      pending := [.gap] }, _, ⟨fun n => Tab.get_ofFn _ n, fun k => Tab.get_ofFn _ k⟩, rfl⟩

/-- A link of the call. -/
def joinedLink : State := atLink 0 .live fun x => { x with st := .joined, up := true, locked := true }

theorem test_meets_StepKeepsCallState :
    ∃ s t : State, (s.room.link.call = .live ↔ ∃ k, (s.room.linkRec k).st = .joined ∨ (s.room.linkRec k).st = .held)
      ∧ step s = .next t :=
  ⟨{ joinedLink with pending := [.gap] }, _, ⟨fun _ => ⟨0, Or.inl rfl⟩, fun _ => rfl⟩, rfl⟩

/-- Link 1 in a state, with a ramp of its component in flight. -/
def linkRamping (st : LinkSt) (phase : Option Phase) : State :=
  onRoom fun r =>
    { r with
      link := { r.link with links := r.link.links.modify 0 fun x => { x with st := st, phase := phase } }
      mix := { r.mix with linkState := r.mix.linkState.set 0 ⟨.db 0, some ⟨-80000, true, 100, 100⟩⟩ } }

/-- The timer's premise, and a step into IDLE and one out of it. -/
theorem test_meets_StepKeepsCallState_timer :
    (∃ s t : State, (s.room.link.timer.isSome = true ↔ s.room.link.call = .idle ∧ s.room.link.delay ≠ 0) ∧ step s = .next t)
    ∧ (∃ s t : State, step s = .next t ∧ s.room.link.call ≠ .idle ∧ t.room.link.call = .idle)
    ∧ ∃ s t : State, step s = .next t ∧ s.room.link.call = .idle ∧ t.room.link.call ≠ .idle :=
  ⟨⟨{ State.reset with pending := [.gap] }, _, by decide +kernel, rfl⟩,
    ⟨{ joinedLink with pending := [.lossNotice 0] }, _, rfl, by decide +kernel, by decide +kernel⟩,
    ⟨{ linkRamping .joining (some .ramp) with pending := [.rampComplete (.linkState 0)] }, _, rfl, rfl, by
      decide +kernel⟩⟩

/-! ### The Control Port -/

theorem test_meets_PortRequestsAnswer :
    (∃ (s : State) (m n : Byte), s.Free ∧ m.getLsbD 7 = false ∧ n.getLsbD 7 = true ∧ m = 0x7F ∧ n = 0x80)
    ∧ ∃ (s : State) (f : Frame), s.held = false ∧ s.port.tx = some (.reply f) ∧ s.port.resetDue = true :=
  ⟨⟨State.reset, 0x7F, 0x80, reset_free, by decide, by decide, rfl, rfl⟩,
    ⟨onPort fun p => { p with tx := some (.reply ⟨0x83, 1, [0]⟩), resetDue := true }, _, rfl, rfl, rfl⟩⟩

theorem test_meets_UnknownKindAnswers :
    ∃ s : State, s.Free ∧ ∀ kind ∈ [(0x00 : Byte), 0x04, 0x7F, 0x80, 0xFF], kind.toNat ∉ tableKinds :=
  ⟨State.reset, reset_free, by decide⟩

/-- Bodies of lengths next to those that a kind admits. -/
theorem test_meets_UnknownKindAnswers_length :
    State.reset.Free ∧ (∃ i, ([[0x01], [0x13], [0x2B]] : List (List Byte))[i]? = some [0x01] ∧ ([0] : List Byte).length ≠ i)
    ∧ 1 < ([0, 0] : List Byte).length
    ∧ (∀ first count rest, ([1, 2, 0, 0, 0] : List Byte) = first :: count :: rest → rest.length ≠ 3 * count.toNat)
    ∧ (∀ first count rest, ([1] : List Byte) = first :: count :: rest → rest.length ≠ 3 * count.toNat)
    ∧ 41 < (List.replicate 42 (0 : Byte)).length
    ∧ (∀ n ∈ [3, 5, 7, 9], (List.replicate n (0 : Byte)).length ≠ 4 ∧ (List.replicate n (0 : Byte)).length ≠ 8) :=
  ⟨reset_free, ⟨0, rfl, by decide⟩, by decide, fun _ _ _ h => by cases h; decide, fun _ _ _ h => by simp at h, by decide, by
    decide⟩

theorem test_length_request : statusOf (after (.unknown 1 0x13 []) State.reset) = some 2 := by decide +kernel

theorem test_meets_RequestsWaitOrOverrun :
    (∃ s : State, s.held = false ∧ s.port.lineLow = false ∧ s.port.taken = true ∧ s.port.rxq.length = 3)
    ∧ ∃ s : State, s.held = false ∧ s.port.lineLow = false ∧ s.port.taken = true ∧ s.port.rxq.length = 4 :=
  ⟨⟨onPort fun p => { p with taken := true, rxq := List.replicate 3 ⟨1, 1, []⟩ }, rfl, rfl, rfl, rfl⟩,
    ⟨onPort fun p => { p with taken := true, rxq := List.replicate 4 ⟨1, 1, []⟩ }, rfl, rfl, rfl, rfl⟩⟩

theorem test_meets_TransmitFrameDoneFreesLine :
    (∃ s : State, s.port.tx = none)
    ∧ (∃ (s : State) (e : Event) (l : Bool), s.port.tx = some (.event e l))
    ∧ (∃ (s : State) (f g : Frame), s.port.tx = some (.reply f) ∧ s.port.resetDue = false ∧ s.port.rxq = [g])
    ∧ ∃ (s : State) (f g h : Frame) (rest : List Frame), s.held = false ∧ s.port.lineLow = false
      ∧ s.port.tx = some (.reply f) ∧ s.port.resetDue = false ∧ s.port.reply = none ∧ s.port.rxq = g :: h :: rest :=
  ⟨⟨State.reset, rfl⟩, ⟨onPort fun p => { p with tx := some (.event .mapSwitchCancelled true) }, _, _, rfl⟩,
    ⟨onPort fun p => { p with tx := some (.reply ⟨0x81, 1, []⟩), rxq := [⟨1, 1, []⟩] }, _, _, rfl, rfl, rfl⟩,
    ⟨onPort fun p => { p with tx := some (.reply ⟨0x81, 1, []⟩), rxq := [⟨1, 1, []⟩, ⟨1, 2, []⟩] },
      _, _, _, _, rfl, rfl, rfl, rfl, rfl, rfl⟩⟩

theorem test_meets_EventsQueueAndTransmitterTurns :
    (∃ p : Port, p.lineLow = true)
    ∧ (∃ (p : Port) (e : Event), p.lineLow = false ∧ p.mask.getLsbD e.cls.val = false
      ∧ (∀ c n b, e ≠ .resetDone c n b) ∧ ∀ r, e ≠ .portReady r)
    ∧ (∃ (p : Port) (e : Event), p.lineLow = false ∧ p.mask.getLsbD e.cls.val = true ∧ p.events.length = 31)
    ∧ (∃ (p : Port) (e : Event), p.lineLow = false ∧ p.mask.getLsbD e.cls.val = true ∧ p.events.length = 32)
    ∧ (∃ p : Port, p.lineLow = false ∧ p.tx = none ∧ p.reply = none ∧ p.events = [])
    ∧ (∃ (p : Port) (f : Frame), p.lineLow = false ∧ p.tx = none ∧ p.reply = some f ∧ p.lastWasReply = false)
    ∧ (∃ (p : Port) (f : Frame), p.lineLow = false ∧ p.tx = none ∧ p.reply = some f ∧ p.events = [])
    ∧ (∃ (p : Port) (e : Event) (es : List Event), p.lineLow = false ∧ p.tx = none ∧ p.events = e :: es
      ∧ p.reply = none)
    ∧ (∃ (p : Port) (e : Event) (es : List Event), p.lineLow = false ∧ p.tx = none ∧ p.events = e :: es
      ∧ p.reply.isSome = true ∧ p.lastWasReply = true)
    ∧ ∃ p : Port, p.lineLow = false ∧ p.tx.isSome = true := by
  let p0 : Port := { State.reset.port with events := [] }
  let e0 : Event := .mapSwitchCancelled
  exact ⟨⟨{ p0 with lineLow := true }, rfl⟩,
    ⟨{ p0 with mask := 0 }, e0, rfl, by decide, fun _ _ _ => by simp [e0], fun _ => by simp [e0]⟩,
    ⟨{ p0 with events := List.replicate 31 e0 }, e0, rfl, by decide +kernel, rfl⟩,
    ⟨{ p0 with events := List.replicate 32 e0 }, e0, rfl, by decide +kernel, rfl⟩,
    ⟨p0, rfl, rfl, rfl, rfl⟩,
    ⟨{ p0 with reply := some ⟨0x81, 1, []⟩, events := [e0] }, _, rfl, rfl, rfl, rfl⟩,
    ⟨{ p0 with reply := some ⟨0x81, 1, []⟩, lastWasReply := true }, _, rfl, rfl, rfl, rfl⟩,
    ⟨{ p0 with events := [e0] }, _, _, rfl, rfl, rfl, rfl⟩,
    ⟨{ p0 with events := [e0], reply := some ⟨0x81, 1, []⟩, lastWasReply := true }, _, _, rfl, rfl, rfl, rfl, rfl⟩,
    ⟨{ p0 with tx := some (.event e0 false) }, rfl, rfl⟩⟩

theorem test_meets_FramesAssembledOrAbandoned :
    (∃ s : State, s.held = false ∧ s.port.lineLow = false ∧ s.port.rx = [])
    ∧ (∃ f : Frame, f.body.length = 253) ∧ (∃ b : Byte, b ≠ 0xC5) ∧ (∃ b : Byte, b.toNat = 1)
    ∧ (∃ (len : Byte) (more : List Byte), len.toNat = 2 ∧ len.toNat + 2 = more.length
      ∧ (more.drop len.toNat).take 2 ≠ [(crc (len :: more.take len.toNat)).extractLsb' 8 8,
        (crc (len :: more.take len.toNat)).extractLsb' 0 8])
    ∧ ∃ s : State, s.held = false ∧ s.port.rx ≠ [] :=
  ⟨⟨State.reset, rfl, rfl, rfl⟩, ⟨⟨1, 1, List.replicate 253 0⟩, by decide +kernel⟩, ⟨0xC4, by decide⟩, ⟨1, rfl⟩,
    ⟨2, [1, 9, 0, 0], rfl, rfl, by decide +kernel⟩,
    ⟨onPort fun p => { p with rx := [0xC5] }, rfl, by decide +kernel⟩⟩

/-- A character with each stop bit, a record being sent, and the idle line (R187). -/
theorem test_meets_FramesAssembledOrAbandoned_line :
    charBits 0xC5 = [false, true, false, true, false, false, false, true, true, true]
    ∧ charRead [true, false, true, false, false, false, true, true, true] = some 0xC5
    ∧ charRead [true, false, true, false, false, false, true, true, false] = none
    ∧ (∃ (s : State) (x : Sent), s.port.tx = some x ∧ s.lineOut.take 10 = charBits 0xC5)
    ∧ ∃ s : State, s.port.tx = none ∧ s.lineOut = [] :=
  ⟨by decide, by decide, by decide,
    ⟨onPort fun p => { p with tx := some (.reply ⟨0x81, 7, [0]⟩) }, .reply ⟨0x81, 7, [0]⟩, rfl, by decide +kernel⟩,
    ⟨State.reset, rfl, rfl⟩⟩

theorem test_meets_BreakResetsPortAlone :
    (∃ s : State, s.held = false ∧ s.port.resetDue = false ∧ s.port.lineLow = false)
    ∧ (∃ s : State, s.held = false ∧ s.port.resetDue = true)
    ∧ ∃ s : State, s.held = false ∧ s.port.lineLow = true ∧ s.port.events = [] ∧ s.port.tx = none ∧ s.port.reply = none
      ∧ s.port.lost = false :=
  ⟨⟨State.reset, rfl, rfl, rfl⟩, ⟨onPort fun p => { p with resetDue := true }, rfl, rfl⟩,
    ⟨onPort fun p => { p with lineLow := true, events := [] }, rfl, rfl, rfl, rfl, rfl, rfl⟩⟩

/-- The store with an image in slot 12, which is the start slot. -/
def withImage (x : Image) : State := onStore fun s => { s with slots := s.slots.set 11 ⟨.valid, some x⟩, start := 12 }

theorem withImage_slot (x : Image) : (withImage x).room.store.slots.get 11 = ⟨.valid, some x⟩ := Tab.get_set_self _ _ _

/-- An image whose check passes, and one whose check fails. -/
def soundImage : Image := ⟨factoryScene, crc factoryScene.bytes⟩
def spoiledImage : Image := ⟨factoryScene, crc factoryScene.bytes + 1⟩

theorem soundImage_passes : crc soundImage.scene.bytes = soundImage.check := by
  unfold soundImage
  generalize crc factoryScene.bytes = c
  rfl

theorem spoiledImage_fails : crc spoiledImage.scene.bytes ≠ spoiledImage.check := by
  unfold spoiledImage
  generalize crc factoryScene.bytes = c
  intro h
  simp at h

theorem test_meets_ResetInputAndFullReset :
    (∃ s : State, s.held = false ∧ s.room.store.start = 0)
    ∧ (∃ (s : State) (c : Instr), s.held = true ∧ s.port.tx = none ∧ s.port.lineLow = false
      ∧ ∀ cause a b, c ≠ .fullReset cause a b)
    ∧ (∃ (s : State) (i : Fin 12) (x : Image), s.held = false ∧ s.room.store.start.val = i.val + 1
      ∧ (s.room.store.slots.get i).image = some x ∧ (s.room.store.slots.get i).state = .valid
      ∧ crc x.scene.bytes = x.check)
    ∧ (∃ (s : State) (i : Fin 12) (x : Image), s.held = false ∧ s.room.store.start.val = i.val + 1
      ∧ (s.room.store.slots.get i).image = some x ∧ (s.room.store.slots.get i).state = .valid
      ∧ crc x.scene.bytes ≠ x.check)
    ∧ (∃ (s : State) (i : Fin 12), s.held = false ∧ s.room.store.start.val = i.val + 1
      ∧ (s.room.store.slots.get i).state ≠ .valid)
    ∧ ∃ s : State, s.held = true ∧ s.powerSeen = true :=
  ⟨⟨State.reset, rfl, rfl⟩,
    ⟨{ State.reset with held := true }, .gap, rfl, rfl, rfl, fun _ _ _ => by simp⟩,
    ⟨withImage soundImage, 11, soundImage, rfl, rfl, by rw [withImage_slot], by rw [withImage_slot], soundImage_passes⟩,
    ⟨withImage spoiledImage, 11, spoiledImage, rfl, rfl, by rw [withImage_slot], by rw [withImage_slot],
      spoiledImage_fails⟩,
    ⟨onStore fun s => { s with start := 1 }, 0, rfl, rfl, by decide +kernel⟩,
    ⟨{ State.reset with held := true, powerSeen := true }, rfl, rfl⟩⟩

/-! ### Seat maps and reads -/

theorem test_meets_SeatMapReadsAnswer :
    ∃ s : State, s.Free ∧ (∀ p ∈ [(1, 1), (1, 40), (40, 1)], 1 ≤ p.1 ∧ 1 ≤ p.2 ∧ p.1 + p.2 ≤ 41)
      ∧ (∀ b ∈ [(0 : Byte), 41, 255], b.toNat = 0 ∨ 40 < b.toNat)
      ∧ ∀ x ∈ [((2, 1, 1) : Byte × Byte × Byte), (0, 0, 1), (0, 1, 0), (1, 40, 2)],
        1 < x.1.toNat ∨ x.2.1.toNat = 0 ∨ x.2.2.toNat = 0 ∨ 41 < x.2.1.toNat + x.2.2.toNat :=
  ⟨State.reset, reset_free, by decide, by simp, by simp⟩

theorem test_meets_MapLoadReplacesStaged :
    (∃ (s : State) (f c : Nat) (raw : List RawEntry) (entries : List Entry) (staged : Tab 40 Entry),
      s.Free ∧ 1 ≤ f ∧ 1 ≤ c ∧ f + c = 41 ∧ raw.length = c ∧ raw.mapM entryOf = some entries
      ∧ (∀ n : Seat, staged.get n
        = if f ≤ n.val + 1 then (entries[n.val + 1 - f]?).getD (s.room.map.staged.get n) else s.room.map.staged.get n)
      ∧ s.room.map.switch = none
      ∧ ¬ ∃ n m : Seat, f ≤ n.val + 1 ∧ n.val + 1 < f + c ∧ m ≠ n ∧ (staged.get n).place.isSome = true
        ∧ (staged.get m).place = (staged.get n).place)
    ∧ (∃ (s : State) (raw : List RawEntry) (entries : List Entry) (staged : Tab 40 Entry),
      s.Free ∧ raw.length = 1 ∧ raw.mapM entryOf = some entries
      ∧ (∀ n : Seat, staged.get n
        = if 1 ≤ n.val + 1 then (entries[n.val + 1 - 1]?).getD (s.room.map.staged.get n) else s.room.map.staged.get n)
      ∧ s.room.map.switch = none
      ∧ ∃ n m : Seat, 1 ≤ n.val + 1 ∧ n.val + 1 < 1 + 1 ∧ m ≠ n ∧ (staged.get n).place.isSome = true
        ∧ (staged.get m).place = (staged.get n).place)
    ∧ ∃ s : State, s.Free ∧ s.room.map.switch.isSome = true :=
  ⟨⟨State.reset, 40, 1, [⟨2, 20, 0⟩], [⟨some ⟨1, 19⟩, .member, false⟩], factoryMap, reset_free, by decide, by decide,
      by decide, rfl, by decide +kernel, by decide +kernel, rfl, by decide +kernel⟩,
    ⟨State.reset, [⟨1, 2, 0⟩], [⟨some ⟨0, 1⟩, .member, false⟩], factoryMap.set 0 ⟨some ⟨0, 1⟩, .member, false⟩,
      reset_free, rfl, by decide +kernel, by decide +kernel, rfl, 0, 1, by decide +kernel⟩,
    ⟨onMap fun m => { m with switch := some ⟨.keep, none⟩ }, free_onRoom ⟨rfl, rfl, rfl⟩, rfl⟩⟩

theorem test_meets_GroupSetReplacesGroup :
    ∃ s : State, s.Calm ∧ ([] : List Seat).length ≤ 40 ∧ (List.finRange 40).length ≤ 40 :=
  ⟨State.reset, reset_calm, by decide, by decide⟩

theorem test_meets_MapSwitchNowSwaps :
    ∃ s : State, s.Free ∧ ∀ wait ∈ [(0 : Byte), 60, 255], wait.toNat ≤ 60 ∨ wait.toNat = 255 :=
  ⟨State.reset, reset_free, by decide⟩

/-- A present seat in role CHAIR with a claim, which the staged map re-seats as a member at a position with no pod. -/
def chairLeaves : State :=
  onRoom fun r => { r with
    map := { r.map with
      running := (Tab.fill 40 ⟨none, .member, false⟩).set 0 ⟨some ⟨0, 0⟩, .chair, false⟩
      staged := (Tab.fill 40 ⟨none, .member, false⟩).set 0 ⟨some ⟨0, 19⟩, .member, false⟩ }
    lines := r.lines.modify 0 fun x => { x with pods := x.pods.modify 0 fun p => { p with present := true } }
    mute := { r.mute with
      table := [⟨0, .chair 0, .members, .mic, none, 0⟩]
      seats := r.mute.seats.modify 0 fun x => { x with self := true, presence := .present } } }

theorem test_meets_ReseatLeaves :
    chairLeaves.Free ∧ chairLeaves.room.mute.TableSound ∧ chairLeaves.room.presence 0 = .present
    ∧ (chairLeaves.room.map.running.get 0).role = .chair ∧ (chairLeaves.room.map.staged.get 0).role = .member
    ∧ (chairLeaves.room.podAt ⟨0, 19⟩).present = false :=
  ⟨free_onRoom ⟨rfl, rfl, rfl⟩, ⟨by decide +kernel, by decide +kernel⟩, by decide +kernel⟩

theorem test_meets_MapSwitchQuietPends :
    (∀ wait ∈ [(0 : Byte), 60, 255], wait.toNat ≤ 60 ∨ wait.toNat = 255)
    ∧ (∃ s : State, s.Free ∧ s.room.map.quiet = true ∧ s.room.map.switch = none)
    ∧ (∃ s : State, s.Free ∧ s.room.map.quiet = false)
    ∧ ∃ s : State, s.Free ∧ s.room.map.switch.isSome = true :=
  ⟨by decide, ⟨State.reset, reset_free, rfl, rfl⟩,
    ⟨onMap fun m => { m with quiet := false }, free_onRoom ⟨rfl, rfl, rfl⟩, rfl⟩,
    ⟨onMap fun m => { m with switch := some ⟨.keep, none⟩ }, free_onRoom ⟨rfl, rfl, rfl⟩, rfl⟩⟩

theorem test_meets_WaitExpirySwaps :
    (∃ (s : State) (c : Instr) (lock : LockMode) (timer : Option Nat), s.Free ∧ waitsForQuiet c = true
      ∧ s.room.map.switch = some ⟨lock, timer⟩)
    ∧ (∃ s t : State, (s.room.map.switch.isSome = true → s.room.map.quiet = false) ∧ step s = .next t
      ∧ t.room.map.switch.isSome = true)
    ∧ (∃ (s : State) (lock : LockMode) (left : Nat), s.Awake ∧ s.room.map.switch = some ⟨lock, some left⟩)
    ∧ ∃ s : State, s.Awake ∧ ∀ lock left, s.room.map.switch ≠ some ⟨lock, some left⟩ :=
  ⟨⟨onMap fun m => { m with switch := some ⟨.keep, none⟩ }, .floorClear 1, .keep, none, free_onRoom ⟨rfl, rfl, rfl⟩, rfl,
      rfl⟩,
    ⟨{ onMap fun m => { m with switch := some ⟨.take, some 1⟩, quiet := false } with pending := [.gap] }, _, fun _ => rfl,
      rfl, rfl⟩,
    ⟨onMap fun m => { m with switch := some ⟨.take, some 0⟩ }, .take, 0, awake_onRoom ⟨rfl, rfl, rfl⟩, rfl⟩,
    ⟨onMap fun m => { m with switch := some ⟨.take, none⟩ }, awake_onRoom ⟨rfl, rfl, rfl⟩, fun _ _ => by
      simp [onMap, onRoom]⟩⟩

theorem test_meets_ReadsAnswerAndChangeNothing :
    (∃ s : State, s.Free ∧ s.room.store.op = none) ∧ (∃ b : Byte, b.toNat = 47) ∧ (∃ b : Byte, b = 1 ∨ b = 21)
    ∧ ∃ s : State, s.Free ∧ s.room.store.op.isSome = true :=
  ⟨⟨State.reset, reset_free, rfl⟩, ⟨47, rfl⟩, ⟨21, Or.inr rfl⟩,
    ⟨onStore fun s => { s with op := some (.erasing 0) }, free_onRoom ⟨rfl, rfl, rfl⟩, rfl⟩⟩

/-! ### Pod lines and detectors -/

/-- Line 1 with a pod at its last position. -/
def podLine (bad : Nat) : State :=
  onLine 0 fun x => { x with lstate := .up, scan := none, pods := x.pods.modify 19 fun p => { p with present := true, bad := bad } }

theorem podLine_calm (bad : Nat) : (podLine bad).Calm := calm_onRoom ⟨rfl, rfl, rfl⟩ rfl

theorem test_meets_LineSetTakesSettings :
    (∀ p ∈ [(0, 2), (20, 32)], p.1 ≤ 20 ∧ 2 ≤ p.2 ∧ p.2 ≤ 32)
    ∧ (∃ s : State, s.Calm ∧ ∀ p : Pos, (s.room.podAt ⟨0, p⟩).present = true → (s.room.podAt ⟨0, p⟩).bad < 2)
    ∧ ∃ (s : State) (p : Pos), s.Calm ∧ (s.room.podAt ⟨0, p⟩).present = true ∧ 2 ≤ (s.room.podAt ⟨0, p⟩).bad :=
  ⟨by decide, ⟨podLine 1, podLine_calm 1, by decide +kernel⟩, ⟨podLine 2, 19, podLine_calm 2, by decide +kernel⟩⟩

/-- A pod lost beside one that stays, and the last pod of a line lost. -/
theorem test_meets_LineSetTakesSettings_losses :
    (∃ s : State, s.Calm ∧ (s.room.line 0).lstate = .up ∧ (s.room.line 0).count = 2
      ∧ ((s.room.line 0).pods.get 0).bad < 2 ∧ 2 ≤ ((s.room.line 0).pods.get 19).bad)
    ∧ ∃ s : State, s.Calm ∧ (s.room.line 0).lstate = .up ∧ (s.room.line 0).count = 1
      ∧ 2 ≤ ((s.room.line 0).pods.get 19).bad :=
  ⟨⟨onLine 0 fun x => { x with
      lstate := .up, scan := none
      pods := (x.pods.modify 19 fun p => { p with present := true, bad := 2 }).modify 0 fun p => { p with present := true } },
      calm_onRoom ⟨rfl, rfl, rfl⟩ rfl, rfl, by decide +kernel, by decide +kernel, by decide +kernel⟩,
    ⟨podLine 2, podLine_calm 2, rfl, by decide +kernel, by decide +kernel⟩⟩

theorem test_meets_LineScanAndRehearseStart :
    (∃ s : State, s.Calm ∧ (s.room.line 0).lstate = .scanning)
    ∧ (∃ s : State, s.Calm ∧ (s.room.line 0).lstate ≠ .scanning ∧ (s.room.line 0).rehearsal = none)
    ∧ (∃ s : State, s.Calm ∧ (s.room.line 0).rehearsal.isSome = true)
    ∧ 10 ≤ (10 : Pair).toNat ∧ (10000 : Pair).toNat ≤ 10000 :=
  ⟨⟨State.reset, reset_calm, rfl⟩, ⟨podLine 0, podLine_calm 0, by decide +kernel, by decide +kernel⟩,
    ⟨onLine 0 fun x => { x with rehearsal := some ⟨.drop, 0, 5⟩ }, calm_onRoom ⟨rfl, rfl, rfl⟩ rfl,
      by decide +kernel⟩, by simp, by simp⟩

/-- The pod of seat 20 alone on line 1, at the lost limit of 2, its seat in a gate state, tripped twice and lowered by 3 dB. -/
def losing (g : GateState) : State :=
  onRoom fun r => { (podLine 2).room with
    floor := { r.floor with
      waitList := if g = .waiting then [19] else [], queue := if g = .queued then [19] else []
      seats := r.floor.seats.modify 19 fun x => { x with gate := g } }
    fb := { r.fb with seats := r.fb.seats.modify 19 fun x => { x with trips := 2, offset := -6 } } }

theorem losing_derived (g : GateState) : (losing g).room.Derived := by
  have h : ∀ n : Seat, (podLine 2).room.eff n = (podLine 2).room.effOf n := by decide +kernel
  have k : ∀ k : Link, (podLine 2).room.mute.links.get k = (podLine 2).room.linkEffOf k := by decide +kernel
  exact ⟨h, k⟩

theorem losing_seat (g : GateState) : ((losing g).room.fseat 19).gate = g := by simp [losing, onRoom, Room.fseat]

/-- What the clauses on a lost pod's seat ask of the room before the loss: every gate state, the lists as they go with it,
derived mutes, a record to clear; and a frame whose terminator report loses the pod. -/
theorem test_meets_loss :
    (∀ g ∈ [GateState.closed, .waiting, .opened, .hold, .queued, .granted], ∃ s : State, s.Calm ∧ s.Steady
      ∧ s.room.Derived ∧ (s.room.podAt ⟨0, 19⟩).present = true ∧ 2 ≤ (s.room.podAt ⟨0, 19⟩).bad
      ∧ (s.room.line 0).lstate ≠ .scanning ∧ (s.room.line 0).rehearsal = none
      ∧ seatAt s.room.map.running ⟨0, 19⟩ = some 19 ∧ (s.room.fseat 19).gate = g
      ∧ (g ≠ .waiting → 19 ∉ s.room.floor.waitList) ∧ (g ≠ .queued → 19 ∉ s.room.floor.queue)
      ∧ (s.room.fbSeat 19).trips ≠ 0 ∧ (s.room.fbSeat 19).offset < 0)
    ∧ ∃ f : UpFrame, f.answer = none ∧ f.term.passes = true ∧ f.term.value = 19 := by
  refine ⟨fun g hg => ⟨losing g, calm_onRoom ⟨rfl, rfl, rfl⟩ rfl, steady_onRoom ⟨rfl, rfl, rfl⟩ rfl, losing_derived g,
    (by decide +kernel : ((podLine 2).room.podAt ⟨0, 19⟩).present = true),
    (by decide +kernel : 2 ≤ ((podLine 2).room.podAt ⟨0, 19⟩).bad),
    (by decide +kernel : ((podLine 2).room.line 0).lstate ≠ .scanning), rfl,
    (by decide +kernel : seatAt (podLine 2).room.map.running ⟨0, 19⟩ = some 19), losing_seat g, ?_, ?_, ?_, ?_⟩,
    stillFrame 19 none, rfl, rfl, rfl⟩ <;> fin_cases hg <;> decide +kernel

/-- A seat that a lost pod served: muted, closed, off the list, cleared and held, as LINE_SCAN leaves it. -/
theorem test_loss_of_queued_seat :
    let t := after (.lineScan 1 1) (losing .queued)
    (t.room.fseat 19).gate = .closed ∧ t.room.floor.queue = [] ∧ (t.room.mseat 19).presence = .absent
      ∧ (t.room.fbSeat 19).trips = 0 ∧ (t.room.det.get 19).held = true ∧ (t.room.mix.fbOffset.get 19).target = .db 0 := by
  decide +kernel

theorem test_meets_LineTimersExpire :
    (∃ s : State, s.Awake ∧ (s.room.line 0).probeTimer = none ∧ (s.room.line 0).scan.isSome = true
      ∧ (s.room.line 0).lstate = .scanning ∧ ((s.room.line 0).pods.get 0).blink = none)
    ∧ (∃ s : State, s.Awake ∧ ((s.room.line 0).pods.get 0).blink.isSome = true)
    ∧ ∃ (s : State) (left : Nat), s.Awake ∧ (s.room.line 0).probeTimer = some left ∧ (s.room.line 0).scan = none :=
  ⟨⟨State.reset, reset_awake, rfl, rfl, rfl, rfl⟩,
    ⟨onLine 0 fun x => { x with pods := x.pods.modify 0 fun p => { p with blink := some 0 } }, awake_onRoom ⟨rfl, rfl, rfl⟩,
      rfl⟩,
    ⟨onLine 0 fun x => { x with probeTimer := some 0, scan := none, lstate := .down }, 0, awake_onRoom ⟨rfl, rfl, rfl⟩,
      rfl, rfl⟩⟩

/-- A downstream frame: a served pod, an absent one, and the enumeration commands as they begin and later. -/
theorem test_meets_LineTimersExpire_frame :
    (∃ s : State, s.held = true) ∧ (podLine 0).held = false ∧ ((podLine 0).room.podAt ⟨0, 19⟩).present = true
    ∧ seatAt (podLine 0).room.map.running ⟨0, 19⟩ = some 19 ∧ ((podLine 0).room.podAt ⟨0, 0⟩).present = false
    ∧ ((podLine 0).downFrame 0).map DownFrame.command = some none
    ∧ (State.reset.downFrame 0).map DownFrame.command = some (some 0)
    ∧ ((onLine 0 fun x => { x with scan := none, probe := some ⟨19, 20⟩ }).downFrame 0).map DownFrame.command
      = some (some 19)
    ∧ ((onLine 0 fun x => { x with scan := some ⟨0, 19⟩ }).downFrame 0).map DownFrame.command = some none :=
  ⟨⟨{ State.reset with held := true }, rfl⟩, rfl, by decide +kernel, by decide +kernel, by decide +kernel, by
    rfl, by rfl, by rfl, by rfl⟩

/-- Line 1 with a pod at every position and nothing pressed, the bad counts as given. -/
def fullLine (kind : PodKind) (bad : Nat) : State :=
  onLine 0 fun x =>
    { x with lstate := .up, scan := none, lostLimit := 8
             pods := x.pods.map fun p => { p with present := true, kind := kind, privacy := false, bad := bad } }

theorem fullLine_steady (kind : PodKind) (bad : Nat) : (fullLine kind bad).Steady := steady_onRoom ⟨rfl, rfl, rfl⟩ rfl

/-- A frame that loses the pod at position 1 by its bad slot and the pod at position 20 by a short terminator report, one
that loses none, and one that leaves a bad count below the lost limit. -/
theorem test_meets_UpstreamFrameChecksSlots :
    (∃ (s : State) (f : UpFrame), s.Awake ∧ s.Steady ∧ f.answer = none ∧ f.term.passes = true ∧ f.term.value = 19
      ∧ (s.room.line 0).lostLimit = 8 ∧ (s.room.podAt ⟨0, 0⟩).bad = 7 ∧ (f.slots.get 0).passes = false
      ∧ (s.room.podAt ⟨0, 0⟩).present = true ∧ (s.room.podAt ⟨0, 19⟩).present = true ∧ (f.slots.get 19).passes = true
      ∧ s.room.link.call ≠ .standby
      ∧ ∀ p, (f.slots.get p).status.mic = false ∧ (f.slots.get p).status.talk = false
        ∧ (f.slots.get p).status.room = false ∧ (f.slots.get p).status.next = false
        ∧ (f.slots.get p).status.clear = false)
    ∧ (∃ (s : State) (f : UpFrame), s.Awake ∧ f.answer = none ∧ f.term.passes = false
      ∧ (s.room.line 0).termReported = 20 ∧ ∀ p, (s.room.podAt ⟨0, p⟩).bad = 6 ∧ (f.slots.get p).passes = false)
    ∧ ∀ x ∈ [(PodKind.member, Button.mic), (.member, .talk), (.chair, .room), (.chair, .next), (.chair, .clear)],
      ∃ (s : State) (f : UpFrame) (p : Pos) (n : Seat), s.Steady ∧ f.answer = none
      ∧ (∀ q, (f.slots.get q).status = ⟨x.1, false, false, false, false, false, false⟩)
      ∧ (∀ q, (f.slots.get q).status.privacy = (s.room.podAt ⟨0, q⟩).privacy) ∧ (s.room.podAt ⟨0, p⟩).present = true
      ∧ (f.slots.get p).passes = true ∧ (f.slots.get p).status.kind = (s.room.podAt ⟨0, p⟩).kind
      ∧ (s.room.line 0).dropped p = false ∧ seatAt s.room.map.running ⟨0, p⟩ = some n := by
  refine ⟨⟨fullLine .member 7, { stillFrame 19 none with
      slots := (stillFrame 19 none).slots.set 0 ⟨false, stillRecord, silence⟩ }, (fullLine_steady ..).1,
      fullLine_steady .., rfl, rfl, rfl, by decide +kernel⟩,
    ⟨onLine 0 fun x => { (fullLine .member 6).room.line 0 with termReported := 20 }, { stillFrame 20 none with
      slots := Tab.fill 20 ⟨false, stillRecord, silence⟩, term := ⟨20, false⟩ }, awake_onRoom ⟨rfl, rfl, rfl⟩, rfl, rfl, by
      decide +kernel, by decide +kernel⟩, fun x hx => ?_⟩
  refine ⟨fullLine x.1 0, { stillFrame 20 none with
      slots := Tab.fill 20 ⟨true, ⟨x.1, false, false, false, false, false, false⟩, silence⟩ }, 0, 0, fullLine_steady ..,
    rfl, ?_, ?_, ?_, ?_, ?_, ?_, ?_⟩ <;> fin_cases hx <;> decide +kernel

/-- A kept pod whose good slot reports a changed privacy switch, its seat held PRESENT by the Arbiter or not. -/
theorem test_meets_UpstreamFrameChecksSlots_privacy :
    ∀ p ∈ [Presence.present, .absent], ∃ (s : State) (f : UpFrame), s.Steady ∧ f.answer = none
      ∧ (s.room.podAt ⟨0, 0⟩).present = true ∧ seatAt s.room.map.running ⟨0, 0⟩ = some 0 ∧ (f.slots.get 0).passes = true
      ∧ (f.slots.get 0).status.privacy ≠ (s.room.podAt ⟨0, 0⟩).privacy ∧ (s.room.mseat 0).presence = p := by
  intro p hp
  refine ⟨onRoom fun r => { (fullLine .member 0).room with
      mute := { r.mute with seats := r.mute.seats.modify 0 fun x => { x with presence := p } } },
    { stillFrame 20 none with slots := Tab.fill 20 ⟨true, { stillRecord with privacy := true }, silence⟩ },
    steady_onRoom ⟨rfl, rfl, rfl⟩ rfl, rfl, ?_, ?_, ?_, ?_, ?_⟩ <;> fin_cases hp <;> decide +kernel

/-- The rooms in which the presses have each of their outcomes: what the clauses on a press ask of the room it finds. -/
theorem test_meets_presses :
    (∃ r : Room, (r.line 0).dark = true ∧ r.link.call = .standby)
    ∧ (∃ r : Room, (r.mseat 0).self = true ∧ (r.line 0).dark = false ∧ r.link.call = .idle)
    ∧ (∀ g ∈ [GateState.queued, .granted, .closed], ∃ r : Room, r.floor.settings.mode = .request ∧ (r.fseat 0).gate = g)
    ∧ (∃ r : Room, ¬ r.asksDirectly 0 ∧ r.floor.queue.length = 16)
    ∧ (∃ r : Room, r.asksDirectly 0 ∧ ((r.selfCleared 0).effOf 0).micMuted = false)
    ∧ (∃ r : Room, ¬ r.asksDirectly 0 ∧ r.floor.queue.length ≠ 16 ∧ ((r.selfCleared 0).effOf 0).micMuted = false)
    ∧ (∃ r : Room, (r.map.running.get 0).role = .chair ∧ (r.podAt ⟨0, 0⟩).kind = .chair
      ∧ r.mute.table = [⟨3, .chair 0, .members, .mic, none, 0⟩])
    ∧ (∃ r : Room, r.mute.table = [])
    ∧ (∃ r : Room, (∀ c ∈ r.mute.table, c.who = .room) ∧ ∀ i : Fin 48, ∃ c ∈ r.mute.table, c.number = i)
    ∧ (∃ r : Room, r.floor.settings.mode = .request ∧ r.floor.queue = [])
    ∧ (∃ r : Room, r.floor.settings.mode = .request ∧ r.floor.settings.limit = 1 ∧ r.floor.openList = [1]
      ∧ r.floor.queue = [0] ∧ (r.fseat 0).muted = false)
    ∧ (∃ r : Room, r.floor.settings.mode = .request ∧ r.floor.openList = [] ∧ r.floor.queue = [0]
      ∧ (r.fseat 0).muted = false)
    ∧ ∃ r : Room, (r.podAt ⟨0, 0⟩).kind = .chair ∧ (r.map.running.get 0).role = .member := by
  let r := State.reset.room
  let floor (gate : GateState) (auto muted : Bool) (opened queue : List Seat) : Room :=
    { r with
      floor := { r.floor with
        settings := { r.floor.settings with mode := .request, autoGrant := auto, limit := 1 }
        openList := opened, queue := queue, seats := r.floor.seats.set 0 { r.floor.seats.get 0 with gate := gate, muted := muted } }
      mute := { r.mute with seats := r.mute.seats.modify 0 fun x => { x with privacy := false, self := true } } }
  exact ⟨⟨{ r with lines := r.lines.map fun x => { x with dark := true }, link := { r.link with call := .standby } }, by
      decide +kernel⟩,
    ⟨{ r with mute := { r.mute with seats := r.mute.seats.modify 0 fun x => { x with self := true } } }, by
      decide +kernel⟩,
    fun g hg => ⟨floor g false false [] [], rfl, by fin_cases hg <;> rfl⟩,
    ⟨floor .closed false false [1] (List.replicate 16 2), by unfold Room.asksDirectly; decide +kernel, rfl⟩,
    ⟨floor .closed true false [] [], by unfold Room.asksDirectly; decide +kernel, by decide +kernel⟩,
    ⟨floor .closed false false [] [], by unfold Room.asksDirectly; decide +kernel, by decide +kernel, by decide +kernel⟩,
    ⟨{ r with
        map := { r.map with running := r.map.running.modify 0 fun e => { e with role := .chair } }
        lines := r.lines.modify 0 fun x => { x with pods := x.pods.modify 0 fun p => { p with kind := .chair } }
        mute := { r.mute with table := [⟨3, .chair 0, .members, .mic, none, 0⟩] } }, by decide +kernel, by decide +kernel,
      rfl⟩,
    ⟨r, rfl⟩,
    ⟨{ r with mute := { r.mute with table := (List.finRange 48).map fun i => { roomClaim i none with scope := .seat 0 } } },
      by decide +kernel, by decide +kernel⟩,
    ⟨floor .closed false false [] [], rfl, rfl⟩,
    ⟨floor .queued false false [1] [0], rfl, rfl, rfl, rfl, by decide +kernel⟩,
    ⟨floor .queued false false [] [0], rfl, rfl, rfl, by decide +kernel⟩,
    ⟨{ r with lines := r.lines.modify 0 fun x => { x with pods := x.pods.modify 0 fun p => { p with kind := .chair } } },
      by decide +kernel, by decide +kernel⟩⟩

theorem test_meets_UpstreamFrameAnswersScan :
    ∀ p ∈ [(0 : Pos), 19], ∃ (s : State) (f : UpFrame) (left : Nat) (a : EnumAnswer), s.Steady ∧ f.answer = some a
      ∧ a.passes = true ∧ a.pos = p ∧ (s.room.line 0).scan = some ⟨p, left⟩ ∧ (s.room.line 0).deaf p = false
      ∧ (s.room.podAt ⟨0, p⟩).present = false := by
  intro p hp
  refine ⟨onLine 0 fun x => { x with scan := some ⟨p, 20⟩ }, stillFrame 20 (some ⟨p, true, .chair, false⟩), 20,
    ⟨p, true, .chair, false⟩, steady_onRoom ⟨rfl, rfl, rfl⟩ rfl, rfl, rfl, rfl, rfl, ?_⟩
  fin_cases hp <;> decide +kernel

/-- The detector of a seat whose pod is found takes no level in the frame that finds it. -/
theorem test_found_seed :
    let t := after (.upstreamFrame 0 (stillFrame 20 (some ⟨0, true, .member, false⟩))) State.reset
    (t.room.det.get 0).seed = some 100 ∧ (t.room.det.get 0).seedLow = none ∧ (t.room.fseat 0).presence = .present := by
  decide +kernel

/-- A probe of position 20 in flight, with its answer, and the answers that are not heard: a check that fails, another
position, a rehearsal, no command in flight. -/
theorem test_meets_UpstreamFrameAnswersScan_probe :
    (∃ (s : State) (left : Nat), s.Steady ∧ (s.room.line 0).scan = none ∧ (s.room.line 0).probe = some ⟨19, left⟩
      ∧ (s.room.line 0).deaf 19 = false ∧ (s.room.podAt ⟨0, 19⟩).present = false ∧ (s.room.line 0).lstate ≠ .scanning)
    ∧ (∀ a ∈ [(⟨0, false, .member, false⟩ : EnumAnswer), ⟨1, true, .member, false⟩], ∀ p left,
        ((State.reset.room.line 0).scan = some ⟨p, left⟩
          ∨ (State.reset.room.line 0).scan = none ∧ (State.reset.room.line 0).probe = some ⟨p, left⟩) →
        a.passes = false ∨ a.pos ≠ p ∨ (State.reset.room.line 0).deaf p = true)
    ∧ (∃ s : State, (s.room.line 0).scan = none ∧ (s.room.line 0).probe = none)
    ∧ ∃ s : State, (s.room.line 0).scan = some ⟨19, 1⟩ ∧ (s.room.line 0).deaf 19 = true := by
  refine ⟨⟨onLine 0 fun x => { x with lstate := .up, scan := none, probe := some ⟨19, 1⟩ }, 1,
      steady_onRoom ⟨rfl, rfl, rfl⟩ rfl, rfl, rfl, rfl, by decide +kernel, by decide +kernel⟩, ?_,
    ⟨onLine 0 fun x => { x with scan := none }, rfl, rfl⟩,
    ⟨onLine 0 fun x => { x with scan := some ⟨19, 1⟩, rehearsal := some ⟨.brk, 19, 5⟩ }, rfl, rfl⟩⟩
  intro a ha p left h
  have hs : (State.reset.room.line 0).scan = some ⟨0, 20⟩ := rfl
  rcases h with h | h
  · rw [hs] at h
    cases h
    fin_cases ha <;> decide
  · rw [hs] at h
    exact absurd h.1 (by decide)

theorem test_meets_DetectSetAndTimers :
    (∃ s : State, s.Calm ∧ s.Steady ∧ (s.room.det.get 0).seed = none ∧ (s.room.det.get 0).rise = none)
    ∧ (3 ≤ (3 : Byte).toNat ∧ (30 : Byte).toNat ≤ 30 ∧ 10 ≤ (10 : Byte).toNat ∧ (200 : Byte).toNat ≤ 200
      ∧ 100 ≤ (100 : Pair).toNat ∧ (1000 : Pair).toNat ≤ 1000 ∧ (500 : Pair).toNat ≤ 500)
    ∧ (∃ (s : State) (left : Nat) (low : Int), s.Steady ∧ (s.room.det.get 0).seed = some left
      ∧ (s.room.det.get 0).seedLow = some low)
    ∧ (∃ (s : State) (left : Nat), s.Steady ∧ (s.room.det.get 0).seed = some left ∧ (s.room.det.get 0).seedLow = none)
    ∧ (∃ (s : State) (left : Nat), s.Steady ∧ (s.room.det.get 0).rise = some left ∧ (s.room.det.get 0).due = false)
    ∧ ∃ (s : State) (left : Nat), s.Steady ∧ (s.room.det.get 0).rise = some left
      ∧ (s.room.det.get 0).dstate = .rising ∧ (s.room.det.get 0).due = true :=
  ⟨⟨State.reset, reset_calm, reset_steady, rfl, rfl⟩, by decide,
    ⟨onDet 0 fun d => { d with seed := some 0, seedLow := some (-50) }, 0, -50, steady_onRoom ⟨rfl, rfl, rfl⟩ rfl, rfl, rfl⟩,
    ⟨onDet 0 fun d => { d with seed := some 0 }, 0, steady_onRoom ⟨rfl, rfl, rfl⟩ rfl, rfl, rfl⟩,
    ⟨onDet 0 fun d => { d with rise := some 0 }, 0, steady_onRoom ⟨rfl, rfl, rfl⟩ rfl, rfl, rfl⟩,
    ⟨onDet 0 fun d => { d with rise := some 0, dstate := .rising, due := true }, 0, steady_onRoom ⟨rfl, rfl, rfl⟩ rfl,
      rfl, rfl, rfl⟩⟩

/-- New settings that meet a detector before, at and past its times, and a seat whose spell of talking while muted ends. -/
theorem test_meets_DetectSetAndTimers_settings :
    (∀ x ∈ [(DetState.rising, 9, 0, none), (.rising, 10, 0, none), (.rising, 10, 0, some 1), (.falling, 0, 99, none),
        (.falling, 0, 100, none)],
      ∃ s : State, s.Calm ∧ (s.room.det.get 0).held = false ∧ (s.room.det.get 0).dstate = x.1
        ∧ (s.room.det.get 0).acc = x.2.1 ∧ (s.room.det.get 0).endTimer = x.2.2.1 ∧ (s.room.det.get 0).rise = x.2.2.2)
    ∧ (∃ s : State, s.Calm ∧ (s.room.det.get 0).held = false ∧ (s.room.det.get 0).dstate = .speech)
    ∧ (∃ s : State, s.Calm ∧ (s.room.mseat 0).spell = true ∧ s.room.placeOf 0 = some ⟨0, 0⟩
      ∧ (s.room.podAt ⟨0, 0⟩).present = true)
    ∧ ∃ s : State, s.Steady ∧ (s.room.mseat 0).spell = false ∧ (s.room.eff 0).micMuted = true
      ∧ s.room.placeOf 0 = some ⟨0, 0⟩ ∧ (s.room.podAt ⟨0, 0⟩).present = true := by
  refine ⟨fun x hx => ⟨onDet 0 fun d => { d with
        held := false, dstate := x.1, acc := x.2.1, endTimer := x.2.2.1, rise := x.2.2.2 },
      calm_onRoom ⟨rfl, rfl, rfl⟩ rfl, ?_⟩,
    ⟨onDet 0 fun d => { d with held := false, dstate := .speech }, calm_onRoom ⟨rfl, rfl, rfl⟩ rfl, by decide +kernel⟩,
    ⟨onRoom fun r => { (fullLine .member 0).room with
        mute := { r.mute with seats := r.mute.seats.modify 0 fun x => { x with spell := true } } },
      calm_onRoom ⟨rfl, rfl, rfl⟩ rfl, by decide +kernel⟩,
    ⟨fullLine .member 0, fullLine_steady .., by decide +kernel⟩⟩
  fin_cases hx <;> decide +kernel

/-- DETECT_SET for ALL that meets an onset alone, one behind a lower seat's onset, and one behind an end with the rise
blank at 0. -/
theorem test_meets_DetectSetAndTimers_all :
    ∀ x ∈ [(DetState.silent, 120), (.rising, 120), (.falling, 0)],
      ∃ s : State, s.Calm ∧ (s.room.det.get 0).held = false ∧ (s.room.det.get 0).dstate = x.1
        ∧ (s.room.det.get 1).held = false ∧ (s.room.det.get 1).dstate = .rising ∧ (s.room.det.get 1).acc = 10
        ∧ (s.room.det.get 1).rise = none ∧ (s.room.det.get 1).settings.riseBlank = x.2
        ∧ (x.1 = .silent → ∀ m : Seat, m < 1 → (s.room.det.get m).dstate = .silent) := by
  intro x hx
  refine ⟨onRoom fun r => { r with det := (r.det.modify 0 fun d => { d with
      held := false, dstate := x.1, acc := 10, endTimer := 100 }).modify 1 fun d => { d with
      held := false, dstate := .rising, acc := 10, settings := { d.settings with riseBlank := x.2 } } },
    calm_onRoom ⟨rfl, rfl, rfl⟩ rfl, ?_⟩
  fin_cases hx <;> decide +kernel

theorem test_meets_SpeechDecisionTable :
    (∃ d : Detector, d.dstate = .silent) ∧ (∃ d : Detector, d.dstate = .speech)
    ∧ (∃ d : Detector, d.dstate = .rising ∧ d.acc + 1 < d.settings.onsetTime)
    ∧ (∃ d : Detector, d.dstate = .rising ∧ d.acc < d.settings.onsetTime ∧ d.acc + 1 = d.settings.onsetTime ∧ d.rise = none)
    ∧ (∃ (d : Detector) (left : Nat), d.dstate = .rising ∧ d.acc < d.settings.onsetTime
      ∧ d.acc + 1 = d.settings.onsetTime ∧ d.rise = some left)
    ∧ (∃ d : Detector, d.dstate = .falling ∧ d.endTimer + 1 < d.settings.endTime)
    ∧ (∃ d : Detector, d.dstate = .falling ∧ d.settings.endTime ≤ d.endTimer + 1)
    ∧ (∃ (d : Detector) (left : Nat), d.dstate = .rising ∧ d.rise = some left ∧ d.acc = d.settings.onsetTime ∧ d.due = true)
    ∧ (∃ (d : Detector) (left : Nat), d.dstate = .rising ∧ d.rise = some left ∧ d.due = false)
    ∧ ∃ (d : Detector) (left : Nat), d.dstate ≠ .rising ∧ d.rise = some left := by
  let d := State.reset.room.det.get 0
  exact ⟨⟨d, rfl⟩, ⟨{ d with dstate := .speech }, rfl⟩, ⟨{ d with dstate := .rising }, rfl, by decide +kernel⟩,
    ⟨{ d with dstate := .rising, acc := 39 }, rfl, by decide +kernel, rfl, rfl⟩,
    ⟨{ d with dstate := .rising, acc := 39, rise := some 1 }, 1, rfl, by decide +kernel, rfl, rfl⟩,
    ⟨{ d with dstate := .falling }, rfl, by decide +kernel⟩,
    ⟨{ d with dstate := .falling, endTimer := 249 }, rfl, by decide +kernel⟩,
    ⟨{ d with dstate := .rising, rise := some 1, acc := 40, due := true }, 1, rfl, rfl, rfl, rfl⟩,
    ⟨{ d with dstate := .rising, rise := some 1 }, 1, rfl, rfl, rfl⟩,
    ⟨{ d with rise := some 1 }, 1, by decide +kernel, rfl⟩⟩

/-- A seat served by a pod of line 1, its detector running: seeding, guarded and free to move, with a loud frame and a
silent one; and the sums of squares at which the level leaves -100.0 dB and reaches +20.0 dB. -/
theorem test_meets_SpeechDecisionTable_levels :
    (∀ x ∈ [(some 100, none), (none, some 5), (none, none)],
      ∃ (s : State) (f : UpFrame), s.Steady ∧ f.answer = none ∧ s.room.placeOf 0 = some ⟨0, 0⟩
        ∧ (s.room.det.get 0).held = false ∧ (s.room.podAt ⟨0, 0⟩).present = true
        ∧ (s.room.det.get 0).seed = x.1 ∧ (s.room.det.get 0).fall = x.2 ∧ (f.slots.get 0).passes = true)
    ∧ (∀ total ∈ [479], total < 480) ∧ (∀ total ∈ [480, 480 * 10 ^ 12 - 1], 480 ≤ total ∧ total < 480 * 10 ^ 12)
    ∧ ∃ d : Detector, ((480 * 10 ^ 12 :: d.energies).take 10).sum = 480 * 10 ^ 12 := by
  refine ⟨fun x hx => ⟨onRoom fun r => { (fullLine .member 0).room with
        det := r.det.modify 0 fun d => { d with held := false, seed := x.1, fall := x.2 } },
      stillFrame 20 none, steady_onRoom ⟨rfl, rfl, rfl⟩ rfl, rfl, ?_, ?_, ?_, ?_, ?_, ?_⟩, by decide, by decide,
    ⟨{ State.reset.room.det.get 0 with energies := [] }, by decide⟩⟩ <;> fin_cases hx <;> decide +kernel

/-- A frame that loses no pod, and one whose bad slot loses the pod of position 1. -/
theorem test_meets_SpeechDecisionTable_frames :
    (∃ (s : State) (f : UpFrame), s.Steady
      ∧ ∀ p, ((s.room.hearFrame 0 f).podAt ⟨0, p⟩).present = (s.room.podAt ⟨0, p⟩).present)
    ∧ ∃ (s : State) (f : UpFrame), s.Steady ∧ (s.room.podAt ⟨0, 0⟩).present = true
      ∧ ((s.room.hearFrame 0 f).podAt ⟨0, 0⟩).present = false :=
  ⟨⟨fullLine .member 0, stillFrame 20 none, fullLine_steady .., by decide +kernel⟩,
    ⟨fullLine .member 7, { stillFrame 20 none with
      slots := (stillFrame 20 none).slots.set 0 ⟨false, stillRecord, silence⟩ }, fullLine_steady .., by decide +kernel⟩⟩

/-- A bus at off and one above it, a locked link with a rate, a tone playing, and samples on both sides of silence. -/
theorem test_meets_SpeechDecisionTable_buses :
    (∃ r : Room, r.mix.busNow (.loud 0) = .off) ∧ (∃ r : Room, r.mix.busNow (.loud 0) ≠ .off)
    ∧ (∃ r : Room, (r.linkRec 0).locked = true ∧ (r.linkRec 0).rate = some 48000)
    ∧ (∃ r : Room, r.mix.players.get 0 = some ⟨.held, 10⟩) ∧ State.reset.room.mix.players.get 0 = none := by
  let r := State.reset.room
  exact ⟨⟨{ r with mix := { r.mix with speakerMute := Tab.fill 40 ⟨.off, none⟩ } }, by decide +kernel⟩,
    ⟨{ r with mix := { r.mix with speakerMute := Tab.fill 40 ⟨.db 0, none⟩ } }, by decide +kernel⟩,
    ⟨(atLink 0 .live fun x => { x with locked := true, rate := some 48000 }).room, by decide +kernel, by decide +kernel⟩,
    ⟨{ r with mix := { r.mix with players := r.mix.players.set 0 (some ⟨.held, 10⟩) } }, by decide +kernel⟩, rfl⟩

/-- The factors of 20 dB, of -20 dB, of 6.020 and of 0.5 dB, the last two to the four digits that matter. -/
theorem test_gain_factors :
    gainFactor 20000 = (10 ^ 73, 10 ^ 72) ∧ gainFactor (-20000) = (10 ^ 72, 10 ^ 73)
    ∧ (gainFactor 6020).1 * 1000 / (gainFactor 6020).2 = 1999 ∧ (gainFactor 500).1 * 10000 / (gainFactor 500).2 = 10592 := by
  decide +kernel

/-! ### Mutes -/

theorem test_meets_MutePlacePlacesClaim :
    hostClaimant 5 1 = some (.far 0) ∧ hostClaimant 3 0 = some .room ∧ scopeOf 1 40 = some (.seat 39)
    ∧ scopeOf 4 0 = some .everyone ∧ dirOf 1 = some .mic ∧ permitted (.far 0) (.seat 39) .mic = true
    ∧ permitted .room .everyone .mic = true ∧ (3600 : Pair).toNat ≤ 3600
    ∧ (∃ s : State, s.Calm ∧ s.room.mute.linkIdle.get 0 = true ∧ s.room.mute.table = [])
    ∧ (∃ s : State, s.Calm ∧ s.room.mute.linkIdle.get 0 = false)
    ∧ (∃ (s : State) (c : Claim), s.Calm
      ∧ s.room.mute.table.find? (fun c => c.who = .room ∧ c.scope = .everyone ∧ c.dir = .mic) = some c)
    ∧ (∃ s : State, s.Calm
      ∧ (∀ c ∈ s.room.mute.table, ¬ (c.who = .room ∧ c.scope = .everyone ∧ c.dir = .mic))
      ∧ ∀ i : Fin 48, ∃ c ∈ s.room.mute.table, c.number = i)
    ∧ ∃ (s : State) (i : Fin 48), s.Calm ∧ i = 1
      ∧ (∀ c ∈ s.room.mute.table, ¬ (c.who = .room ∧ c.scope = .everyone ∧ c.dir = .mic))
      ∧ (∀ c ∈ s.room.mute.table, c.number ≠ i) ∧ ∀ j : Fin 48, j < i → ∃ c ∈ s.room.mute.table, c.number = j :=
  ⟨by decide, by decide, by decide, by decide, by decide, by decide, by decide, by simp,
    ⟨State.reset, reset_calm, rfl, rfl⟩,
    ⟨onMute fun m => { m with linkIdle := Tab.fill 4 false }, calm_onRoom ⟨rfl, rfl, rfl⟩ rfl, rfl⟩,
    ⟨onMute fun m => { m with table := [roomClaim 47 none] }, roomClaim 47 none, calm_onRoom ⟨rfl, rfl, rfl⟩ rfl, by
      decide +kernel⟩,
    ⟨onMute fun m => { m with table := (List.finRange 48).map fun i => { roomClaim i none with scope := .members } },
      calm_onRoom ⟨rfl, rfl, rfl⟩ rfl, by decide +kernel, by decide +kernel⟩,
    ⟨onMute fun m => { m with table := [{ roomClaim 0 none with scope := .members }] }, 1,
      calm_onRoom ⟨rfl, rfl, rfl⟩ rfl, rfl, by decide +kernel, by decide +kernel, by decide +kernel⟩⟩

/-- A chair's claim on the members. -/
def chairClaim : Claim := ⟨47, .chair 0, .members, .mic, none, 0⟩

theorem test_meets_MuteLiftLiftsClaim :
    (∃ s : State, s.Calm ∧ s.room.mute.table.find? (fun c => decide (c.number.val = (47 : Byte).toNat)) = none)
    ∧ (∃ s : State, s.Calm ∧ hostClaimant 3 0 = some .room ∧ boolOf 1 = some true ∧ claimantOf 4 1 = some (.chair 0)
      ∧ scopeOf 3 0 = some .members ∧ dirOf 1 = some .mic
      ∧ ((∃ k, Scope.members = .link k) ↔ Dir.mic = .send ∨ Dir.mic = .ret)
      ∧ s.room.mute.table.find? (fun c => decide (c.number.val = (47 : Byte).toNat)) = some chairClaim
      ∧ s.room.mute.table.find? (fun x => decide (x.who = .chair 0 ∧ x.scope = .members ∧ x.dir = .mic)) = some chairClaim
      ∧ chairClaim.who.rank < Claimant.rank .room)
    ∧ (hostClaimant 5 4 = some (.far 3) ∧ boolOf 0 = some false
      ∧ ¬ (Claimant.far 3 = chairClaim.who ∨ true = true ∧ chairClaim.who.rank < Claimant.rank (.far 3)))
    ∧ Claimant.room = (roomClaim 0 none).who :=
  ⟨⟨State.reset, reset_calm, by decide +kernel⟩,
    ⟨onMute fun m => { m with table := [chairClaim] }, calm_onRoom ⟨rfl, rfl, rfl⟩ rfl, by decide, by decide, by decide,
      by decide, by decide, by simp, by decide +kernel, by decide +kernel, by decide⟩, by decide, rfl⟩

theorem test_meets_ClaimExpiryRemovesClaim :
    (∃ s : State, s.Steady ∧ s.room.mute.table.find? (fun c => decide (c.number = 47) && c.expiry.isSome) = none)
    ∧ ∃ (s : State) (c : Claim), s.Steady
      ∧ s.room.mute.table.find? (fun c => decide (c.number = 47) && c.expiry.isSome) = some c :=
  ⟨⟨onMute fun m => { m with table := [roomClaim 47 none] }, steady_onRoom ⟨rfl, rfl, rfl⟩ rfl, by decide +kernel⟩,
    ⟨onMute fun m => { m with table := [roomClaim 47 (some 0)] }, roomClaim 47 (some 0),
      steady_onRoom ⟨rfl, rfl, rfl⟩ rfl, by decide +kernel⟩⟩

/-- The state after reset with one claim standing and seat 1's flags changed. -/
def flagged (c : List Claim) (f : MuteSeat → MuteSeat) : State :=
  onMute fun m => { m with table := c, seats := m.seats.modify 0 f }

theorem test_meets_AuthorityOrder :
    (∃ s : State, (s.room.mute.seats.get 0).privacy = true)
    ∧ (∃ s : State, (s.room.mute.seats.get 0).privacy = false
      ∧ s.room.mute.table.map (fun k => (k.who.cls, k.dir, k.scope)) = [(.room, .mic, .everyone)])
    ∧ (∃ s : State, (s.room.mute.seats.get 0).privacy = false
      ∧ s.room.mute.table.map (fun k => (k.who.cls, k.dir, k.scope)) = [(.chair, .mic, .everyone)])
    ∧ (∃ s : State, (s.room.mute.seats.get 0).privacy = false
      ∧ s.room.mute.table.map (fun k => (k.who.cls, k.dir, k.scope)) = [(.far, .mic, .seat 0)])
    ∧ (∃ s : State, (s.room.mute.seats.get 0).privacy = false ∧ (s.room.mute.seats.get 0).feedback = false
      ∧ s.room.mute.table = [])
    ∧ (∃ s : State, (s.room.mute.seats.get 0).feedback = true)
    ∧ ∃ s : State, (s.room.mute.seats.get 0).feedback = false
      ∧ s.room.mute.table.map (fun k => (k.who.cls, k.dir, k.scope)) = [(.room, .speaker, .everyone)] := by
  let off : MuteSeat → MuteSeat := fun x => { x with privacy := false }
  exact ⟨⟨State.reset, rfl⟩, ⟨flagged [roomClaim 0 none] off, by decide +kernel, rfl⟩,
    ⟨flagged [{ roomClaim 0 none with who := .chair 0 }] off, by decide +kernel, rfl⟩,
    ⟨flagged [{ roomClaim 0 none with who := .far 0, scope := .seat 0 }] off, by decide +kernel, rfl⟩,
    ⟨flagged [] off, by decide +kernel, by decide +kernel, rfl⟩, ⟨flagged [] fun x => { x with feedback := true }, by decide +kernel⟩,
    ⟨flagged [{ roomClaim 0 none with dir := .speaker }] off, by decide +kernel, rfl⟩⟩

/-! ### The floor -/

theorem test_meets_FloorSetTakesSettings :
    (∃ s : State, s.Calm ∧ s.room.floor.HoldSound) ∧ floorModeOf 2 = some .request ∧ boolOf 1 = some true
    ∧ (1 ≤ (1 : Byte).toNat ∧ (6 : Byte).toNat ≤ 6 ∧ 100 ≤ (100 : Pair).toNat ∧ (5000 : Pair).toNat ≤ 5000
      ∧ (5000 : Pair).toNat % 50 = 0 ∧ (0 : Pair).toNat = 0 ∧ 10 ≤ (10 : Pair).toNat ∧ (600 : Pair).toNat ≤ 600
      ∧ 5 ≤ (5 : Byte).toNat ∧ (50 : Byte).toNat ≤ 50 ∧ 50 ≤ (50 : Pair).toNat ∧ (1000 : Pair).toNat ≤ 1000) :=
  ⟨⟨State.reset, reset_calm, holdSound_of (by decide +kernel)⟩, by decide, by decide, by simp⟩

/-- The floors that the clauses on a changed setting find: a room AUTO with an open seat beyond the limit, REQUEST with
granted seats beyond it and a full queue, and a kept seat; lists that name no CLOSED seat. -/
theorem test_meets_FloorSetTakesSettings_effects :
    (∃ s : State, s.Calm ∧ s.room.floor.HoldSound ∧ s.room.floor.settings.mode = .auto ∧ 1 < s.room.floor.settings.limit
      ∧ s.room.floor.openList = [0, 1] ∧ s.room.floor.openList.Nodup
      ∧ (∀ n ∈ s.room.floor.openList, (s.room.floor.seats.get n).gate = .opened ∨ (s.room.floor.seats.get n).gate = .hold)
      ∧ (∀ n, n ∈ s.room.floor.openList ++ s.room.floor.waitList ++ s.room.floor.queue →
        (s.room.floor.seats.get n).gate ≠ .closed)
      ∧ s.room.floor.standby = false)
    ∧ (∃ s : State, s.Calm ∧ s.room.floor.HoldSound ∧ s.room.floor.settings.mode = .request
      ∧ 1 < s.room.floor.settings.limit ∧ s.room.floor.openList = [0, 1] ∧ (s.room.floor.openList ++ s.room.floor.queue).Nodup
      ∧ s.room.floor.queue.length = 16 ∧ (∀ n ∈ s.room.floor.openList, (s.room.floor.seats.get n).gate = .granted)
      ∧ s.room.floor.openList.drop 1 ≠ [])
    ∧ (∃ s : State, s.Calm ∧ s.room.floor.HoldSound ∧ s.room.floor.settings.lastMic = true
      ∧ (s.room.floor.seats.get 0).kept = true ∧ (s.room.floor.seats.get 0).gate = .hold)
    ∧ ∃ s : State, s.Calm ∧ s.room.floor.HoldSound ∧ (s.room.floor.seats.get 0).gate = .granted ∧ (s.room.floor.seats.get 0).kept = false
      ∧ (0 : Seat) ∉ s.room.floor.waitList ∧ (0 : Seat) ∉ s.room.floor.queue
      ∧ (s.room.floor.seats.get 0).speaking = false ∧ s.room.floor.settings.idle ≠ 10 := by
  let floor (mode : FloorMode) (g : GateState) (kept : Bool) (queue : List Seat) : State :=
    onFloor fun f => { f with
      settings := { f.settings with mode := mode, limit := 2, lastMic := true, idle := 0 }
      openList := [0, 1], queue := queue
      seats := f.seats.map fun x => { x with gate := g, kept := kept } }
  exact ⟨⟨floor .auto .opened false [], calm_onRoom ⟨rfl, rfl, rfl⟩ rfl, holdSound_of (by decide +kernel), rfl, by
      decide +kernel⟩,
    ⟨floor .request .granted false ((List.finRange 16).map fun i => ⟨i.val + 2, by omega⟩), calm_onRoom ⟨rfl, rfl, rfl⟩ rfl,
      holdSound_of (by decide +kernel), rfl, by decide +kernel⟩,
    ⟨floor .auto .hold true [], calm_onRoom ⟨rfl, rfl, rfl⟩ rfl, holdSound_of (by decide +kernel), rfl, by decide +kernel⟩,
    ⟨floor .request .granted false [], calm_onRoom ⟨rfl, rfl, rfl⟩ rfl, holdSound_of (by decide +kernel), by
      decide +kernel⟩⟩

/-- A mode change to AUTO that finds all forty seats speaking, and one that finds a WAITING and a QUEUED seat. -/
theorem test_meets_FloorSetTakesSettings_modes :
    (∃ s : State, s.Calm ∧ s.room.floor.HoldSound ∧ s.room.floor.settings.mode = .opened
      ∧ s.room.floor.openList ++ s.room.floor.waitList ++ s.room.floor.queue = [] ∧ s.room.floor.standby = false
      ∧ ∀ n, (s.room.floor.seats.get n).presence = .present ∧ (s.room.floor.seats.get n).muted = false
        ∧ (s.room.floor.seats.get n).speaking = true)
    ∧ ∀ x ∈ [(FloorMode.auto, GateState.waiting), (.request, .queued)], ∃ s : State, s.Calm ∧ s.room.floor.HoldSound
      ∧ s.room.floor.settings.mode = x.1 ∧ (s.room.floor.seats.get 0).gate = x.2
      ∧ ∀ n, n ∈ s.room.floor.openList ++ s.room.floor.waitList ++ s.room.floor.queue →
        (s.room.floor.seats.get n).gate ≠ .closed := by
  refine ⟨⟨onFloor fun f => { f with
      settings := { f.settings with mode := .opened }
      seats := f.seats.map fun x => { x with presence := .present, muted := false, speaking := true, gate := .opened } },
      calm_onRoom ⟨rfl, rfl, rfl⟩ rfl, holdSound_of (by decide +kernel), rfl, rfl, rfl, by decide +kernel⟩, fun x hx => ?_⟩
  refine ⟨onFloor fun f => { f with
      settings := { f.settings with mode := x.1 }
      waitList := if x.2 = .waiting then [0] else [], queue := if x.2 = .waiting then [] else [0]
      seats := f.seats.modify 0 fun y => { y with gate := x.2 } },
    calm_onRoom ⟨rfl, rfl, rfl⟩ rfl, holdSound_of ?_, rfl, ?_, ?_⟩ <;> fin_cases hx <;> decide +kernel

/-- The floor in REQUEST mode with an open limit of 1, its lists as given and the gate of seat 1 as given. -/
def requestFloor (opened queue : List Seat) (g : GateState) (muted : Bool) : State :=
  onFloor fun f =>
    { f with
      settings := { f.settings with mode := .request, limit := 1, chairFree := false }
      openList := opened
      queue := queue
      seats := (f.seats.modify 0 fun x => { x with gate := g, muted := muted }).modify 1 fun x =>
        { x with gate := .granted } }

theorem requestFloor_calm (opened queue : List Seat) (g : GateState) (muted : Bool) :
    (requestFloor opened queue g muted).Calm := calm_onRoom ⟨rfl, rfl, rfl⟩ rfl

theorem test_meets_FloorGrantGrants :
    (∃ s : State, s.Calm ∧ s.room.floor.settings.mode ≠ .request)
    ∧ (∃ s : State, s.Calm ∧ s.room.floor.settings.mode = .request ∧ s.room.floor.standby = false
      ∧ (s.room.floor.seats.get 0).gate ≠ .granted ∧ (s.room.floor.seats.get 0).muted = true)
    ∧ (∃ s : State, s.Calm ∧ s.room.floor.settings.mode = .request ∧ s.room.floor.standby = false
      ∧ (s.room.floor.seats.get 0).gate ≠ .granted ∧ (s.room.floor.seats.get 0).muted = false
      ∧ s.room.floor.openList.length < s.room.floor.settings.limit)
    ∧ ∃ (s : State) (m : Seat), s.Calm ∧ s.room.floor.settings.mode = .request ∧ s.room.floor.standby = false
      ∧ (s.room.floor.seats.get 0).gate ≠ .granted ∧ (s.room.floor.seats.get 0).muted = false
      ∧ ¬ (s.room.chairFree 0 = true ∨ s.room.floor.openList.length < s.room.floor.settings.limit)
      ∧ s.room.floor.openList.find? (fun m =>
        decide ((s.room.map.running.get m).role = .member ∧ (s.room.floor.seats.get m).gate = .granted)) = some m :=
  ⟨⟨State.reset, reset_calm, by decide +kernel⟩,
    ⟨requestFloor [] [] .closed true, requestFloor_calm .., rfl, rfl, by decide +kernel, by decide +kernel⟩,
    ⟨requestFloor [] [] .queued false, requestFloor_calm .., rfl, rfl, by decide +kernel, by decide +kernel, by
      decide +kernel⟩,
    ⟨requestFloor [1] [] .closed false, 1, requestFloor_calm .., rfl, rfl, by decide +kernel, by decide +kernel, by
      decide +kernel, by decide +kernel⟩⟩

/-- Whether a seat would be granted directly, as the statement on FLOOR_QUEUE has it. -/
def direct (s : State) (n : Seat) : Bool :=
  s.room.chairFree n || (s.room.floor.settings.autoGrant
    && decide (s.room.floor.openList.length < s.room.floor.settings.limit)
    && s.room.floor.queue.all fun m => (s.room.floor.seats.get m).muted)

theorem test_meets_FloorQueueAsks :
    (∃ s : State, s.Calm ∧ s.room.floor.settings.mode = .request ∧ (s.room.floor.seats.get 0).gate = .granted)
    ∧ (∃ s : State, s.Calm ∧ s.room.floor.settings.mode = .request ∧ (s.room.floor.seats.get 0).gate = .closed
      ∧ direct s 0 = false ∧ s.room.floor.queue.length = 16)
    ∧ (∃ s : State, s.Calm ∧ s.room.floor.settings.mode = .request ∧ (s.room.floor.seats.get 0).gate = .closed
      ∧ s.room.floor.queue.length ≠ 16
      ∧ ((s.room.setMuteSeat 0 fun y => { y with self := false }).effOf 0).micMuted = true)
    ∧ (∃ s : State, s.Calm ∧ s.room.floor.settings.mode = .request ∧ (s.room.floor.seats.get 0).gate = .closed
      ∧ direct s 0 = true ∧ ((s.room.setMuteSeat 0 fun y => { y with self := false }).effOf 0).micMuted = false)
    ∧ ∃ s : State, s.Calm ∧ s.room.floor.settings.mode = .request ∧ (s.room.floor.seats.get 0).gate = .closed
      ∧ direct s 0 = false ∧ s.room.floor.queue.length ≠ 16
      ∧ ((s.room.setMuteSeat 0 fun y => { y with self := false }).effOf 0).micMuted = false := by
  let free (auto : Bool) : State := onRoom fun r =>
    { r with
      floor := { r.floor with settings := { r.floor.settings with mode := .request, autoGrant := auto } }
      mute := { r.mute with seats := r.mute.seats.modify 0 fun x => { x with privacy := false, self := true } } }
  exact ⟨⟨requestFloor [] [] .granted false, requestFloor_calm .., rfl, by decide +kernel⟩,
    ⟨requestFloor [] (List.replicate 16 1) .closed false, requestFloor_calm .., rfl, by decide +kernel, by decide +kernel,
      rfl⟩,
    ⟨requestFloor [] [] .closed false, requestFloor_calm .., rfl, by decide +kernel, by decide +kernel, by
      decide +kernel⟩,
    ⟨free true, calm_onRoom ⟨rfl, rfl, rfl⟩ rfl, rfl, by decide +kernel, by decide +kernel, by decide +kernel⟩,
    ⟨free false, calm_onRoom ⟨rfl, rfl, rfl⟩ rfl, rfl, by decide +kernel, by decide +kernel, by decide +kernel, by
      decide +kernel⟩⟩

theorem test_meets_FloorDropAndClearClose :
    (∃ s : State, s.Calm ∧ (s.room.floor.seats.get 0).gate = .closed)
    ∧ (∃ s : State, s.Calm ∧ s.room.floor.settings.mode ≠ .opened ∧ (s.room.floor.seats.get 0).gate = .queued)
    ∧ (∃ s : State, s.Calm ∧ s.room.floor.standby = true)
    ∧ (∃ s : State, s.Calm ∧ s.room.floor.standby = false ∧ s.room.floor.settings.mode = .auto
      ∧ ∀ n ∈ s.room.floor.waitList, (s.room.floor.seats.get n).gate = .waiting)
    ∧ ∃ s : State, s.Calm ∧ s.room.floor.standby = false ∧ s.room.floor.settings.mode = .request
      ∧ s.room.floor.queue ≠ [] ∧ ∀ n ∈ s.room.floor.queue, (s.room.floor.seats.get n).gate = .queued :=
  ⟨⟨State.reset, reset_calm, rfl⟩,
    ⟨requestFloor [] [0] .queued false, requestFloor_calm .., by decide +kernel, by decide +kernel⟩,
    ⟨onFloor fun f => { f with standby := true }, calm_onRoom ⟨rfl, rfl, rfl⟩ rfl, rfl⟩,
    ⟨State.reset, reset_calm, rfl, rfl, by decide +kernel⟩,
    ⟨requestFloor [] [0] .queued false, requestFloor_calm .., rfl, rfl, by decide +kernel, by decide +kernel⟩⟩

/-- Seat 1 with a gate and a timer, alone in the Open List. -/
def timed (mode : FloorMode) (last : Bool) (g : GateState) (t : SeatTimer) : State :=
  onFloor fun f =>
    { f with
      settings := { f.settings with mode := mode, lastMic := last }
      openList := [0]
      seats := f.seats.modify 0 fun x => { x with gate := g, timer := t } }

theorem test_meets_FloorTimersExpire :
    (∃ s : State, s.Steady ∧ (∀ left, (s.room.floor.seats.get 0).timer ≠ .hold left)
      ∧ ∀ left, (s.room.floor.seats.get 0).timer ≠ .idle left)
    ∧ (∃ (s : State) (left : Nat), s.Steady ∧ (s.room.floor.seats.get 0).timer = .hold left
      ∧ (s.room.floor.seats.get 0).gate = .hold ∧ s.room.floor.settings.mode = .auto
      ∧ s.room.floor.settings.lastMic = true ∧ s.room.floor.openList = [0] ∧ s.room.floor.waitList = [])
    ∧ (∃ (s : State) (left : Nat), s.Steady ∧ (s.room.floor.seats.get 0).timer = .hold left
      ∧ (s.room.floor.seats.get 0).gate = .hold ∧ s.room.floor.settings.lastMic = false)
    ∧ ∃ (s : State) (left : Nat), s.Steady ∧ (s.room.floor.seats.get 0).timer = .idle left
      ∧ (s.room.floor.seats.get 0).gate = .granted :=
  ⟨⟨State.reset, reset_steady, fun _ => by
      simp [State.reset, Room.started, Room.afterReset, Floor.afterReset], fun _ => by
      simp [State.reset, Room.started, Room.afterReset, Floor.afterReset]⟩,
    ⟨timed .auto true .hold (.hold 0), 0, steady_onRoom ⟨rfl, rfl, rfl⟩ rfl, by decide +kernel, by decide +kernel, rfl,
      rfl, rfl, rfl⟩,
    ⟨timed .auto false .hold (.hold 0), 0, steady_onRoom ⟨rfl, rfl, rfl⟩ rfl, by decide +kernel, by decide +kernel, rfl⟩,
    ⟨timed .request false .granted (.idle 0), 0, steady_onRoom ⟨rfl, rfl, rfl⟩ rfl, by decide +kernel, by
      decide +kernel⟩⟩

/-- The rooms in which the end of a rise blank brings a seat to each of its places on the floor. -/
theorem test_meets_FloorTimersExpire_onset :
    ∀ x ∈ [(FloorMode.auto, GateState.closed, false, false, GateState.opened, 2, 0), (.auto, .closed, false, false, .opened, 1, 0),
        (.auto, .closed, false, false, .opened, 1, 8), (.auto, .closed, false, false, .hold, 1, 0),
        (.auto, .closed, true, false, .opened, 1, 0), (.auto, .closed, false, true, .hold, 1, 0),
        (.auto, .hold, false, false, .opened, 2, 0), (.request, .granted, false, false, .granted, 2, 0)],
      ∃ s : State, s.Steady ∧ (s.room.det.get 0).rise = some 0 ∧ (s.room.det.get 0).dstate = .rising
        ∧ (s.room.det.get 0).due = true ∧ (s.room.floor.seats.get 0).presence = .present
        ∧ (s.room.floor.seats.get 0).muted = false ∧ s.room.floor.standby = false
        ∧ s.room.floor.settings.mode = x.1 ∧ (s.room.floor.seats.get 0).gate = x.2.1 ∧ s.room.chairFree 0 = x.2.2.1
        ∧ (s.room.floor.seats.get 1).kept = x.2.2.2.1 ∧ (s.room.floor.seats.get 1).gate = x.2.2.2.2.1
        ∧ s.room.floor.openList = [1] ∧ s.room.floor.settings.limit = x.2.2.2.2.2.1
        ∧ s.room.floor.waitList.length = x.2.2.2.2.2.2 ∧ (0 : Seat) ∉ s.room.floor.waitList := by
  intro x hx
  refine ⟨onRoom fun r => { r with
    map := { r.map with running := r.map.running.modify 0 fun e => { e with role := if x.2.2.1 then .chair else .member } }
    det := r.det.modify 0 fun d => { d with rise := some 0, dstate := .rising, due := true }
    floor := { r.floor with
      settings := { r.floor.settings with mode := x.1, limit := x.2.2.2.2.2.1, chairFree := true }
      openList := [1], waitList := List.replicate x.2.2.2.2.2.2 2
      seats := (r.floor.seats.modify 0 fun y => { y with presence := .present, muted := false, gate := x.2.1 }).modify 1
        fun y => { y with kept := x.2.2.2.1, gate := x.2.2.2.2.1 } } }, steady_onRoom ⟨rfl, rfl, rfl⟩ rfl, ?_⟩
  fin_cases hx <;> decide +kernel

/-- The floors that an end, reported as a shorter end time is set, finds. -/
theorem test_meets_FloorTimersExpire_end :
    ∀ x ∈ [(FloorMode.auto, GateState.opened), (.auto, .waiting), (.auto, .closed), (.request, .granted), (.opened, .opened)],
      ∃ s : State, s.Calm ∧ (s.room.det.get 0).held = false ∧ (s.room.det.get 0).dstate = .falling
        ∧ (100 : Pair).toNat ≤ (s.room.det.get 0).endTimer ∧ (s.room.floor.seats.get 0).presence = .present
        ∧ (s.room.floor.seats.get 0).muted = false ∧ s.room.floor.standby = false ∧ s.room.floor.settings.mode = x.1
        ∧ (s.room.floor.seats.get 0).gate = x.2 ∧ (0 : Seat) ∉ s.room.floor.waitList ∧ s.room.link.call = .idle := by
  intro x hx
  refine ⟨onRoom fun r => { r with
    det := r.det.modify 0 fun d => { d with held := false, dstate := .falling, endTimer := 100 }
    floor := { r.floor with
      settings := { r.floor.settings with mode := x.1 }
      seats := r.floor.seats.modify 0 fun y => { y with presence := .present, muted := false, gate := x.2 } } },
    calm_onRoom ⟨rfl, rfl, rfl⟩ rfl, ?_⟩
  fin_cases hx <;> decide +kernel

/-- A hold timer that ends while a seat waits and the limit is reached. -/
theorem test_meets_FloorTimersExpire_admits :
    ∃ s : State, s.Steady ∧ (s.room.floor.seats.get 0).timer = .hold 0 ∧ (s.room.floor.seats.get 0).gate = .hold
      ∧ s.room.floor.settings.mode = .auto ∧ s.room.floor.standby = false ∧ s.room.floor.waitList = [1]
      ∧ (s.room.floor.openList.filter (· ≠ 0)).length < s.room.floor.settings.limit
      ∧ (s.room.floor.seats.get 1).gate = .waiting ∧ s.room.chairFree 1 = false :=
  ⟨onFloor fun f => { f with
      settings := { f.settings with mode := .auto, limit := 1 }, openList := [0], waitList := [1]
      seats := (f.seats.modify 0 fun x => { x with gate := .hold, timer := .hold 0 }).modify 1 fun x =>
        { x with gate := .waiting } },
    steady_onRoom ⟨rfl, rfl, rfl⟩ rfl, by decide +kernel⟩

/-! ### The mix -/

theorem test_meets_MixSetChangesSetting :
    (∃ s : State, s.Free) ∧ (2000 : Pair).toNat ≤ 2000
    ∧ (∃ i : Fin 46, (46 : Byte).toNat = i.val + 1 ∧ -60 ≤ (196 : Byte).toInt ∧ (24 : Byte).toInt ≤ 24)
    ∧ offLevelOf (-80) 0 128 = some none ∧ offLevelOf (-80) 0 176 = some (some (-80)) ∧ offLevelOf (-80) 0 0 = some (some 0)
    ∧ (3 : Byte).toNat ≤ 3 ∧ (1 : Byte).toNat ≤ 1 ∧ 5 ≤ (5 : Byte).toNat ∧ (200 : Byte).toNat ≤ 200
    ∧ (∃ new : MixSettings, new = { State.reset.room.mix.settings with muteRamp := 200 }
      ∧ new ≠ State.reset.room.mix.settings)
    ∧ ∃ new : MixSettings, new = { State.reset.room.mix.settings with near := 1 }
      ∧ new = State.reset.room.mix.settings :=
  ⟨⟨State.reset, reset_free⟩, by simp, ⟨45, by decide⟩, by decide, by decide, by decide, by decide, by decide, by decide,
    by decide, ⟨_, rfl, fun h => absurd (congrArg MixSettings.muteRamp h) (by decide +kernel)⟩, ⟨_, rfl, rfl⟩⟩

/-- A room with no ramp under way but the one begun, and a component whose target differs; gains 6 dB apart, less, and at
off. -/
theorem test_meets_MixSetChangesSetting_steps :
    (∃ r : Room, r.begun = [] ∧ (r.mix.comp (.gate 0)).target ≠ .db 0)
    ∧ (∃ r : Room, r.begun = [] ∧ (r.mix.comp .classFar).target = .db 0)
    ∧ (∃ n : Seat, CompId.gate 0 ∈ termComps (.loud n) (.mic 0) ∧ Source.mic 0 ∈ (Bus.loud n).terms)
    ∧ (∃ d : Detector, d.held = false ∧ d.settings.riseBlank ≠ 0 ∧ d.settings.fallGuard ≠ 0)
    ∧ (∃ r : Room, r.begun = [] ∧ (r.mix.comp (.gate 0)).target ≠ .db 0 ∧ (r.mix.speakerMute.get 1).current = .off)
    ∧ (∀ count ∈ [0, 40], count ≤ 40)
    ∧ ((6000 : Int) ≤ 0 - (-6000)) ∧ ¬ ((6000 : Int) ≤ 0 - (-5999)) :=
  ⟨⟨State.reset.room, rfl, by decide +kernel⟩, ⟨State.reset.room, rfl, by decide +kernel⟩,
    ⟨1, by decide +kernel, by decide +kernel⟩,
    ⟨{ State.reset.room.det.get 0 with held := false }, rfl, by decide +kernel, by decide +kernel⟩,
    ⟨{ State.reset.room with mix := { State.reset.room.mix with speakerMute := Tab.fill 40 ⟨.off, none⟩ } }, rfl, by
      decide +kernel, by decide +kernel⟩, by decide, by decide, by decide⟩

/-- An admission to the floor gives the detectors of the seats that hear it a rise notice, and none where the speaker mute
component of the bus stands at off; a fall notice has no such proviso, as where the gate reopens while the levels fall. -/
theorem test_muted_admission :
    let r : Room := { State.reset.room with
      det := State.reset.room.det.map fun d => { d with held := false }
      mix := { State.reset.room.mix with
        speakerMute := (Tab.fill 40 ⟨.db 0, none⟩).set 1 ⟨.off, none⟩, standbyComp := ⟨.db 0, none⟩
        micMute := Tab.fill 40 ⟨.db 0, none⟩, srcTrim := Tab.fill 46 ⟨.db 0, none⟩
        classMic := Tab.fill 40 (Tab.fill 40 ⟨.db 0, none⟩) } }
    let r' := r.ramp (.gate 0) (.db 0) 10
    let falling : Room := { r with mix := { r.mix with
      gate := r.mix.gate.set 0 ⟨.off, some ⟨0, false, 300, 0⟩⟩
      classMic := Tab.fill 40 (Tab.fill 40 ⟨.db (-6000), some ⟨0, false, 50, 0⟩⟩) } }
    let f' := falling.ramp (.gate 0) (.db 0) 10
    (r'.det.get 1).rise = none ∧ (r'.det.get 2).rise = some (r.det.get 2).settings.riseBlank
    ∧ (f'.det.get 1).rise = none ∧ (f'.det.get 1).fall = some (r.det.get 1).settings.fallGuard := by
  decide +kernel

/-- Seat 1 with a tone playing, its envelope as given. -/
def playing (c : Comp) : State :=
  onMix fun m => { m with players := m.players.set 0 (some ⟨.held, 10⟩), envelope := m.envelope.set 0 c }

/-- The rooms that discard a tone request, each for one reason, and one that takes it: its player idle with the envelope at
off, playing at 0 dB, and playing while it ramps out; and a tone one millisecond before it falls due, and due. -/
theorem test_meets_ToneSetAndFade_requests :
    (∃ r : Room, r.mix.settings.tonesOn = false) ∧ (∃ r : Room, r.mix.standby = true)
    ∧ (∃ r : Room, (r.mix.speakerMute.get 0).target = .off)
    ∧ (∃ r : Room, r.begun = [] ∧ r.mix.settings.tonesOn = true ∧ r.mix.standby = false
      ∧ (r.mix.speakerMute.get 0).target ≠ .off ∧ r.mix.players.get 0 = none ∧ (r.mix.envelope.get 0).target = .off)
    ∧ (∀ c ∈ [(⟨.db 0, none⟩ : Comp), ⟨.off, some ⟨0, false, 5, 2⟩⟩], ∃ r : Room, (r.mix.players.get 0).isSome = true
      ∧ r.mix.envelope.get 0 = c ∧ (r.mix.speakerMute.get 0).target ≠ .off)
    ∧ ∀ x ∈ [(Tone.muted, 244, false), (.muted, 245, true), (.live, 245, true), (.held, 144, false), (.held, 145, true),
        (.granted, 145, true)],
      (onMix fun m => { m with
        players := m.players.set 0 (some ⟨x.1, x.2.1⟩), envelope := m.envelope.set 0 ⟨.db 0, none⟩ }).room.mix.toneDue 0
        = x.2.2 :=
  ⟨⟨(onMix fun m => { m with settings := { m.settings with tonesOn := false } }).room, rfl⟩,
    ⟨(onMix fun m => { m with standby := true }).room, rfl⟩,
    ⟨(onMix fun m => { m with speakerMute := Tab.fill 40 ⟨.off, none⟩ }).room, by decide +kernel⟩,
    ⟨State.reset.room, rfl, rfl, rfl, by decide +kernel, rfl, by decide +kernel⟩,
    fun c hc => ⟨(playing c).room, by fin_cases hc <;> decide +kernel⟩, by decide +kernel⟩

theorem test_meets_ToneSetAndFade :
    (∃ s : State, s.Free ∧ s.Awake ∧ s.room.mix.players.get 0 = none)
    ∧ (∃ s : State, s.Free ∧ s.room.mix.settings.tonesOn = true ∧ (s.room.mix.players.get 0).isSome = true)
    ∧ (∃ s : State, s.Awake ∧ (s.room.mix.players.get 0).isSome = true ∧ (s.room.mix.envelope.get 0).target = .off)
    ∧ (1 : Byte).toNat ≤ 1 ∧ -60 ≤ (196 : Byte).toInt ∧ (0 : Byte).toInt ≤ 0 :=
  ⟨⟨State.reset, reset_free, reset_awake, rfl⟩,
    ⟨playing ⟨.db 0, none⟩, free_onRoom ⟨rfl, rfl, rfl⟩, rfl, by decide +kernel⟩,
    ⟨playing ⟨.off, none⟩, awake_onRoom ⟨rfl, rfl, rfl⟩, by decide +kernel, by decide +kernel⟩, by decide⟩

theorem test_meets_RampCompleteHoldsTarget :
    (∃ (s : State) (id : CompId), s.Awake ∧ (s.room.mix.comp id).ramp = none)
    ∧ (∃ (s : State) (id : CompId), s.Awake ∧ (s.room.mix.comp id).ramp.isSome = true ∧ (∀ k, id ≠ .linkState k)
      ∧ (∀ n, id = .speakerMute n → (s.room.mix.comp id).target ≠ .off)
      ∧ ∀ n, id = .envelope n → (s.room.mix.comp id).target ≠ .off)
    ∧ (∃ s : State, s.Awake ∧ (s.room.mix.comp (.envelope 0)).ramp.isSome = true
      ∧ (s.room.mix.comp (.envelope 0)).target = .off)
    ∧ ∃ s : State, s.Awake ∧ (s.room.mix.comp (.speakerMute 0)).ramp.isSome = true
      ∧ (s.room.mix.comp (.speakerMute 0)).target = .off :=
  ⟨⟨State.reset, .gate 0, reset_awake, by decide +kernel⟩,
    ⟨State.reset, .classFar, reset_awake, by decide +kernel, fun _ => by simp, fun _ h => by simp at h, fun _ h => by
      simp at h⟩,
    ⟨onMix fun m => { m with envelope := m.envelope.set 0 ⟨.off, some ⟨0, false, 5, 5⟩⟩ }, awake_onRoom ⟨rfl, rfl, rfl⟩,
      by decide +kernel, by decide +kernel⟩,
    ⟨onMix fun m => { m with speakerMute := m.speakerMute.set 0 ⟨.off, some ⟨0, false, 10, 10⟩⟩ },
      awake_onRoom ⟨rfl, rfl, rfl⟩, by decide +kernel, by decide +kernel⟩⟩

/-! ### Links and the call -/

/-- Link 1 in a state and phase, the call in a state. -/
def linkAt (call : CallSt) (st : LinkSt) (phase : Option Phase) (up outstanding : Bool) : State :=
  atLink 0 call fun x => { x with st := st, phase := phase, up := up, outstanding := outstanding }

theorem linkAt_calm (call : CallSt) (st : LinkSt) (phase : Option Phase) (up out : Bool) :
    (linkAt call st phase up out).Calm := calm_onRoom ⟨rfl, rfl, rfl⟩ rfl

theorem linkAt_steady (call : CallSt) (st : LinkSt) (phase : Option Phase) (up out : Bool) :
    (linkAt call st phase up out).Steady := steady_onRoom ⟨rfl, rfl, rfl⟩ rfl

theorem linkAt_st (call : CallSt) (st : LinkSt) (phase : Option Phase) (up out : Bool) :
    ((linkAt call st phase up out).room.linkRec 0).st = st := by
  simp [linkAt, atLink, onRoom, Room.linkRec]

theorem linkAt_phase (call : CallSt) (st : LinkSt) (phase : Option Phase) (up out : Bool) :
    ((linkAt call st phase up out).room.linkRec 0).phase = phase := by
  simp [linkAt, atLink, onRoom, Room.linkRec]

theorem test_meets_LinkJoinJoins :
    (∃ s : State, s.Calm ∧ (s.room.linkRec 0).st = .leaving) ∧ (∃ s : State, s.Calm ∧ (s.room.linkRec 0).st = .fault)
    ∧ (∃ s : State, s.Calm ∧ (s.room.linkRec 0).st = .idle ∧ s.room.link.call = .standby)
    ∧ ∃ s : State, s.Calm ∧ (s.room.linkRec 0).st = .idle ∧ s.room.link.call = .idle
      ∧ (s.room.linkRec 0).locked = true :=
  ⟨⟨linkAt .idle .leaving none false true, linkAt_calm .., linkAt_st ..⟩,
    ⟨linkAt .idle .fault none false true, linkAt_calm .., linkAt_st ..⟩,
    ⟨linkAt .standby .idle none false false, linkAt_calm .., linkAt_st .., rfl⟩,
    ⟨atLink 0 .idle fun x => { x with locked := true }, calm_onRoom ⟨rfl, rfl, rfl⟩ rfl, by decide +kernel, rfl, by
      decide +kernel⟩⟩

theorem test_meets_LinkHoldAndResume :
    (∃ s : State, s.Free ∧ (s.room.linkRec 0).st = .joined) ∧ (∃ s : State, s.Free ∧ (s.room.linkRec 0).st = .held)
    ∧ ∃ s : State, s.Free ∧ (s.room.linkRec 0).st ≠ .joined ∧ (s.room.linkRec 0).st ≠ .held :=
  ⟨⟨linkAt .live .joined none true false, (linkAt_calm ..).1, linkAt_st ..⟩,
    ⟨linkAt .live .held none false true, (linkAt_calm ..).1, linkAt_st ..⟩,
    ⟨State.reset, reset_free, by decide +kernel, by decide +kernel⟩⟩

theorem test_meets_LinkLeaveLeaves :
    (∃ s : State, s.Calm ∧ s.room.mute.TableSound ∧ (s.room.linkRec 0).st = .leaving)
    ∧ (∃ s : State, s.Calm ∧ s.room.mute.TableSound ∧ (s.room.linkRec 0).st = .idle)
    ∧ (∃ s : State, s.Calm ∧ s.room.mute.TableSound ∧ (s.room.linkRec 0).st = .joined ∧ s.room.link.call = .live
      ∧ ¬ (∃ j, j ≠ 0 ∧ ((s.room.linkRec j).st = .joined ∨ (s.room.linkRec j).st = .held))
      ∧ ((s.room.linkRec 0).outstanding || (s.room.linkRec 0).up) = true)
    ∧ (∃ s : State, s.Calm ∧ s.room.mute.TableSound ∧ (s.room.linkRec 0).st = .held ∧ s.room.link.call = .live
      ∧ ((s.room.linkRec 0).outstanding || (s.room.linkRec 0).up) = false)
    ∧ (∃ s : State, s.Calm ∧ s.room.mute.TableSound ∧ (s.room.linkRec 0).st = .fault ∧ s.room.link.call = .idle
      ∧ ¬ (∃ j, j ≠ 0 ∧ ((s.room.linkRec j).st = .joined ∨ (s.room.linkRec j).st = .held))
      ∧ ((s.room.linkRec 0).outstanding || (s.room.linkRec 0).up) = false)
    ∧ ∃ s : State, s.Calm ∧ s.room.mute.TableSound ∧ (s.room.linkRec 0).st = .fault ∧ s.room.link.call = .live
      ∧ ∃ j, j ≠ 0 ∧ ((s.room.linkRec j).st = .joined ∨ (s.room.linkRec j).st = .held) :=
  ⟨⟨linkAt .idle .leaving none false true, linkAt_calm .., reset_table, linkAt_st ..⟩,
    ⟨State.reset, reset_calm, reset_table, by decide +kernel⟩,
    ⟨linkAt .live .joined none true false, linkAt_calm .., reset_table, linkAt_st .., rfl, by
      decide +kernel, by decide +kernel⟩,
    ⟨linkAt .live .held none false false, linkAt_calm .., reset_table, linkAt_st .., rfl, by
      decide +kernel⟩,
    ⟨linkAt .idle .fault none false false, linkAt_calm .., reset_table, linkAt_st .., rfl, by decide +kernel, by
      decide +kernel⟩,
    ⟨onRoom fun r => { r with link := { r.link with
        call := .live
        links := ((r.link.links.modify 0 fun x => { x with st := .fault }).modify 1 fun x => { x with st := .joined }) } },
      calm_onRoom ⟨rfl, rfl, rfl⟩ rfl, reset_table, by decide +kernel, rfl, 1, by decide +kernel⟩⟩

theorem test_meets_LinkRampCompletes :
    ∀ x ∈ [(LinkSt.joining, some Phase.ramp), (.leaving, none), (.joined, none)],
      ∃ s : State, s.Steady ∧ s.room.mute.TableSound ∧ (s.room.mix.linkState.get 0).ramp.isSome = true
        ∧ (s.room.linkRec 0).st = x.1 ∧ (s.room.linkRec 0).phase = x.2 := by
  intro x hx
  refine ⟨linkRamping x.1 x.2, steady_onRoom ⟨rfl, rfl, rfl⟩ rfl, reset_table, ?_, ?_, ?_⟩
  · simp [linkRamping, onRoom]
  · simp [linkRamping, onRoom, Room.linkRec]
  · simp [linkRamping, onRoom, Room.linkRec]

/-- A join that completes in each state of the call. -/
theorem test_meets_LinkRampCompletes_call :
    ∀ call ∈ [CallSt.idle, .live, .standby],
      ∃ s : State, s.Steady ∧ s.room.mute.TableSound ∧ (s.room.mix.linkState.get 0).ramp.isSome = true
        ∧ (s.room.linkRec 0).st = .joining ∧ (s.room.linkRec 0).phase = some .ramp ∧ s.room.link.call = call := by
  intro call _
  refine ⟨onRoom fun r => let r := (linkRamping .joining (some .ramp)).room
    { r with link := { r.link with call := call } }, steady_onRoom ⟨rfl, rfl, rfl⟩ rfl, reset_table, ?_, ?_, ?_, rfl⟩
  · simp [linkRamping, onRoom]
  · simp [linkRamping, onRoom, Room.linkRec]
  · simp [linkRamping, onRoom, Room.linkRec]

/-- Link 1's clock monitor with its counts. -/
def monitor (locked : Bool) (qual noEdge outBand : Nat) : State :=
  atLink 0 .idle fun x => { x with locked := locked, qual := qual, noEdge := noEdge, outBand := outBand }

theorem test_meets_ClockMeasurementCounts :
    (∀ x ∈ [(false, 48, 0, 0), (false, 49, 0, 0), (true, 50, 0, 48), (true, 50, 1, 49)],
      ∃ s : State, s.Awake ∧ (s.room.linkRec 0).locked = x.1 ∧ (s.room.linkRec 0).qual = x.2.1
        ∧ (s.room.linkRec 0).noEdge = x.2.2.1 ∧ (s.room.linkRec 0).outBand = x.2.2.2)
    ∧ (∀ v ∈ [47760, 48240], 47760 ≤ v ∧ v ≤ 48240) ∧ (∀ v ∈ [47759, 48241], ¬ (47760 ≤ v ∧ v ≤ 48240))
    ∧ (∃ r : Room, (r.linkRec 0).locked = true ∧ (r.linkRec 0).rate = some 48000 ∧ (r.linkRec 0).st = .joined)
    ∧ ∃ r : Room, (r.linkRec 0).locked = true ∧ (r.linkRec 0).rate = some 48000 ∧ (r.linkRec 0).st = .fault := by
  refine ⟨fun x _ => ⟨monitor x.1 x.2.1 x.2.2.1 x.2.2.2, awake_onRoom ⟨rfl, rfl, rfl⟩, ?_⟩, by simp, by simp,
    ⟨(atLink 0 .live fun x => { x with st := .joined, locked := true, rate := some 48000 }).room, by decide +kernel⟩,
    ⟨(atLink 0 .idle fun x => { x with st := .fault, locked := true, rate := some 48000 }).room, by decide +kernel⟩⟩
  simp [monitor, atLink, onRoom, Room.linkRec]

theorem test_meets_LinkClockNotices :
    (∃ (s : State) (left : Nat), s.Steady ∧ (s.room.linkRec 0).st = .joining ∧ (s.room.linkRec 0).phase = some .wait
      ∧ (s.room.linkRec 0).joinTimer = some left)
    ∧ (∃ s : State, s.Steady ∧ (s.room.linkRec 0).st = .fault) ∧ (∃ s : State, s.Steady ∧ (s.room.linkRec 0).st = .held)
    ∧ (∃ s : State, s.Steady ∧ (s.room.linkRec 0).st = .joining ∧ (s.room.linkRec 0).phase = some .ramp)
    ∧ (∃ s : State, s.Steady ∧ (s.room.linkRec 0).st = .leaving)
    ∧ ∃ s : State, s.Steady ∧ (s.room.linkRec 0).st = .joined ∧ s.room.link.call = .live
      ∧ ¬ ∃ j, j ≠ 0 ∧ ((s.room.linkRec j).st = .joined ∨ (s.room.linkRec j).st = .held) :=
  ⟨⟨atLink 0 .idle fun x => { x with st := .joining, phase := some .wait, joinTimer := some 0 }, 0,
      steady_onRoom ⟨rfl, rfl, rfl⟩ rfl, by decide +kernel, by decide +kernel, by decide +kernel⟩,
    ⟨linkAt .idle .fault none false false, linkAt_steady .., linkAt_st ..⟩,
    ⟨linkAt .live .held none false true, linkAt_steady .., linkAt_st ..⟩,
    ⟨linkAt .idle .joining (some .ramp) true true, linkAt_steady .., linkAt_st ..,
      linkAt_phase ..⟩,
    ⟨linkAt .idle .leaving none false true, linkAt_steady .., linkAt_st ..⟩,
    ⟨linkAt .live .joined none true false, linkAt_steady .., linkAt_st .., rfl, by decide +kernel⟩⟩

theorem test_meets_CallSetWakeAndStandby :
    (∃ s : State, s.Calm ∧ s.Steady ∧ s.room.link.call = .idle ∧ s.room.link.timer.isSome = true)
    ∧ (∃ s : State, s.Calm ∧ s.room.link.call = .live) ∧ (∃ s : State, s.Calm ∧ s.room.link.call = .standby)
    ∧ (∃ (s : State) (p : PodPos) (n : Seat), s.Calm ∧ s.room.link.call = .standby
      ∧ (s.room.podAt p).present = true ∧ seatAt s.room.map.running p = some n
      ∧ s.room.floor.settings.mode = .opened ∧ (s.room.fseat n).gate = .closed)
    ∧ (∃ s : State, s.Steady ∧ s.room.link.timer = none)
    ∧ (∃ s : State, s.Steady ∧ s.room.link.timer.isSome = true ∧ s.room.link.call = .idle
      ∧ (s.room.fseat 0).gate.isOpen = true)
    ∧ (120 : Byte).toNat ≤ 120 ∧ 120 < (121 : Byte).toNat :=
  ⟨⟨State.reset, reset_calm, reset_steady, rfl, rfl⟩, ⟨joinedLink, calm_onRoom ⟨rfl, rfl, rfl⟩ rfl, rfl⟩,
    ⟨linkAt .standby .idle none false false, linkAt_calm .., rfl⟩,
    ⟨onRoom fun r => { (fullLine .member 0).room with
        link := { r.link with call := .standby }
        floor := { r.floor with settings := { r.floor.settings with mode := .opened }, standby := true } }, ⟨0, 0⟩, 0,
      calm_onRoom ⟨rfl, rfl, rfl⟩ rfl, rfl, by decide +kernel, by decide +kernel, rfl, by decide +kernel⟩,
    ⟨onRoom fun r => { r with link := { r.link with timer := none } }, steady_onRoom ⟨rfl, rfl, rfl⟩ rfl, rfl⟩,
    ⟨onFloor fun f => { f with seats := f.seats.modify 0 fun x => { x with gate := .opened } },
      steady_onRoom ⟨rfl, rfl, rfl⟩ rfl, rfl, rfl, by decide +kernel⟩,
    by decide, by decide⟩

/-! ### The Feedback Monitor -/

theorem test_meets_FeedbackSetTakesSettings :
    (∃ s : State, s.Free) ∧ fbModeOf 2 = some .retry ∧ fbModeOf 3 = none
    ∧ (20 ≤ (20 : Byte).toNat ∧ (100 : Byte).toNat ≤ 100 ∧ 6 ≤ (6 : Byte).toNat ∧ (30 : Byte).toNat ≤ 30
      ∧ (16 : Byte).toNat ∈ [2, 4, 8, 16] ∧ 1 ≤ (1 : Byte).toNat)
    ∧ ¬ ((3 : Byte).toNat ∈ [2, 4, 8, 16]) :=
  ⟨⟨State.reset, reset_free⟩, by decide, by decide, by decide, by decide⟩

/-- Seat 1 with a monitor record as given, in the calm state after reset. -/
theorem onFb_calm (f : FbSeat → FbSeat) : (onFb 0 f).Calm ∧ (onFb 0 f).Steady :=
  ⟨calm_onRoom ⟨rfl, rfl, rfl⟩ rfl, steady_onRoom ⟨rfl, rfl, rfl⟩ rfl⟩

theorem test_meets_FeedbackReleaseAndRetryEnd :
    (∃ s : State, s.Calm ∧ s.Steady ∧ (s.room.fbSeat 0).trips = 0 ∧ (s.room.fbSeat 0).flag = false)
    ∧ (∃ s : State, s.Calm ∧ (s.room.fbSeat 0).trips = 3 ∧ (s.room.fbSeat 0).presence ≠ .present)
    ∧ ∃ (s : State) (left : Nat), s.Calm ∧ s.Steady ∧ (s.room.fbSeat 0).trips = 3
      ∧ (s.room.fbSeat 0).presence = .present ∧ (s.room.fbSeat 0).flag = true
      ∧ (s.room.fbSeat 0).offset < 0 ∧ (s.room.fbSeat 0).retryTimer = some left :=
  ⟨⟨State.reset, reset_calm, reset_steady, by decide +kernel, by decide +kernel⟩,
    ⟨onFb 0 fun x => { x with trips := 3 }, (onFb_calm _).1, by decide +kernel, by decide +kernel⟩,
    ⟨onFb 0 fun x => { x with presence := .present, trips := 3, flag := true, offset := -18, retryTimer := some 0 }, 0,
      (onFb_calm _).1, (onFb_calm _).2, by decide +kernel⟩⟩

/-- Seat 1 WATCHING with a window in progress. -/
def watching (consecutive trips : Nat) (mode : Option FbMode) : State :=
  onFb 0 fun x =>
    { x with presence := .present, live := true, flag := false, window := some ⟨50, 50, [Tab.fill 48 1000]⟩, consecutive := consecutive,
             trips := trips, tripMode := mode }

theorem watching_facts (c t : Nat) (m : Option FbMode) :
    ((watching c t m).room.fbSeat 0).presence = .present ∧ ((watching c t m).room.fbSeat 0).flag = false
      ∧ ((watching c t m).room.fbSeat 0).live = true ∧ ((watching c t m).room.fbSeat 0).window.isSome = true
      ∧ ((watching c t m).room.fbSeat 0).consecutive = c ∧ ((watching c t m).room.fbSeat 0).trips = t
      ∧ ((watching c t m).room.fbSeat 0).tripMode = m := by
  simp [watching, onFb, onRoom, Room.fbSeat]

theorem test_meets_FeedbackRehearseTrips :
    (∃ s : State, s.Calm ∧ (s.room.fbSeat 0).presence ≠ .present)
    ∧ ∀ x ∈ [(0, none), (2, some FbMode.retry), (3, some .retry), (1, some .latch), (1, some .report)],
      ∃ s : State, s.Calm ∧ (s.room.fbSeat 0).presence = .present ∧ (s.room.fbSeat 0).flag = false
        ∧ (s.room.fbSeat 0).live = true ∧ (s.room.fbSeat 0).trips = x.1 ∧ (s.room.fbSeat 0).tripMode = x.2 :=
  ⟨⟨State.reset, reset_calm, by decide +kernel⟩, fun x _ => ⟨watching 0 x.1 x.2, (onFb_calm _).1,
    (watching_facts 0 x.1 x.2).1, (watching_facts 0 x.1 x.2).2.1, (watching_facts 0 x.1 x.2).2.2.1,
    (watching_facts 0 x.1 x.2).2.2.2.2.2⟩⟩

/-- A seat that trips while the Arbiter holds it PRESENT, and one while it does not. -/
theorem test_meets_trip_flags :
    ∀ p ∈ [Presence.present, .absent], ∃ s : State, s.Calm ∧ s.Steady ∧ (s.room.fbSeat 0).presence = .present
      ∧ (s.room.fbSeat 0).flag = false ∧ (s.room.fbSeat 0).live = true ∧ (s.room.mseat 0).presence = p := by
  intro p hp
  refine ⟨onRoom fun r => { (watching 3 0 none).room with
      mute := { r.mute with seats := r.mute.seats.modify 0 fun x => { x with presence := p } } },
    calm_onRoom ⟨rfl, rfl, rfl⟩ rfl, steady_onRoom ⟨rfl, rfl, rfl⟩ rfl, (watching_facts 3 0 none).1,
    (watching_facts 3 0 none).2.1, (watching_facts 3 0 none).2.2.1, ?_⟩
  fin_cases hp <;> decide +kernel

/-- Windows before and at the last that trips, of a level that some peak makes hot and some does not. -/
theorem test_meets_WindowEndJudges :
    (∃ s : State, s.Steady ∧ (s.room.fbSeat 0).window = none) ∧ (∃ w : Window, 0 < w.length)
    ∧ (∀ c ∈ [2, 3], ∃ (s : State) (w : Window), s.Steady ∧ (s.room.fbSeat 0).window = some w
      ∧ (s.room.fbSeat 0).presence = .present ∧ (s.room.fbSeat 0).flag = false ∧ (s.room.fbSeat 0).live = true
      ∧ (s.room.fbSeat 0).consecutive = c ∧ s.room.fb.settings.filter = 4 ∧ s.room.fb.settings.ratio = 12
      ∧ -120 ≤ w.broadband ∧ w.broadband + 2 * 12 ≤ 40)
    ∧ (∀ centre ∈ [100, 12000], 100 ≤ centre ∧ centre ≤ 12000) ∧ (∀ centre ∈ [99, 12001], ¬ (100 ≤ centre ∧ centre ≤ 12000))
    ∧ ((-120 : Int) ≤ -120 ∧ (-120 : Int) + 2 * 12 ≤ -96) ∧ ¬ ((-120 : Int) ≤ -120 ∧ (-120 : Int) + 2 * 12 ≤ -97) :=
  ⟨⟨State.reset, reset_steady, by decide +kernel⟩, ⟨⟨0, 1, []⟩, by decide⟩, fun c _ => ⟨watching c 0 none, ⟨50, 50, [Tab.fill 48 1000]⟩,
    (onFb_calm _).2, by simp [watching, onFb, onRoom, Room.fbSeat], (watching_facts c 0 none).1,
    (watching_facts c 0 none).2.1, (watching_facts c 0 none).2.2.1, (watching_facts c 0 none).2.2.2.2.1, rfl, rfl, by
      decide +kernel, by decide +kernel⟩, by decide, by decide, by decide, by decide⟩

/-! ### The Scene Store -/

/-- The store with an operation in flight. -/
def storing (op : StoreOp) : State := onStore fun s => { s with op := some op }

theorem onStore_calm (f : Store → Store) : (onStore f).Calm := calm_onRoom ⟨rfl, rfl, rfl⟩ rfl

theorem test_meets_SceneSaveAndEraseBegin :
    (∃ s : State, s.Free ∧ s.room.store.op = none) ∧ (∃ s : State, s.Free ∧ s.room.store.op.isSome = true)
    ∧ (List.replicate 16 (0x7E : Byte)).length ≤ 16
    ∧ (∀ c ∈ [(0x20 : Byte), 0x7E], 0x20 ≤ c.toNat ∧ c.toNat ≤ 0x7E) :=
  ⟨⟨State.reset, reset_free, rfl⟩, ⟨storing (.erasing 0), (onStore_calm _).1, rfl⟩, by decide, by decide⟩

theorem test_meets_StoreOperationsEnd :
    (∃ (s : State) (i : Fin 12) (x : Image), s.Awake ∧ s.room.store.op = some (.saving i x)
      ∧ crc x.scene.bytes = x.check)
    ∧ (∃ (s : State) (i : Fin 12) (x : Image), s.Awake ∧ s.room.store.op = some (.saving i x)
      ∧ crc x.scene.bytes ≠ x.check)
    ∧ (∃ (s : State) (i : Fin 12), s.Awake ∧ s.room.store.op = some (.erasing i))
    ∧ (∃ (s : State) (i : Fin 13), s.Awake ∧ s.room.store.op = some (.settingStart i))
    ∧ (∃ s : State, s.Awake ∧ s.room.store.op = none)
    ∧ ((∃ s : State, s.Awake ∧ s.room.store.op = some (.erasing 11) ∧ (∀ i x, s.room.store.op ≠ some (.saving i x))
        ∧ ∀ i, s.room.store.op ≠ some (.settingStart i))
      ∧ ∃ s : State, s.Awake ∧ s.room.store.op = some (.settingStart 12) ∧ ∀ i, s.room.store.op ≠ some (.erasing i)) :=
  ⟨⟨storing (.saving 11 soundImage), 11, soundImage, awake_onRoom ⟨rfl, rfl, rfl⟩, rfl, soundImage_passes⟩,
    ⟨storing (.saving 11 spoiledImage), 11, spoiledImage, awake_onRoom ⟨rfl, rfl, rfl⟩, rfl, spoiledImage_fails⟩,
    ⟨storing (.erasing 11), 11, awake_onRoom ⟨rfl, rfl, rfl⟩, rfl⟩,
    ⟨storing (.settingStart 12), 12, awake_onRoom ⟨rfl, rfl, rfl⟩, rfl⟩, ⟨State.reset, reset_awake, rfl⟩,
    ⟨storing (.erasing 11), awake_onRoom ⟨rfl, rfl, rfl⟩, rfl, fun _ _ => by simp [storing, onStore, onRoom], fun _ => by
      simp [storing, onStore, onRoom]⟩,
    ⟨storing (.settingStart 12), awake_onRoom ⟨rfl, rfl, rfl⟩, rfl, fun _ => by simp [storing, onStore, onRoom]⟩⟩

theorem test_meets_SceneStartAndVerify :
    (∃ (s : State) (i : Fin 12) (x : Image), s.Free ∧ s.room.store.op = none ∧ (s.room.store.slots.get i).state = .valid
      ∧ (s.room.store.slots.get i).image = some x ∧ crc x.scene.bytes = x.check)
    ∧ (∃ (s : State) (i : Fin 12) (x : Image), s.Free ∧ s.room.store.op = none ∧ (s.room.store.slots.get i).state = .valid
      ∧ (s.room.store.slots.get i).image = some x ∧ crc x.scene.bytes ≠ x.check)
    ∧ (∃ (s : State) (i : Fin 12), s.Free ∧ s.room.store.op = none ∧ (s.room.store.slots.get i).state ≠ .valid)
    ∧ ∀ p ∈ [(0, 1), (12, 13), (0, 13)], p.1 ≤ 12 ∧ 1 ≤ p.2 ∧ p.2 ≤ 13 :=
  ⟨⟨withImage soundImage, 11, soundImage, (onStore_calm _).1, rfl, by rw [withImage_slot], by rw [withImage_slot],
      soundImage_passes⟩,
    ⟨withImage spoiledImage, 11, spoiledImage, (onStore_calm _).1, rfl, by rw [withImage_slot], by rw [withImage_slot],
      spoiledImage_fails⟩,
    ⟨State.reset, 0, reset_free, rfl, by decide +kernel⟩, by decide⟩

theorem test_meets_SceneRecallApplies :
    (∃ s : State, s.Free ∧ s.room.store.op.isSome = true) ∧ (∃ s : State, s.Free ∧ s.room.store.op = none)
    ∧ (∃ (s : State) (i : Fin 12) (x : Image), s.Free ∧ s.room.store.op = none ∧ (s.room.store.slots.get i).state = .valid
      ∧ (s.room.store.slots.get i).image = some x ∧ crc x.scene.bytes = x.check)
    ∧ (∃ (s : State) (i : Fin 12) (x : Image), s.Free ∧ s.room.store.op = none ∧ (s.room.store.slots.get i).state = .valid
      ∧ (s.room.store.slots.get i).image = some x ∧ crc x.scene.bytes ≠ x.check)
    ∧ ∃ (s : State) (i : Fin 12), s.Free ∧ s.room.store.op = none ∧ (s.room.store.slots.get i).state ≠ .valid :=
  ⟨⟨storing (.erasing 0), (onStore_calm _).1, rfl⟩, ⟨State.reset, reset_free, rfl⟩,
    ⟨withImage soundImage, 11, soundImage, (onStore_calm _).1, rfl, by rw [withImage_slot], by rw [withImage_slot],
      soundImage_passes⟩,
    ⟨withImage spoiledImage, 11, spoiledImage, (onStore_calm _).1, rfl, by rw [withImage_slot], by rw [withImage_slot],
      spoiledImage_fails⟩,
    ⟨State.reset, 0, reset_free, rfl, by decide +kernel⟩⟩

/-- A room that a recall of the factory scene changes: a pod whose bad count has reached the scene's lost limit, a
re-seated seat, a CHAIR claim that ends and one that stays, a present seat with its trips. -/
theorem test_meets_SceneRecallApplies_changes :
    ∃ s : State, s.Free ∧ s.room.store.op = none ∧ s.room.mute.TableSound ∧ s.room.Distinct
      ∧ (s.room.podAt ⟨0, 19⟩).present = true ∧ (factoryScene.lines.get 0).lostLimit ≤ (s.room.podAt ⟨0, 19⟩).bad
      ∧ (s.room.map.running.get 0).role ≠ (factoryScene.running.get 0).role
      ∧ (s.room.mute.table.map fun c => (c.who, c.scope)) = [(.chair 0, .members), (.room, .everyone)]
      ∧ s.room.presence 1 = .present ∧ (s.room.fbSeat 1).trips = 2 := by
  refine ⟨onRoom fun r => { r with
      map := { r.map with
        running := (Tab.fill 40 ⟨none, .member, false⟩).set 0 ⟨none, .chair, false⟩ |>.set 1 ⟨some ⟨0, 1⟩, .member, false⟩
        staged := noPlaces }
      lines := r.lines.modify 0 fun x => { x with
        pods := (x.pods.modify 19 fun p => { p with present := true, bad := 8 }).modify 1 fun p => { p with present := true } }
      mute := { r.mute with table := [⟨0, .chair 0, .members, .mic, none, 0⟩, roomClaim 1 none] }
      fb := { r.fb with seats := r.fb.seats.modify 1 fun x => { x with trips := 2 } } }, free_onRoom ⟨rfl, rfl, rfl⟩, rfl,
    ⟨by decide +kernel, by decide +kernel⟩, ⟨⟨?_, ?_⟩, ?_, ?_⟩, by decide +kernel⟩
  · unfold MapDistinct
    decide +kernel
  · unfold MapDistinct
    decide +kernel
  · intro i x h
    simp [onRoom, State.reset, Room.started, Room.afterReset, Store.factory] at h
  · intro i x h
    simp [onRoom, State.reset, Room.started, Room.afterReset, Store.factory] at h

/-- A call that is IDLE, with a scene of no standby delay and one of the factory's, and a call that is LIVE; settings that
differ from the scene's. -/
theorem test_meets_SceneRecallApplies_sound :
    (∀ c ∈ [CallSt.idle, .live], ∃ s : State, s.Free ∧ s.room.store.op = none ∧ s.room.link.call = c)
    ∧ factoryScene.delay ≠ 0 ∧ (∃ c : Scene, c.delay = 0)
    ∧ ∃ s : State, s.Free ∧ s.room.store.op = none
      ∧ (s.room.mix.srcTrim.get 45).target ≠ halfDb (factoryScene.mix.srcTrim.get 45)
      ∧ (s.room.mix.toneLevel.get 39).target ≠ halfDb factoryScene.mix.toneLevel :=
  ⟨fun c _ => ⟨atLink 0 c fun x => x, free_onRoom ⟨rfl, rfl, rfl⟩, rfl, rfl⟩, by decide +kernel,
    ⟨{ factoryScene with delay := 0 }, rfl⟩,
    ⟨onMix fun m => { m with
      srcTrim := m.srcTrim.set 45 ⟨.db (-30000), none⟩, toneLevel := m.toneLevel.set 39 ⟨.off, none⟩ },
      free_onRoom ⟨rfl, rfl, rfl⟩, rfl, by decide +kernel, by decide +kernel⟩⟩

theorem reset_detectors : ∀ n, (State.reset.room.det.get n).dstate = .silent ∨ (State.reset.room.det.get n).dstate = .speech := by
  decide +kernel

/-- A recall that finds every gate state a seat may leave, no pod lost and no detector with anything to report. -/
theorem test_meets_SceneRecallApplies_mode :
    ∀ g ∈ [GateState.waiting, .opened, .hold, .queued, .granted], ∃ s : State, s.Free ∧ s.room.store.op = none
      ∧ (∀ p : PodPos, ((s.room.podAt p).present
        && decide ((factoryScene.lines.get p.line).lostLimit ≤ (s.room.podAt p).bad)) = false)
      ∧ (∀ n, (s.room.det.get n).dstate = .silent ∨ (s.room.det.get n).dstate = .speech)
      ∧ (s.room.fseat 0).gate = g := by
  intro g hg
  refine ⟨onFloor fun f => { f with seats := f.seats.modify 0 fun x => { x with gate := g } },
    free_onRoom ⟨rfl, rfl, rfl⟩, rfl, fun p => ?_, reset_detectors, ?_⟩
  · have h : ∀ (l : LineNo) (q : Pos), (State.reset.room.podAt ⟨l, q⟩).present = false := by decide +kernel
    have h' : (State.reset.room.podAt p).present = false := h p.line p.pos
    have e : (onFloor fun f => { f with seats := f.seats.modify 0 fun x => { x with gate := g } }).room.podAt p
        = State.reset.room.podAt p := rfl
    rw [e, h']
    rfl
  · fin_cases hg <;> decide +kernel

/-! ### The hypotheses of the clauses on values out of range, at the values next to the range -/

theorem test_range_MapLoadReplacesStaged :
    State.reset.Free ∧ ([⟨0, 0, 0⟩] : List RawEntry).length = (1 : Byte).toNat
    ∧ ((0 : Byte).toNat = 0 ∧ 41 < (41 : Byte).toNat + (1 : Byte).toNat)
    ∧ ∀ e ∈ ([⟨0, 0, 4⟩, ⟨0, 1, 0⟩, ⟨1, 0, 0⟩, ⟨3, 1, 0⟩, ⟨1, 21, 0⟩] : List RawEntry),
      ¬ (e.attributes.toNat ≤ 3 ∧ (e.line = 0 ∧ e.position = 0
        ∨ 1 ≤ e.line.toNat ∧ e.line.toNat ≤ 2 ∧ 1 ≤ e.position.toNat ∧ e.position.toNat ≤ 20)) :=
  ⟨reset_free, rfl, by decide, by decide⟩

theorem test_range_GroupSetReplacesGroup :
    State.reset.Free ∧ (∀ b ∈ [(0 : Byte), 9], b.toNat = 0 ∨ 8 < b.toNat)
    ∧ (∃ n ∈ [(1 : Byte), 41], n.toNat = 0 ∨ 40 < n.toNat)
    ∧ ∀ n, (State.reset.room.map.groups.get 7).get n = decide (n ∈ ([] : List Seat)) :=
  ⟨reset_free, by decide, by decide, by decide +kernel⟩

theorem test_range_MapSwitchQuietPends :
    State.reset.Free ∧ ∀ b ∈ [(61 : Byte), 254], 60 < b.toNat ∧ b.toNat ≠ 255 := ⟨reset_free, by decide⟩

theorem test_range_LineSetTakesSettings :
    State.reset.Free ∧ ∀ x ∈ [((0, 20, 2) : Byte × Byte × Byte), (3, 20, 2), (1, 21, 2), (1, 20, 1), (2, 0, 33)],
      x.1.toNat = 0 ∨ 2 < x.1.toNat ∨ 20 < x.2.1.toNat ∨ x.2.2.toNat < 2 ∨ 32 < x.2.2.toNat := ⟨reset_free, by simp⟩

theorem test_range_LineScanAndRehearseStart :
    State.reset.Calm ∧ (∀ b ∈ [(0 : Byte), 3], b.toNat = 0 ∨ 2 < b.toNat) ∧ (∀ b ∈ [(0 : Byte), 21], b.toNat = 0 ∨ 20 < b.toNat)
    ∧ 1 < (2 : Byte).toNat ∧ (9 : Pair).toNat < 10 ∧ 10000 < (10001 : Pair).toNat :=
  ⟨reset_calm, by decide, by decide, by decide, by simp, by simp⟩

theorem test_range_DetectSetAndTimers :
    State.reset.Free ∧ 40 < (41 : Byte).toNat ∧ (2 : Byte).toNat < 3 ∧ 30 < (31 : Byte).toNat ∧ (9 : Byte).toNat < 10
    ∧ 200 < (201 : Byte).toNat ∧ (99 : Pair).toNat < 100 ∧ 1000 < (1001 : Pair).toNat ∧ 500 < (501 : Pair).toNat
    ∧ (100 : Pair).toNat < (101 : Pair).toNat := ⟨reset_free, by simp⟩

theorem test_range_MutePlacePlacesClaim :
    State.reset.Free ∧ hostClaimant 4 1 = none ∧ hostClaimant 5 5 = none ∧ scopeOf 1 41 = none ∧ dirOf 5 = none
    ∧ 3600 < (3601 : Pair).toNat ∧ hostClaimant 5 1 = some (.far 0) ∧ scopeOf 4 0 = some .everyone ∧ dirOf 1 = some .mic
    ∧ permitted (.far 0) .everyone .mic = false :=
  ⟨reset_free, by decide, by decide, by decide, by decide, by simp, by decide, by decide, by decide, by decide⟩

theorem test_range_MuteLiftLiftsClaim :
    State.reset.Free ∧ hostClaimant 3 1 = none ∧ 1 < (2 : Byte).toNat ∧ 48 ≤ (48 : Byte).toNat ∧ claimantOf 6 0 = none
    ∧ scopeOf 2 9 = none ∧ dirOf 0 = none
    ∧ ∀ x ∈ [((1, 1, 3) : Byte × Byte × Byte), (1, 40, 4), (5, 1, 1), (5, 4, 2)], ∃ scope way, scopeOf x.1 x.2.1 = some scope
      ∧ dirOf x.2.2 = some way ∧ ((∃ k, scope = .link k) ↔ way = .mic ∨ way = .speaker) := by
  refine ⟨reset_free, by decide, by decide, by decide, by decide, by decide, by decide, fun x hx => ?_⟩
  fin_cases hx
  · exact ⟨.seat 0, .send, by decide, by decide, by simp⟩
  · exact ⟨.seat 39, .ret, by decide, by decide, by simp⟩
  · exact ⟨.link 0, .mic, by decide, by decide, by simp⟩
  · exact ⟨.link 3, .speaker, by decide, by decide, by simp⟩

theorem test_range_FloorSetTakesSettings :
    State.reset.Free ∧ floorModeOf 3 = none ∧ (0 : Byte).toNat = 0 ∧ 6 < (7 : Byte).toNat ∧ (99 : Pair).toNat < 100
    ∧ 5000 < (5050 : Pair).toNat ∧ (149 : Pair).toNat % 50 ≠ 0 ∧ 1 < (2 : Byte).toNat
    ∧ (1 ≤ (9 : Pair).toNat ∧ (9 : Pair).toNat ≤ 9) ∧ 600 < (601 : Pair).toNat ∧ (4 : Byte).toNat < 5 ∧ 50 < (51 : Byte).toNat
    ∧ (49 : Pair).toNat < 50 ∧ 1000 < (1001 : Pair).toNat := ⟨reset_free, by decide, by simp⟩

/-- The seat requests of the floor and of the monitor: seats 0 and 41, and a bump of neither yes nor no. -/
theorem test_range_FloorGrantGrants :
    State.reset.Calm ∧ (∀ b ∈ [(0 : Byte), 41], b.toNat = 0 ∨ 40 < b.toNat) ∧ 1 < (2 : Byte).toNat
    ∧ (∃ s : State, s.Calm ∧ s.room.floor.settings.mode = .request ∧ s.room.floor.standby = false
      ∧ (s.room.floor.seats.get 0).gate ≠ .granted ∧ (s.room.floor.seats.get 0).muted = false
      ∧ s.room.chairFree 0 = true) :=
  ⟨reset_calm, by decide, by decide,
    ⟨onRoom fun r => { r with
        map := { r.map with running := r.map.running.modify 0 fun e => { e with role := .chair } }
        floor := { r.floor with
          settings := { r.floor.settings with mode := .request, chairFree := true }
          seats := r.floor.seats.modify 0 fun x => { x with muted := false } } },
      calm_onRoom ⟨rfl, rfl, rfl⟩ rfl, rfl, rfl, by decide +kernel, by decide +kernel, by decide +kernel⟩⟩
theorem test_range_FloorQueueAsks : State.reset.Calm ∧ ∀ b ∈ [(0 : Byte), 41], b.toNat = 0 ∨ 40 < b.toNat :=
  ⟨reset_calm, by decide⟩
theorem test_range_FloorDropAndClearClose : State.reset.Calm ∧ ∀ b ∈ [(0 : Byte), 41], b.toNat = 0 ∨ 40 < b.toNat :=
  ⟨reset_calm, by decide⟩
theorem test_range_FeedbackReleaseAndRetryEnd :
    State.reset.Calm ∧ (∀ b ∈ [(0 : Byte), 41], b.toNat = 0 ∨ 40 < b.toNat)
    ∧ ∃ s : State, s.Calm ∧ (s.room.fbSeat 0).trips ≠ 0 ∧ (s.room.fbSeat 0).presence = .present
      ∧ (s.room.fbSeat 0).flag = false ∧ (s.room.fbSeat 0).live = true :=
  ⟨reset_calm, by decide, watching 1 2 (some .report), (onFb_calm _).1, by
    rw [(watching_facts _ _ _).2.2.2.2.2.1]; decide, (watching_facts _ _ _).1, (watching_facts _ _ _).2.1,
    (watching_facts _ _ _).2.2.1⟩
theorem test_range_FeedbackRehearseTrips : State.reset.Calm ∧ ∀ b ∈ [(0 : Byte), 41], b.toNat = 0 ∨ 40 < b.toNat :=
  ⟨reset_calm, by decide⟩

theorem test_range_MixSetChangesSetting :
    State.reset.Free
    ∧ ∀ x ∈ [((0, 0, 0, 0) : Byte × Byte × Byte × Pair), (0, 47, 0, 0), (1, 46, 195, 0), (1, 1, 25, 0), (2, 1, 0, 0),
        (3, 0, 175, 0), (4, 0, 1, 0), (5, 0, 4, 0), (6, 0, 2, 0), (7, 0, 4, 0), (7, 0, 201, 0), (8, 0, 0, 0), (5, 0, 0, 2001)],
      ¬ ((x.1.toNat ≤ 1 ∧ 1 ≤ x.2.1.toNat ∧ x.2.1.toNat ≤ 46 ∧ -60 ≤ x.2.2.1.toInt ∧ x.2.2.1.toInt ≤ 24
          ∨ x.2.1.toNat = 0 ∧
            (2 ≤ x.1.toNat ∧ x.1.toNat ≤ 4 ∧ (x.2.2.1.toInt = -128 ∨ -80 ≤ x.2.2.1.toInt ∧ x.2.2.1.toInt ≤ 0)
              ∨ x.1.toNat = 5 ∧ x.2.2.1.toNat ≤ 3 ∨ x.1.toNat = 6 ∧ x.2.2.1.toNat ≤ 1
              ∨ x.1.toNat = 7 ∧ 5 ≤ x.2.2.1.toNat ∧ x.2.2.1.toNat ≤ 200))
        ∧ x.2.2.2.toNat ≤ 2000) :=
  ⟨reset_free, fun x hx => by fin_cases hx <;> simp⟩

/-- MAP_SWITCH with a locked field of neither KEEP nor TAKE. -/
theorem test_range_MapSwitchNowSwaps : State.reset.Free ∧ ∀ b ∈ [(2 : Byte), 255], 1 < b.toNat := ⟨reset_free, by decide⟩

/-- The reads: the first bytes outside the ranges of their fields. -/
theorem test_range_ReadsAnswerAndChangeNothing :
    State.reset.Free ∧ (∀ b ∈ [(0 : Byte), 3], b.toNat = 0 ∨ 2 < b.toNat) ∧ (∀ b ∈ [(0 : Byte), 41], b.toNat = 0 ∨ 40 < b.toNat)
    ∧ 48 ≤ (48 : Byte).toNat
    ∧ (∀ x ∈ [((2, 1) : Byte × Byte), (0, 0), (1, 0), (0, 41), (1, 5)],
      1 < x.1.toNat ∨ x.2.toNat = 0 ∨ x.1 = 0 ∧ 40 < x.2.toNat ∨ x.1 = 1 ∧ 4 < x.2.toNat)
    ∧ (∀ b ∈ [(0 : Byte), 2, 20, 22], b ≠ 1 ∧ b ≠ 21) ∧ 46 < (47 : Byte).toNat
    ∧ ∀ b ∈ [(0 : Byte), 5], b.toNat = 0 ∨ 4 < b.toNat := by
  refine ⟨reset_free, ?_, ?_, ?_, ?_, ?_, ?_, ?_⟩ <;> simp

theorem test_range_ToneSetAndFade :
    State.reset.Free ∧ 1 < (2 : Byte).toNat ∧ (195 : Byte).toInt < -60 ∧ 0 < (1 : Byte).toInt :=
  ⟨reset_free, by decide⟩

/-- The requests that name a link: links 0 and 5. -/
theorem test_range_links :
    State.reset.Free ∧ State.reset.Calm ∧ State.reset.room.mute.TableSound
    ∧ ∀ b ∈ [(0 : Byte), 5], b.toNat = 0 ∨ 4 < b.toNat :=
  ⟨reset_free, reset_calm, reset_table, by decide⟩

theorem test_range_SceneSaveAndEraseBegin :
    State.reset.Free ∧ 12 < (13 : Byte).toNat ∧ 16 < (List.replicate 17 (0x20 : Byte)).length
    ∧ ∃ c ∈ [(0x1F : Byte), 0x7F], c.toNat < 0x20 ∨ 0x7E < c.toNat := ⟨reset_free, by decide⟩

theorem test_range_SceneStartAndVerify :
    State.reset.Free ∧ 12 < (13 : Byte).toNat ∧ (0 : Byte).toNat = 0 ∧ 13 < (14 : Byte).toNat
    ∧ ∃ s : State, s.Free ∧ s.room.store.op.isSome = true ∧ (12 : Byte).toNat ≤ 12 ∧ (13 : Byte).toNat ≤ 13 :=
  ⟨reset_free, by decide, rfl, by decide, storing (.erasing 0), (onStore_calm _).1, rfl, by decide, by decide⟩

theorem test_range_SceneRecallApplies : State.reset.Free ∧ 12 < (13 : Byte).toNat := ⟨reset_free, by decide⟩

end Sys2Proof.Tests
end

section
/-! Pod lines: the rules that the proofs of this part share. What settling leaves where nothing is under way, what a
recomposed record shows (R35 to R38), and what the timers and the downstream frame of a line do (R21, R28, R29, R40). -/

namespace Sys2Proof.Machine.PodLines

/-! ## Settling with nothing under way -/

/-- With no notice waiting and no ramp begun, settling changes nothing, whatever events stand in the room. -/
theorem settle_of_idle (r : Room) (hbox : r.box = []) (hbegun : r.begun = []) : r.settle = r := by
  have hroom : ({ r with box := [] } : Room) = r := by rw [← hbox]
  unfold Room.settle
  rw [hbox]
  simp only [hroom, hbox, List.foldl_nil]
  exact Room.judge_idle _ hbegun

/-- A command of the blocks whose effect leaves nothing under way: its events and the room as it stands (R198). -/
theorem act_of_idle {s : State} {f : Room → Room} {t : Room} (hs : s.held = false) (h : f s.room = t)
    (hbox : t.box = []) (hbegun : t.begun = []) : s.act f = s.moved t.out { t with out := [] } := by
  rw [State.act_awake s hs, h, settle_of_idle _ hbox hbegun]
  rfl

/-- A command whose effect queues nothing either. -/
theorem act_of_settled {s : State} {f : Room → Room} {t : Room} (hs : s.held = false) (h : f s.room = t)
    (ht : t.Settled) : s.act f = s.moved [] t := by
  rw [act_of_idle hs h ht.2.1 ht.2.2, ht.1]
  exact congrArg _ (Room.sent_settled t ht)

/-- Two tables with the same facts have the same fact at each index. -/
theorem get_of_map_eq {n : Nat} {α β : Type} {t u : Tab n α} {f : α → β} (h : t.map f = u.map f) (i : Fin n) :
    f (t.get i) = f (u.get i) := by
  rw [← Tab.get_map f t, h, Tab.get_map]

/-! ## The seat of a position -/

theorem seatAt_isSome_iff (map : Tab 40 Entry) (p : PodPos) :
    (seatAt map p).isSome = true ↔ ∃ n : Seat, (map.get n).place = some p := by
  simp [seatAt, List.find?_isSome, allSeats]

theorem place_of_seatAt {map : Tab 40 Entry} {p : PodPos} {n : Seat} (h : seatAt map p = some n) :
    (map.get n).place = some p := by
  simpa using List.find?_some h

/-! ## Composed indications (R35 to R38) -/

/-- A recomposed record, and every other as it was. -/
theorem compose_podAt (r : Room) (p q : PodPos) :
    (r.compose p).podAt q
      = if p = q then
          (r.podAt p).composed ((seatAt r.map.running p).isSome && !(r.line p.line).dark && (r.podAt p).present)
        else r.podAt q :=
  r.setPod_podAt p q _

/-- Composing changes the three indications of a record alone. -/
theorem composed_keeps (x : Pod) (lit : Bool) :
    (x.composed lit).facts = x.facts ∧ (x.composed lit).view = x.view ∧ (x.composed lit).blink = x.blink := by
  cases lit <;> exact ⟨rfl, rfl, rfl⟩

/-- The ring that a view calls for, as R36 lists it. -/
theorem ring_eq (v : View) :
    v.ring = if v.talking = true then .blinkRed
      else if v.mic = .standing then .red
      else if v.mic = .placed then .amber
      else if v.floor = .opened ∨ v.floor = .hold ∨ v.floor = .granted then .green
      else .off := by
  rcases v with ⟨floor, mic, talking, _⟩
  cases talking <;> cases mic <;> cases floor <;> rfl

/-- The talk lamp that a view calls for, as R37 lists it. -/
theorem talkLamp_eq (v : View) :
    v.talkLamp = if v.floor = .queued then .blink else if v.floor = .granted then .steady else .off := by
  rcases v with ⟨floor, _, _, _⟩
  cases floor <;> rfl

/-- The room lamp that a record calls for, as R37 lists it. -/
theorem roomLamp_eq (x : Pod) :
    x.roomLamp = if x.kind = .member then .off
      else if x.blink.isSome = true then .blink
      else if x.view.roomClaim = true then .steady
      else .off := by
  unfold Pod.roomLamp
  cases x.kind <;> simp

/-- What a position is to show depends on its record, its seat and its line's standby alone. -/
theorem shown_eq (r : Room) (p : PodPos) :
    r.shown p
      = if ((seatAt r.map.running p).isSome && !(r.line p.line).dark && (r.podAt p).present) = true then
          ((r.podAt p).view.ring, (r.podAt p).view.talkLamp, (r.podAt p).roomLamp)
        else (.off, .off, .off) := by
  unfold Room.shown
  rw [ring_eq, talkLamp_eq, roomLamp_eq]
  have lit : ((r.podAt p).present = true ∧ (∃ n : Seat, (r.map.running.get n).place = some p)
      ∧ (r.line p.line).dark = false)
      ↔ ((seatAt r.map.running p).isSome && !(r.line p.line).dark && (r.podAt p).present) = true := by
    rw [← seatAt_isSome_iff]
    simp only [Bool.and_eq_true, Bool.not_eq_true']
    tauto
  simp only [lit]

theorem compose_dark (r : Room) (p : PodPos) (l : LineNo) : ((r.compose p).line l).dark = (r.line l).dark :=
  get_of_map_eq (by simp) l

/-- A recomposed position shows what its view calls for. -/
theorem compose_shows (r : Room) (p : PodPos) : (r.compose p).Shows p := by
  have hmap : (r.compose p).map = r.map := (r.compose_keeps p).1
  unfold Room.Shows
  rw [shown_eq, hmap, compose_dark, compose_podAt, if_pos rfl]
  generalize hlit : ((seatAt r.map.running p).isSome && !(r.line p.line).dark && (r.podAt p).present) = lit
  have hpres : ∀ b, ((r.podAt p).composed b).present = (r.podAt p).present := by intro b; cases b <;> rfl
  rw [hpres, hlit]
  cases lit <;> rfl

/-! ## The downstream frame (R21) -/

/-- The position that a command in flight addresses, in the frame in which its 20 ms begin (R21; log 53). -/
theorem command_eq (x : Line) :
    x.command = match x.scan, x.probe with
      | some ⟨p, 20⟩, _ => some p
      | none, some ⟨p, 20⟩ => some p
      | _, _ => none := by
  unfold Line.command
  rcases x.scan with _ | ⟨p, left⟩
  · rcases x.probe with _ | ⟨p, left⟩
    · rfl
    · dsimp only
      split <;> split <;> simp_all
  · dsimp only
    split <;> split <;> simp_all

/-- The loudspeaker audio of a slot: the bus of the seat that its present pod serves, else silence (R21). -/
theorem loudAt_eq (r : Room) (p : PodPos) :
    (∀ n, (r.podAt p).present = true → seatAt r.map.running p = some n → r.loudAt p = r.busFrame (.loud n))
    ∧ ((r.podAt p).present = false ∨ seatAt r.map.running p = none → r.loudAt p = Tab.fill 48 0) := by
  unfold Room.loudAt
  cases seatAt r.map.running p with
  | none => simp [silence]
  | some n => simp +contextual [silence]

/-! ## The timers of a line -/

/-- One line changed is the table of lines with that line in its place. -/
theorem setLine_eq (r : Room) (l : LineNo) (f : Line → Line) :
    r.setLine l f = { r with lines := r.lines.set l (f (r.line l)) } := rfl

/-- Outside a scan a line is not SCANNING (R23). -/
theorem rest_ne_scanning (x : Line) : x.rest ≠ .scanning := by
  unfold Line.rest
  split <;> decide

/-- The probe timer that the probe condition of R29 calls for: it keeps its time while it runs. -/
theorem probeCheck_eq (x : Line) :
    x.probeCheck = { x with
      probeTimer := if x.lstate ≠ .scanning ∧ x.count < x.expected then some (x.probeTimer.getD 500) else none } := by
  unfold Line.probeCheck Line.probing
  rcases x with ⟨lstate, _, _, _, _, _, probeTimer, _, _, _, _⟩
  cases probeTimer <;> simp <;> split <;> simp_all

/-- Two changes of one line are one change. -/
theorem setLine_setLine (r : Room) (l : LineNo) (f g : Line → Line) :
    (r.setLine l f).setLine l g = r.setLine l fun x => g (f x) := by
  simp only [Room.setLine, Tab.modify, Tab.get_set_self]
  simp [Tab.set]

/-- The end of a scan of a line in SCANNING (R28): LINE_STATE and SCAN_DONE, and the probe timer. -/
theorem endScan_eq (r : Room) (l : LineNo) (h : (r.line l).lstate = .scanning) :
    let x := r.line l
    r.endScan l = { r with
      lines := r.lines.set l { x with
        scan := none, lstate := x.rest
        probeTimer := if x.count < x.expected then some (x.probeTimer.getD 500) else none }
      out := r.out ++ [.lineState l x.rest, .scanDone l x.count] } := by
  intro x
  have hrest : x.rest ≠ .scanning := rest_ne_scanning x
  let bare : Line → Line := fun y => { y with scan := none }
  have hstate : (r.setLine l bare).setLineState l x.rest
      = ((r.emit (.lineState l x.rest)).setLine l fun y => { y with scan := none, lstate := x.rest }) := by
    unfold Room.setLineState
    rw [Room.setLine_line, if_neg (by rw [show (bare (r.line l)).lstate = .scanning from h]; exact hrest.symm),
      setLine_setLine]
    rfl
  have hend : r.endScan l
      = (((r.emit (.lineState l x.rest)).emit (.scanDone l x.count)).setLine l fun y =>
          Line.probeCheck { y with scan := none, lstate := x.rest }) := by
    unfold Room.endScan
    simp only [Room.setLine_line]
    rw [show (Line.rest { r.line l with scan := none }) = x.rest from rfl, hstate, Room.setLine_line]
    exact setLine_setLine ((r.emit (.lineState l x.rest)).emit (.scanDone l x.count)) l _ _
  rw [hend, setLine_eq, probeCheck_eq]
  simp only [show ∀ y : Line, Line.count { y with scan := none, lstate := x.rest } = y.count from fun _ => rfl, ne_eq,
    hrest, not_false_eq_true, true_and, Room.emit, List.append_assoc, List.cons_append, List.nil_append]
  rfl

/-- The probe timer that runs out probes the first absent position (R29). -/
theorem probeExpiry_eq (r : Room) (l : LineNo) {left : Nat} (h : (r.line l).probeTimer = some left) :
    let x := r.line l
    r.probeExpiry l = { r with lines := r.lines.set l { x with
      probe := ((List.finRange 20).find? fun p => !(x.pods.get p).present).map fun p => ⟨p, 20⟩
      probeTimer := if x.lstate ≠ .scanning ∧ x.count < x.expected then some 500 else none } } := by
  have runs : (r.line l).probeTimer.isNone = false := by rw [h]; rfl
  simp [Room.probeExpiry, runs, setLine_eq, Line.probeTarget, Line.probing, allPositions]

/-- The end of a blink: the record's indications recomposed, its view and its facts as they were, no other record
changed (R37). -/
theorem blinkEnd_leaves (r : Room) (p : PodPos) :
    ((r.blinkEnd p).podAt p).blink = none ∧ ((r.podAt p).blink.isSome = true → (r.blinkEnd p).Shows p)
    ∧ ((r.blinkEnd p).podAt p).view = (r.podAt p).view ∧ ((r.blinkEnd p).podAt p).facts = (r.podAt p).facts
    ∧ ∀ q, q ≠ p → (r.blinkEnd p).podAt q = r.podAt q := by
  unfold Room.blinkEnd
  cases hblink : (r.podAt p).blink with
  | none => simp [hblink]
  | some left =>
    simp only [Option.isNone_some, Bool.false_eq_true, if_false]
    refine ⟨?_, fun _ => compose_shows _ p, ?_, ?_, fun q hq => ?_⟩
    · rw [compose_podAt, if_pos rfl, (composed_keeps _ _).2.2, Room.setPod_podAt, if_pos rfl]
    · rw [compose_podAt, if_pos rfl, (composed_keeps _ _).2.1, Room.setPod_podAt, if_pos rfl]
    · rw [compose_podAt, if_pos rfl, (composed_keeps _ _).1, Room.setPod_podAt, if_pos rfl]
      rfl
    · rw [compose_podAt, if_neg hq.symm, Room.setPod_podAt, if_neg hq.symm]

/-- The end of a blink leaves nothing under way. -/
theorem blinkEnd_settled {r : Room} (h : r.Settled) (p : PodPos) : (r.blinkEnd p).Settled := by
  unfold Room.blinkEnd
  split
  · exact h
  · simpa [Room.Settled] using h

/-- Settles O28: the downstream frame by `command_eq` and `loudAt_eq`, then one rule for each timer. -/
theorem lineTimersExpire : Obligations.LineTimersExpire := by
  unfold Obligations.LineTimersExpire
  refine ⟨fun s l => ⟨fun hheld => ?_, fun hheld => ?_⟩, fun s l ⟨hheld, hsettled⟩ => ?_⟩
  · simp [State.downFrame, hheld]
  · refine ⟨_, by simp only [State.downFrame, hheld]; rfl, fun p => ?_, command_eq _⟩
    have hloud := loudAt_eq s.room ⟨l, p⟩
    simp only [Tab.get_ofFn]
    exact ⟨rfl, rfl, rfl, hloud⟩
  · dsimp only
    refine ⟨congrArg _ (act_of_settled hheld rfl hsettled), fun hnone => ?_, fun left hleft => ?_, fun hscan => ?_,
      fun hscan hstate => ?_, fun p => ⟨fun hblink => ?_, s.room.blinkEnd ⟨l, p⟩, ?_⟩⟩
    · have same : s.room.probeExpiry l = s.room := by simp [Room.probeExpiry, hnone]
      exact congrArg _ (act_of_settled hheld same hsettled)
    · exact congrArg _ (act_of_settled (f := fun r => r.probeExpiry l) hheld (probeExpiry_eq s.room l hleft) hsettled)
    · have ended : s.room.enumTimeout l = s.room.setLine l fun x => { x with probe := none } := by
        simp [Room.enumTimeout, hscan]
      exact congrArg _ (act_of_settled (f := fun r => r.enumTimeout l) hheld ended hsettled)
    · have ended : s.room.enumTimeout l = s.room.endScan l := by simp [Room.enumTimeout, hscan]
      have sent := act_of_idle (f := fun r => r.enumTimeout l) hheld (ended.trans (endScan_eq s.room l hstate))
        hsettled.2.1 hsettled.2.2
      rw [hsettled.1] at sent
      refine congrArg _ (sent.trans (congrArg _ ?_))
      rw [← hsettled.1]
      rfl
    · have same : s.room.blinkEnd ⟨l, p⟩ = s.room := if_pos (by rw [show (s.room.podAt ⟨l, p⟩).blink = none from hblink]; rfl)
      exact congrArg _ (act_of_settled hheld same hsettled)
    · obtain ⟨hblink, hshows, hview, hfacts, hothers⟩ := blinkEnd_leaves s.room ⟨l, p⟩
      have sent := act_of_settled (f := fun r => r.blinkEnd ⟨l, p⟩) hheld rfl (blinkEnd_settled hsettled ⟨l, p⟩)
      refine ⟨congrArg _ sent, hblink, hshows, hview, hfacts, ?_, hothers⟩
      simp [Room.standing]

end Sys2Proof.Machine.PodLines
end

section
/-! The reads of the blocks (R41, R53, R83, R84, R116, R139, R151, R171, R182): the code of each named value is its place in
the list of its chapter, and each read's bytes are the fields that its rule lists. -/

namespace Sys2Proof.Machine.PodLines

/-! ## The codes of named values (R188) -/

theorem listed_lineState (v : LineState) : listed [.scanning, .up, .down] v = v.byte := by cases v <;> rfl
theorem listed_rehearseMode (v : RehearseMode) : listed [.drop, .brk] v = v.byte := by cases v <;> rfl
theorem listed_podKind (v : PodKind) : listed [.member, .chair] v = podKindByte v := by cases v <;> rfl
theorem listed_ring (v : Ring) : listed [.off, .green, .amber, .red, .blinkRed] v = v.byte := by cases v <;> rfl
theorem listed_lamp (v : Lamp) : listed [.off, .steady, .blink] v = v.byte := by cases v <;> rfl
theorem listed_detState (v : DetState) : listed [.silent, .rising, .speech, .falling] v = v.byte := by cases v <;> rfl
theorem listed_presence (v : Presence) : listed [.present, .absent, .vacant] v = v.byte := by cases v <;> rfl
theorem listed_muteKind (v : MuteKind) : listed [.standing, .placed, .free] v = v.byte := by cases v <;> rfl
theorem listed_cause (v : Cause) : listed [.free, .privacy, .feedback, .room, .chair, .far, .self] v = v.byte := by
  cases v <;> rfl
theorem listed_gate (v : GateState) : listed [.closed, .waiting, .opened, .hold, .queued, .granted] v = v.byte := by
  cases v <;> rfl
theorem listed_floorMode (v : FloorMode) : listed [.opened, .auto, .request] v = v.byte := by cases v <;> rfl
theorem listed_linkSt (v : LinkSt) : listed [.idle, .joining, .joined, .held, .leaving, .fault] v = v.byte := by
  cases v <;> rfl
theorem listed_callSt (v : CallSt) : listed [.idle, .live, .standby] v = v.byte := by cases v <;> rfl
theorem listed_fbMode (v : FbMode) : listed [.report, .latch, .retry] v = v.byte := by cases v <;> rfl
theorem listed_slotState (v : SlotState) : listed [.empty, .valid, .bad] v = v.byte := by cases v <;> rfl

/-- A list of varying length of one byte for each item (R188). -/
theorem counting_map {α : Type} (l : List α) (f : α → Byte) : counting (l.map f) = byteOf l.length :: l.map f := by
  rw [counting, List.length_map]

/-! ## Answers that change nothing -/

/-- A read that its owner answers with data (R195). -/
theorem request_reads {s : State} (hs : s.Free) (k : ReqKind) (tag : Byte) (body : List Byte)
    (g : List Byte → Room → Room × Answer) (hk : ∀ s, k.take body s = ownerTakes g body s) {data bytes : List Byte}
    (hg : g body s.room = (s.room, okWith data)) (hdata : data = bytes) :
    (.next (s.request k tag body) : Result) = .next (s.told ⟨k.byte, tag, body⟩ .ok bytes) :=
  congrArg _ ((State.request_told s hs k tag body g hk hg).trans (by rw [hdata]))

/-- A request that its owner refuses (R195). -/
theorem request_refused {s : State} (hs : s.Free) (k : ReqKind) (tag : Byte) (body : List Byte)
    (g : List Byte → Room → Room × Answer) (hk : ∀ s, k.take body s = ownerTakes g body s) {status : Status}
    (hg : g body s.room = (s.room, bare status)) :
    (.next (s.request k tag body) : Result) = .next (s.told ⟨k.byte, tag, body⟩ status []) :=
  congrArg _ (State.request_told s hs k tag body g hk hg)

/-- A byte outside 1 to `n` names no thing counted from 1. -/
theorem numbered_none {n : Nat} {b : Byte} (h : b.toNat = 0 ∨ n < b.toNat) : numbered n b = none := by
  unfold numbered
  rw [dif_neg (by omega)]

/-! ## LINE_READ (R41) -/

theorem effTerm_eq (x : Line) :
    x.effTerm = match x.rehearsal with
      | some ⟨.brk, p, _⟩ => min x.termReported p.val
      | _ => x.termReported := by
  unfold Line.effTerm
  rcases x.rehearsal with _ | ⟨_ | _, _, _⟩ <;> rfl

theorem probeBytes_eq (x : Line) :
    x.probeBytes = match x.probeTimer with
      | none => [0, 0, 0]
      | some left => (match (List.finRange 20).find? fun p => !(x.pods.get p).present with
        | none => 0
        | some p => byteOf (p.val + 1)) :: bytes2 left := by
  unfold Line.probeBytes Line.probeTarget allPositions
  cases x.probeTimer with
  | none => rfl
  | some left => cases (List.finRange 20).find? fun p => !(x.pods.get p).present <;> rfl

theorem rehearsalBytes_eq (x : Line) :
    x.rehearsalBytes = match x.rehearsal with
      | none => [0, 0, 0, 0]
      | some y => [listed [RehearseMode.drop, .brk] y.mode, byteOf (y.pos.val + 1)] ++ bytes2 y.left := by
  unfold Line.rehearsalBytes
  simp only [listed_rehearseMode]
  cases x.rehearsal <;> rfl

theorem scanByte_eq (x : Line) :
    optNum (x.scan.map (·.pos)) = match x.scan with
      | none => 0
      | some e => byteOf (e.pos.val + 1) := by
  cases x.scan <;> rfl

theorem podBytes_eq (r : Room) (p : PodPos) :
    r.podBytes p =
      [boolByte (r.podAt p).present, listed [PodKind.member, .chair] (r.podAt p).kind, boolByte (r.podAt p).privacy,
        byteOf (r.podAt p).bad, listed [Ring.off, .green, .amber, .red, .blinkRed] (r.podAt p).ring,
        listed [Lamp.off, .steady, .blink] (r.podAt p).talk, listed [Lamp.off, .steady, .blink] (r.podAt p).room,
        match seatAt r.map.running p with
        | none => 0
        | some n => byteOf (n.val + 1)] := by
  simp only [Room.podBytes, listed_podKind, listed_ring, listed_lamp]
  cases seatAt r.map.running p <;> rfl

theorem lineBytes_eq (r : Room) (l : LineNo) :
    let x := r.line l
    r.lineBytes l =
      [listed [LineState.scanning, .up, .down] x.lstate, byteOf x.expected, byteOf x.lostLimit, byteOf x.termReported,
        byteOf (match x.rehearsal with
          | some ⟨.brk, p, _⟩ => min x.termReported p.val
          | _ => x.termReported)]
      ++ (match x.probeTimer with
        | none => [0, 0, 0]
        | some left => (match (List.finRange 20).find? fun p => !(x.pods.get p).present with
          | none => 0
          | some p => byteOf (p.val + 1)) :: bytes2 left)
      ++ [match x.scan with
        | none => 0
        | some e => byteOf (e.pos.val + 1)]
      ++ (match x.rehearsal with
        | none => [0, 0, 0, 0]
        | some y => [listed [RehearseMode.drop, .brk] y.mode, byteOf (y.pos.val + 1)] ++ bytes2 y.left)
      ++ (List.finRange 20).flatMap fun p =>
        let pod := x.pods.get p
        [boolByte pod.present, listed [PodKind.member, .chair] pod.kind, boolByte pod.privacy, byteOf pod.bad,
          listed [Ring.off, .green, .amber, .red, .blinkRed] pod.ring, listed [Lamp.off, .steady, .blink] pod.talk,
          listed [Lamp.off, .steady, .blink] pod.room,
          match seatAt r.map.running ⟨l, p⟩ with
          | none => 0
          | some n => byteOf (n.val + 1)] := by
  intro x
  have hpods : (allPositions.flatMap fun p => r.podBytes ⟨l, p⟩) = _ :=
    congrArg (fun f => allPositions.flatMap f) (funext fun p => podBytes_eq r ⟨l, p⟩)
  simp only [Room.lineBytes]
  rw [hpods, probeBytes_eq, rehearsalBytes_eq, scanByte_eq, effTerm_eq, listed_lineState]
  rfl

/-! ## MUTE_LIST and MUTE_READ (R83, R84) -/

theorem claimBytes_eq (c : Claim) :
    c.bytes = byteOf c.number.val ::
      ((match c.who with
        | .room => ([3, 0] : List Byte)
        | .chair n => [4, byteOf (n.val + 1)]
        | .far k => [5, byteOf (k.val + 1)])
      ++ (match c.scope with
        | .seat n => ([1, byteOf (n.val + 1)] : List Byte)
        | .group g => [2, byteOf (g.val + 1)]
        | .members => [3, 0]
        | .everyone => [4, 0]
        | .link k => [5, byteOf (k.val + 1)])
      ++ [match c.dir with
        | .mic => (1 : Byte)
        | .speaker => 2
        | .send => 3
        | .ret => 4]
      ++ bytes2 ((c.expiry.getD 0 + 999) / 1000)) := by
  have hwho : [c.who.cls.byte, c.who.identity] = match c.who with
      | .room => ([3, 0] : List Byte)
      | .chair n => [4, byteOf (n.val + 1)]
      | .far k => [5, byteOf (k.val + 1)] := by
    cases c.who <;> rfl
  have hscope : [c.scope.kindByte, c.scope.indexByte] = match c.scope with
      | .seat n => ([1, byteOf (n.val + 1)] : List Byte)
      | .group g => [2, byteOf (g.val + 1)]
      | .members => [3, 0]
      | .everyone => [4, 0]
      | .link k => [5, byteOf (k.val + 1)] := by
    cases c.scope <;> rfl
  have hdir : c.dir.byte = match c.dir with
      | .mic => (1 : Byte)
      | .speaker => 2
      | .send => 3
      | .ret => 4 := by
    cases c.dir <;> rfl
  rw [← hwho, ← hscope, ← hdir]
  rfl

theorem muteList_eq (table : List Claim) (b : Byte) (h : b.toNat < 48) (r : Room) (hr : r.mute.table = table) :
    reqMuteList [b] r = (r, okWith ([byteOf table.length, b, byteOf (min 10 (table.length - b.toNat))]
      ++ ((table.drop b.toNat).take 10).flatMap Claim.bytes)) := by
  simp [reqMuteList, h, hr]

/-- The numbers of the claims of a direction that cover a seat (R61, R84). -/
theorem claimsOver_eq (r : Room) (n : Seat) (d : Dir) :
    r.claimsOver n d = r.mute.table.filter fun c => decide (c.dir = d) &&
      match c.scope with
      | .seat m => decide (m = n)
      | .group g => (r.map.groups.get g).get n
      | .members => decide ((r.map.running.get n).role = .member)
      | .everyone => true
      | .link _ => false := by
  unfold Room.claimsOver
  congr 1
  funext c
  congr 1
  cases c.scope with
  | members =>
    show (!decide ((r.map.running.get n).role = .chair)) = _
    cases (r.map.running.get n).role <;> rfl
  | seat | group | everyone | link => rfl

theorem muteBytes_eq (r : Room) (n : Seat) :
    let x := r.mseat n
    let e := r.eff n
    r.muteBytes n =
      [listed [Presence.present, .absent, .vacant] (r.presence n), boolByte x.privacy, boolByte x.self,
        boolByte x.feedback, boolByte e.micMuted, listed [Cause.free, .privacy, .feedback, .room, .chair, .far, .self]
        e.micCause, listed [MuteKind.standing, .placed, .free] e.kind, boolByte e.spkMuted,
        listed [Cause.free, .privacy, .feedback, .room, .chair, .far, .self] e.spkCause, boolByte x.spell]
      ++ (byteOf (r.claimsOver n .mic).length :: (r.claimsOver n .mic).map fun c => byteOf c.number.val)
      ++ (byteOf (r.claimsOver n .speaker).length :: (r.claimsOver n .speaker).map fun c => byteOf c.number.val) := by
  simp only [listed_presence, listed_cause, listed_muteKind, Room.muteBytes, claimNumbers, counting_map]

theorem linkMuteBytes_eq (r : Room) (k : Link) :
    let e := r.mute.links.get k
    r.linkMuteBytes k
      = [boolByte e.send, if e.send = true then 3 else 0, boolByte e.ret, if e.ret = true then 3 else 0] := by
  simp only [Room.linkMuteBytes, linkCause]
  cases (r.mute.links.get k).send <;> cases (r.mute.links.get k).ret <;> rfl

theorem claimsOnLink_numbers (r : Room) (k : Link) :
    claimNumbers (r.claimsOnLink k)
      = byteOf (r.mute.table.filter fun c => decide (c.scope = .link k)).length
        :: (r.mute.table.filter fun c => decide (c.scope = .link k)).map fun c => byteOf c.number.val :=
  counting_map _ _

theorem muteRead_range (r : Room) (b c : Byte)
    (h : 1 < b.toNat ∨ c.toNat = 0 ∨ b = 0 ∧ 40 < c.toNat ∨ b = 1 ∧ 4 < c.toNat) :
    reqMuteRead [b, c] r = (r, bare .range) := by
  unfold reqMuteRead
  dsimp only
  split
  · rename_i h0
    have hb : b = 0 := BitVec.eq_of_toNat_eq h0
    rw [numbered_none (by subst hb; simp at h; omega)]
  · rename_i h1
    have hb : b = 1 := BitVec.eq_of_toNat_eq h1
    rw [numbered_none (by subst hb; simp at h; omega)]
  · rfl

end Sys2Proof.Machine.PodLines
end

section
/-! The reads of the detectors, of the floor, of the mix, of the links, of the feedback monitor and of the store. -/

namespace Sys2Proof.Machine.PodLines

/-! ## DETECT_READ (R53) -/

theorem detBytes_eq (d : Detector) :
    d.bytes = [boolByte d.held, listed [DetState.silent, .rising, .speech, .falling] d.dstate] ++ signed2 d.level
      ++ signed2 ((d.noiseFloor + 250) / 500) ++ signed2 d.reference ++ [byteOf d.acc, boolByte d.due]
      ++ bytes2 d.endTimer ++ [byteOf (d.seed.getD 0)] ++ bytes2 (d.rise.getD 0) ++ bytes2 (d.fall.getD 0)
      ++ [byteOf d.settings.onsetMargin, byteOf d.settings.echoMargin, byteOf d.settings.onsetTime]
      ++ bytes2 d.settings.endTime ++ bytes2 d.settings.riseBlank ++ bytes2 d.settings.fallGuard := by
  rw [listed_detState, Detector.bytes, DetSettings.bytes]
  simp only [List.append_assoc]
  rfl

/-! ## FLOOR_READ (R116) -/

/-- The gates at which a seat is open (R86). -/
theorem isOpen_iff (g : GateState) : g.isOpen = true ↔ g = .opened ∨ g = .hold ∨ g = .granted := by
  cases g <;> decide

/-- The open count is the number of open seats (R87). -/
theorem count_eq (f : Floor) :
    f.count = ((List.finRange 40).filter fun n => decide ((f.seats.get n).gate = .opened ∨ (f.seats.get n).gate = .hold
      ∨ (f.seats.get n).gate = .granted)).length := by
  rw [Floor.count, List.countP_eq_length_filter]
  congr 2
  funext n
  rw [Bool.eq_iff_iff, isOpen_iff, decide_eq_true_iff]

theorem chairFree_eq (r : Room) (n : Seat) :
    r.chairFree n = decide (r.floor.settings.chairFree = true ∧ r.floor.settings.mode ≠ .opened
      ∧ (r.map.running.get n).role = .chair) := by
  rw [Bool.eq_iff_iff]
  simp only [Room.chairFree, Room.isChair, Room.entry, Bool.and_eq_true, decide_eq_true_eq, and_assoc]
  exact and_congr_right fun _ => and_congr_right fun _ => decide_eq_true_iff

theorem held_eq (x : FloorSeat) : x.held = decide (x.gate = .queued ∧ x.muted = true) := by
  rw [Bool.eq_iff_iff]
  simp [FloorSeat.held]

/-- The quiet condition (R108). -/
theorem quietNow_eq (r : Room) :
    r.quietNow = decide (r.floor.openList = [] ∧ r.floor.waitList = []
      ∧ ∀ n : Seat, ¬ ((r.floor.settings.chairFree = true ∧ r.floor.settings.mode ≠ .opened
        ∧ (r.map.running.get n).role = .chair)
        ∧ ((r.fseat n).gate = .opened ∨ (r.fseat n).gate = .hold))) := by
  rw [Bool.eq_iff_iff, decide_eq_true_iff]
  simp only [Room.quietNow, chairFree_eq, allSeats, Room.fseat, Bool.and_eq_true, List.isEmpty_iff, List.all_eq_true,
    List.mem_finRange, forall_const, Bool.not_eq_true', Bool.and_eq_false_iff, Bool.or_eq_false_iff, decide_eq_false_iff_not,
    and_assoc]
  refine and_congr_right fun _ => and_congr_right fun _ => forall_congr' fun n => ?_
  tauto

theorem timerBytes_eq (t : SeatTimer) :
    t.bytes = match t with
      | .off => ([0, 0, 0] : List Byte)
      | .hold left => 1 :: bytes2 left
      | .idle left => 2 :: bytes2 ((left + 999) / 1000) := by
  cases t <;> rfl

theorem floorSettings_eq (f : FloorSettings) :
    f.bytes = [listed [FloorMode.opened, .auto, .request] f.mode, byteOf f.limit] ++ bytes2 f.hold
      ++ [boolByte f.lastMic, boolByte f.autoGrant, boolByte f.chairFree] ++ bytes2 f.idle
      ++ [byteOf f.attack] ++ bytes2 f.release := by
  rw [listed_floorMode, FloorSettings.bytes]

/-- One seat of a FLOOR_READ block. -/
theorem floorSeatBytes_eq (r : Room) (n : Seat) :
    r.floorSeatBytes n =
      [listed [GateState.closed, .waiting, .opened, .hold, .queued, .granted] (r.fseat n).gate,
        boolByte (r.fseat n).speaking, boolByte (decide ((r.fseat n).gate = .queued ∧ (r.fseat n).muted = true)),
        boolByte (r.fseat n).kept,
        boolByte (decide (r.floor.settings.chairFree = true ∧ r.floor.settings.mode ≠ .opened
          ∧ (r.map.running.get n).role = .chair))]
      ++ match (r.fseat n).timer with
        | .off => ([0, 0, 0] : List Byte)
        | .hold left => 1 :: bytes2 left
        | .idle left => 2 :: bytes2 ((left + 999) / 1000) := by
  rw [Room.floorSeatBytes, timerBytes_eq, held_eq, chairFree_eq, listed_gate]

theorem floorBytes_eq (r : Room) (b : Byte) :
    let f := r.floor
    let gate := listed [GateState.closed, .waiting, .opened, .hold, .queued, .granted]
    let held := fun n : Seat => (r.fseat n).gate = .queued ∧ (r.fseat n).muted = true
    r.floorBytes b =
      [listed [FloorMode.opened, .auto, .request] f.settings.mode, byteOf f.settings.limit] ++ bytes2 f.settings.hold
      ++ [boolByte f.settings.lastMic, boolByte f.settings.autoGrant, boolByte f.settings.chairFree]
      ++ bytes2 f.settings.idle ++ [byteOf f.settings.attack] ++ bytes2 f.settings.release
      ++ [boolByte f.standby,
        boolByte (decide (f.openList = [] ∧ f.waitList = []
          ∧ ∀ n : Seat, ¬ ((f.settings.chairFree = true ∧ f.settings.mode ≠ .opened
            ∧ (r.map.running.get n).role = .chair) ∧ ((r.fseat n).gate = .opened ∨ (r.fseat n).gate = .hold)))),
        byteOf ((List.finRange 40).filter fun n => decide ((r.fseat n).gate = .opened ∨ (r.fseat n).gate = .hold
          ∨ (r.fseat n).gate = .granted)).length]
      ++ (byteOf f.openList.length :: f.openList.flatMap fun n =>
        [byteOf (n.val + 1), gate (r.fseat n).gate, boolByte (r.fseat n).kept])
      ++ (byteOf f.waitList.length :: f.waitList.map fun n => byteOf (n.val + 1))
      ++ (byteOf f.queue.length :: f.queue.flatMap fun n => [byteOf (n.val + 1), boolByte (decide (held n))])
      ++ b :: ((List.finRange 40).filter fun n => decide (b.toNat ≤ n.val + 1 ∧ n.val + 1 < b.toNat + 20)).flatMap
        fun n =>
          [gate (r.fseat n).gate, boolByte (r.fseat n).speaking, boolByte (decide (held n)), boolByte (r.fseat n).kept,
            boolByte (decide (f.settings.chairFree = true ∧ f.settings.mode ≠ .opened
              ∧ (r.map.running.get n).role = .chair))]
          ++ match (r.fseat n).timer with
            | .off => ([0, 0, 0] : List Byte)
            | .hold left => 1 :: bytes2 left
            | .idle left => 2 :: bytes2 ((left + 999) / 1000) := by
  intro f gate held
  have hblock : (allSeats.filter fun n => b.toNat ≤ numberOf n && numberOf n < b.toNat + 20)
      = (List.finRange 40).filter fun n => decide (b.toNat ≤ n.val + 1 ∧ n.val + 1 < b.toNat + 20) :=
    congrArg (fun p => (List.finRange 40).filter p) (funext fun n => (Bool.decide_and ..).symm)
  have hgate : gate = GateState.byte := funext listed_gate
  rw [Room.floorBytes, floorSettings_eq, quietNow_eq, count_eq, counting_map, hblock,
    show r.floorSeatBytes = _ from funext (floorSeatBytes_eq r), hgate]
  simp only [held_eq, listed_gate]
  rfl

/-! ## MIX_READ (R119, R122, R139) -/

theorem foldl_add_eq (gs : List Gain) (a : Int) :
    gs.foldl Gain.add (.db a) = if Gain.off ∈ gs then .off else .db (a + (gs.map fun g => match g with
      | .db v => v
      | .off => 0).sum) := by
  induction gs generalizing a with
  | nil => simp
  | cons g gs ih =>
    cases g with
    | off =>
      rw [if_pos (List.mem_cons_self ..)]
      exact sumGains_off gs
    | db v =>
      simp only [List.foldl_cons, Gain.add, ih, List.mem_cons, reduceCtorEq, false_or, List.map_cons, List.sum_cons,
        add_assoc]

/-- The sum of some gains, as R122 lists it. -/
theorem sumGains_eq (gs : List Gain) : sumGains gs = totalGain gs := by
  rw [sumGains, foldl_add_eq, totalGain]
  simp only [zero_add] <;> rfl

/-- The components of a term are its parts (R122). -/
theorem termComps_parts (m : Mix) (b : Bus) (x : Source) : (termComps b x).map m.comp = m.termParts b x := by
  cases b <;> rcases x with _ | _ | (_ | _) | _ <;> rfl

theorem currentOf_eq (m : Mix) (b : Bus) (x : Source) : m.currentOf (termComps b x) = m.termNow b x := by
  rw [Mix.termNow, ← termComps_parts, List.map_map, ← sumGains_eq]
  rfl

theorem targetOf_eq (m : Mix) (b : Bus) (x : Source) : m.targetOf (termComps b x) = m.termGoal b x := by
  rw [Mix.termGoal, ← termComps_parts, List.map_map, ← sumGains_eq]
  rfl

theorem leftOf_eq (m : Mix) (b : Bus) (x : Source) :
    m.leftOf (termComps b x) = ((m.termParts b x).map Comp.left).foldl max 0 := by
  rw [← termComps_parts, List.map_map]
  rfl

theorem carried_eq (m : Mix) (b : Bus) :
    m.carried b = b.terms.filter fun x => decide (m.termNow b x ≠ .off ∨ m.termGoal b x ≠ .off) := by
  unfold Mix.carried
  congr 1
  funext x
  rw [currentOf_eq, targetOf_eq, Bool.eq_iff_iff]
  simp

theorem busOf_loud {i : Byte} {n : Seat} (h : i.toNat = n.val + 1) : busOf i = some (.loud n) := by
  rw [busOf, (numbered_iff (by decide)).2 h]

/-- Each bus is named by its number (R188). -/
theorem busOf_number (b : Bus) (i : Byte) (h : i.toNat = b.index.val + 1) : busOf i = some b := by
  cases b with
  | loud n => exact busOf_loud h
  | send k =>
    obtain rfl : i = byteOf (41 + k.val) := BitVec.eq_of_toNat_eq (by
      rw [h, byteOf_small (by omega)]; simp only [Bus.index]; omega)
    fin_cases k <;> rfl
  | recorder => obtain rfl : i = 45 := BitVec.eq_of_toNat_eq h; rfl
  | assist => obtain rfl : i = 46 := BitVec.eq_of_toNat_eq h; rfl

theorem busOf_none {i : Byte} (h : 46 < i.toNat) : busOf i = none := by
  rw [busOf, numbered_none (Or.inr (by omega))]
  dsimp only
  split
  case h_7 => rfl
  all_goals omega

theorem listed_levelByte (v : Option Int) : levelByte v = signedByte (v.getD (-128)) := by
  cases v <;> rfl

/-- What MIX_READ gives with index 0. -/
theorem mixBytes_eq (m : Mix) :
    let x := m.settings
    x.bytes ++ [byteOf m.countIn, boolByte m.standby]
      = x.srcTrim.toList.map signedByte ++ x.busTrim.toList.map signedByte
        ++ [signedByte (x.reinforcement.getD (-128)), signedByte (x.program.getD (-128)),
          signedByte (x.assist.getD (-128)), byteOf x.near, boolByte x.bridging, byteOf x.muteRamp, boolByte x.tonesOn,
          signedByte x.toneLevel, byteOf m.countIn, boolByte m.standby] := by
  intro x
  simp only [MixSettings.bytes, listed_levelByte, List.append_assoc, List.cons_append, List.nil_append]

theorem gainByte_eq (g : Gain) :
    gainByte g = match g with
      | .off => signedByte (-128)
      | .db v => signedByte (max (-120) (min 24 ((v + 250) / 500))) := by
  cases g <;> rfl

/-- The number of a source in a term list (R188). -/
theorem number_eq (x : Source) :
    byteOf x.number = match x with
      | .mic n => byteOf (n.val + 1)
      | .far k => byteOf (41 + k.val)
      | .program false => (45 : Byte)
      | .program true => 46
      | .tone _ => 47 := by
  rcases x with _ | k | (_ | _) | _
  case far =>
    refine congrArg byteOf ?_
    change 40 + k.val + 1 = 41 + k.val
    omega
  all_goals rfl

/-- A carried term as MIX_READ gives it. -/
theorem termBytes_eq (m : Mix) (b : Bus) (x : Source) :
    m.termBytes b x =
      [match x with
        | .mic n => byteOf (n.val + 1)
        | .far k => byteOf (41 + k.val)
        | .program false => (45 : Byte)
        | .program true => 46
        | .tone _ => 47,
        match m.termNow b x with
        | .off => signedByte (-128)
        | .db v => signedByte (max (-120) (min 24 ((v + 250) / 500))),
        match m.termGoal b x with
        | .off => signedByte (-128)
        | .db v => signedByte (max (-120) (min 24 ((v + 250) / 500)))]
      ++ bytes2 (((m.termParts b x).map Comp.left).foldl max 0) := by
  rw [← number_eq, ← gainByte_eq, ← gainByte_eq, Mix.termBytes]
  simp only [currentOf_eq, targetOf_eq, leftOf_eq]

/-- The whole-bus components as MIX_READ gives them. -/
theorem busComps_eq (m : Mix) (b : Bus) :
    let comp := fun c : Comp => [gainByte c.current, gainByte c.target] ++ bytes2 c.left
    (busComps b).flatMap m.compBytes = match b with
      | .loud n => comp (m.speakerMute.get n) ++ comp (m.fbOffset.get n) ++ comp (m.busTrim.get ⟨n.val, by omega⟩)
      | .send k => comp (m.sendMute.get k) ++ comp (m.linkState.get k) ++ comp (m.busTrim.get ⟨40 + k.val, by omega⟩)
      | .recorder => comp (m.busTrim.get 44)
      | .assist => comp (m.busTrim.get 45) := by
  cases b <;> rfl

theorem busBytes_eq (m : Mix) (b : Bus) :
    let gain := fun g : Gain =>
      match g with
      | .off => signedByte (-128)
      | .db v => signedByte (max (-120) (min 24 ((v + 250) / 500)))
    let comp := fun c : Comp => [gain c.current, gain c.target] ++ bytes2 c.left
    let carried := b.terms.filter fun x => decide (m.termNow b x ≠ .off ∨ m.termGoal b x ≠ .off)
    m.busBytes b =
      byteOf (b.index.val + 1) :: (match b with
        | .loud n => comp (m.speakerMute.get n) ++ comp (m.fbOffset.get n) ++ comp (m.busTrim.get ⟨n.val, by omega⟩)
        | .send k => comp (m.sendMute.get k) ++ comp (m.linkState.get k) ++ comp (m.busTrim.get ⟨40 + k.val, by omega⟩)
        | .recorder => comp (m.busTrim.get 44)
        | .assist => comp (m.busTrim.get 45))
      ++ byteOf carried.length :: carried.flatMap fun x =>
        [match x with
          | .mic n => byteOf (n.val + 1)
          | .far k => byteOf (41 + k.val)
          | .program false => (45 : Byte)
          | .program true => 46
          | .tone _ => 47,
          gain (m.termNow b x), gain (m.termGoal b x)]
        ++ bytes2 (((m.termParts b x).map Comp.left).foldl max 0) := by
  intro gain comp carried
  have hcomp : comp = fun c : Comp => [gainByte c.current, gainByte c.target] ++ bytes2 c.left := by
    funext c
    simp only [comp, gain, gainByte_eq]
  simp only [Mix.busBytes]
  rw [busComps_eq, ← hcomp, carried_eq, show m.termBytes b = _ from funext (termBytes_eq m b)]
  simp only [List.append_assoc, List.cons_append, List.nil_append]
  rfl

/-! ## LINK_READ (R151) -/

theorem rateByte_eq (v : Option Nat) :
    rateByte v = match v with
      | none => signedByte (-128)
      | some v => signedByte (max (-127) (min 127 (((v : Int) - 48000 + 24) / 48))) := by
  cases v <;> rfl

theorem phaseByte_eq (p : Option Phase) : (p.map Phase.byte).getD 0 = if p = some .ramp then 1 else 0 := by
  rcases p with _ | _ | _ <;> rfl

theorem linkBytes_eq (r : Room) (k : Link) :
    let x := r.linkRec k
    let c := r.mix.linkState.get k
    let e := r.mute.links.get k
    let far := r.mute.table.filter fun c => decide (c.who = .far k)
    let upon := r.mute.table.filter fun c => decide (c.scope = .link k)
    r.linkBytes k =
      [listed [LinkSt.idle, .joining, .joined, .held, .leaving, .fault] x.st,
        if x.phase = some .ramp then 1 else 0, boolByte x.locked,
        match x.rate with
        | none => signedByte (-128)
        | some v => signedByte (max (-127) (min 127 (((v : Int) - 48000 + 24) / 48))),
        byteOf x.qual]
      ++ bytes2 (x.joinTimer.getD 0)
      ++ [match c.current with
        | .off => signedByte (-128)
        | .db v => signedByte (max (-120) (min 24 ((v + 250) / 500))),
        match c.target with
        | .off => signedByte (-128)
        | .db v => signedByte (max (-120) (min 24 ((v + 250) / 500))),
        byteOf c.left, boolByte x.outstanding]
      ++ [boolByte e.send, if e.send = true then 3 else 0, boolByte e.ret, if e.ret = true then 3 else 0]
      ++ (byteOf far.length :: far.map fun c => byteOf c.number.val)
      ++ (byteOf upon.length :: upon.map fun c => byteOf c.number.val)
      ++ [signedByte (r.mix.settings.srcTrim.get ⟨40 + k.val, by omega⟩),
        signedByte (r.mix.settings.busTrim.get ⟨40 + k.val, by omega⟩),
        listed [CallSt.idle, .live, .standby] r.link.call, byteOf r.link.delay]
      ++ bytes2 ((r.link.timer.getD 0 + 999) / 1000) := by
  intro x c e far upon
  rw [listed_linkSt, listed_callSt, ← rateByte_eq, ← gainByte_eq, ← gainByte_eq, ← phaseByte_eq]
  simp only [Room.linkBytes, linkMuteBytes_eq, claimNumbers, counting_map]
  rfl

/-! ## FEEDBACK_READ (R171) -/

/-- A table item by item, as the list of its entries. -/
theorem toList_eq_map {n : Nat} {α : Type} (t : Tab n α) : t.toList = (List.finRange n).map t.get := by
  apply List.ext_getElem
  · simp [t.length_toList]
  · intro i h h'
    simp [Tab.get]

theorem fbSettings_eq (f : FbSettings) :
    f.bytes = [listed [FbMode.report, .latch, .retry] f.mode, byteOf f.window, byteOf f.ratio, byteOf f.filter,
      byteOf f.retry] := by
  rw [listed_fbMode, FbSettings.bytes]

theorem feedbackAll_eq (r : Room) :
    let status := fun x : FbSeat =>
      if x.presence ≠ .present then (0 : Byte)
      else if x.flag = true then (if x.retryTimer.isSome = true then 3 else 4)
      else if x.live = true then 1 else 2
    let f := r.fb.settings
    f.bytes ++ r.fb.seats.toList.flatMap FbSeat.brief
      = [listed [FbMode.report, .latch, .retry] f.mode, byteOf f.window, byteOf f.ratio, byteOf f.filter, byteOf f.retry]
        ++ (List.finRange 40).flatMap fun n => [status (r.fbSeat n), byteOf (r.fbSeat n).trips,
          signedByte (r.fbSeat n).offset] := by
  intro status f
  rw [fbSettings_eq, toList_eq_map, List.flatMap_map]
  rfl

theorem feedbackSeat_eq (r : Room) (n : Seat) :
    let status := fun x : FbSeat =>
      if x.presence ≠ .present then (0 : Byte)
      else if x.flag = true then (if x.retryTimer.isSome = true then 3 else 4)
      else if x.live = true then 1 else 2
    let f := r.fb.settings
    let x := r.fbSeat n
    f.bytes ++ x.bytes =
      [listed [FbMode.report, .latch, .retry] f.mode, byteOf f.window, byteOf f.ratio, byteOf f.filter, byteOf f.retry]
      ++ [status x, if x.live = true then 0 else 1, listed [Presence.present, .absent, .vacant] x.presence,
        byteOf x.consecutive]
      ++ (match x.window with
        | none => ([0, 0] : List Byte)
        | some w => [byteOf w.elapsed, byteOf w.length])
      ++ [byteOf x.trips,
        match x.tripMode with
        | none => (0 : Byte)
        | some .report => 1
        | some .latch => 2
        | some .retry => 3,
        byteOf (x.tripRetry.getD 0), if x.flag = true then 0 else 1]
      ++ bytes2 (x.retryTimer.getD 0) ++ [signedByte x.offset] := by
  intro status f x
  have hwindow : (match x.window with
      | some w => [byteOf w.elapsed, byteOf w.length]
      | none => [0, 0])
      = match x.window with
      | none => ([0, 0] : List Byte)
      | some w => [byteOf w.elapsed, byteOf w.length] := by
    cases x.window <;> rfl
  have hmode : tripModeByte x.tripMode = match x.tripMode with
      | none => (0 : Byte)
      | some .report => 1
      | some .latch => 2
      | some .retry => 3 := by
    rcases x.tripMode with _ | _ | _ | _ <;> rfl
  rw [fbSettings_eq, listed_presence, ← hwindow, ← hmode, FbSeat.bytes]
  simp only [List.append_assoc]
  rfl

/-! ## SCENE_LIST (R182) -/

/-- What SCENE_LIST gives of a slot. -/
theorem slotBytes_eq (t : Store) (i : Fin 13) :
    ((t.stateOf i).byte :: counting (t.nameOf i)) =
      if h : i.val = 0 then [1, 7, 0x46, 0x41, 0x43, 0x54, 0x4F, 0x52, 0x59]
      else
        let u := t.slots.get ⟨i.val - 1, by omega⟩
        listed [SlotState.empty, .valid, .bad] u.state ::
          match u.state, u.image with
          | .valid, some x => byteOf x.scene.name.length :: x.scene.name
          | _, _ => [0] := by
  simp only [listed_slotState, Store.nameOf, Store.stateOf, Store.imageOf, userSlot]
  by_cases h : i.val = 0
  · simp only [dif_pos h]
    decide
  · simp only [dif_neg h]
    generalize t.slots.get _ = u
    rcases u with ⟨_ | _ | _, _ | _⟩ <;> rfl

/-- Settles O25: each read is the answer of its owner, whose bytes the equations above give field by field. -/
theorem readsAnswerAndChangeNothing : Obligations.ReadsAnswerAndChangeNothing := by
  intro s tag h yes two signed signed2 gain level cause gate seats numbers claim table linkMutes onLink fb fbSettings
    status ms
  refine ⟨?_, ?_, ?_, ?_, ?_, ?_, ?_, ?_, ?_, ?_, ?_, ?_, ?_, ?_, ?_, ?_, ?_, ?_, ?_, ?_, ?_⟩
  · intro l
    exact request_reads h .lineRead tag _ reqLineRead (fun _ => rfl) (by simp [reqLineRead]) (lineBytes_eq s.room l)
  · intro b hb
    exact request_refused h .lineRead tag _ reqLineRead (fun _ => rfl) (by simp [reqLineRead, numbered_none hb])
  · intro n
    exact request_reads h .detectRead tag _ reqDetectRead (fun _ => rfl) (by simp [reqDetectRead])
      (detBytes_eq (s.room.det.get n))
  · intro b hb
    exact request_refused h .detectRead tag _ reqDetectRead (fun _ => rfl) (by simp [reqDetectRead, numbered_none hb])
  · intro b hb
    have hclaim : claim = Claim.bytes := funext fun c => (claimBytes_eq c).symm
    exact request_reads h .muteList tag _ reqMuteList (fun _ => rfl) (muteList_eq _ b hb s.room rfl) (by rw [hclaim])
  · intro b hb
    exact request_refused h .muteList tag _ reqMuteList (fun _ => rfl) (by simp [reqMuteList, Nat.not_lt.2 hb])
  · intro n
    refine request_reads h .muteRead tag _ reqMuteRead (fun _ => rfl) (by simp [reqMuteRead]; rfl) ?_
    rw [muteBytes_eq, claimsOver_eq, claimsOver_eq]
    rfl
  · intro k
    refine request_reads h .muteRead tag _ reqMuteRead (fun _ => rfl) (by simp [reqMuteRead]; rfl) ?_
    rw [linkMuteBytes_eq, claimsOnLink_numbers]
    rfl
  · intro b c hbc
    exact request_refused h .muteRead tag _ reqMuteRead (fun _ => rfl) (muteRead_range s.room b c hbc)
  · intro b hb
    refine request_reads h .floorRead tag _ reqFloorRead (fun _ => rfl) ?_ (floorBytes_eq s.room b)
    rcases hb with rfl | rfl <;> rfl
  · intro b h1 h21
    have h1 : b.toNat ≠ 1 := fun e => h1 (BitVec.eq_of_toNat_eq e)
    have h21 : b.toNat ≠ 21 := fun e => h21 (BitVec.eq_of_toNat_eq e)
    exact request_refused h .floorRead tag _ reqFloorRead (fun _ => rfl) (by simp [reqFloorRead, h1, h21])
  · exact request_reads h .mixRead tag _ reqMixRead (fun _ => rfl) (by simp [reqMixRead]) (mixBytes_eq s.room.mix)
  · intro b i hi
    have hi : i.toNat = b.index.val + 1 := by
      cases b with
      | loud n => exact hi
      | send k => exact hi.trans (by simp only [Bus.index]; omega)
      | recorder => subst hi; rfl
      | assist => subst hi; rfl
    have hne : i ≠ 0 := by rintro rfl; simp at hi
    refine request_reads h .mixRead tag _ reqMixRead (fun _ => rfl) (by
      simp only [reqMixRead, if_neg hne, busOf_number b i hi]; rfl) ?_
    have hindex : byteOf (b.index.val + 1) = i := BitVec.eq_of_toNat_eq (by rw [byteOf_small (by omega), hi])
    rw [busBytes_eq, hindex]
    rfl
  · intro b hb
    have hne : b ≠ 0 := by rintro rfl; simp at hb
    exact request_refused h .mixRead tag _ reqMixRead (fun _ => rfl) (by
      simp only [reqMixRead, if_neg hne, busOf_none hb])
  · intro k
    refine request_reads h .linkRead tag _ reqLinkRead (fun _ => rfl) (by simp [reqLinkRead, Machine.onLink]; rfl) ?_
    exact linkBytes_eq s.room k
  · intro b hb
    exact request_refused h .linkRead tag _ reqLinkRead (fun _ => rfl) (by
      simp [reqLinkRead, Machine.onLink, numbered_none hb])
  · exact request_reads h .feedbackRead tag _ reqFeedbackRead (fun _ => rfl) (by simp [reqFeedbackRead])
      (feedbackAll_eq s.room)
  · intro n
    have hne : numByte n ≠ 0 := by
      intro e
      have := numByte_toNat n (by decide)
      rw [e] at this
      simp at this
    refine request_reads h .feedbackRead tag _ reqFeedbackRead (fun _ => rfl) (by
      simp only [reqFeedbackRead, if_neg hne, numbered_seat]; rfl) ?_
    exact feedbackSeat_eq s.room n
  · intro b hb
    have hne : b ≠ 0 := by rintro rfl; simp at hb
    exact request_refused h .feedbackRead tag _ reqFeedbackRead (fun _ => rfl) (by
      simp only [reqFeedbackRead, if_neg hne, numbered_none (Or.inr hb)])
  · intro hop
    refine request_reads h .sceneList tag _ reqSceneList (fun _ => rfl) (by simp [reqSceneList, Room.storeBusy, hop]; rfl)
      ?_
    exact congrArg (fun f => (List.finRange 13).flatMap f ++ [byteOf s.room.store.start.val])
      (funext fun i => slotBytes_eq s.room.store i)
  · intro hop
    exact request_refused h .sceneList tag _ reqSceneList (fun _ => rfl) (by simp [reqSceneList, Room.storeBusy, hop])

end Sys2Proof.Machine.PodLines
end

section
/-! What each shared operation does to the parts it moves: the gain components (R130, R131), the floor's record of a seat
and its collections (R86 to R91), and the events it queues. The blocks an operation leaves alone are those of
Laws/Keeps; these lemmas say what becomes of the others. -/

namespace Sys2Proof.Machine.PodLines

/-! ## Gain components -/

/-- A component written is read back, and every other as it was. -/
theorem comp_setComp (m : Mix) (i j : CompId) (c : Comp) :
    (m.setComp i c).comp j = if i = j then c else m.comp j := by
  cases i <;> cases j <;> simp only [Mix.setComp, Mix.comp, reduceCtorEq, if_false, if_true, Tab.get_set,
    Tab.get_modify, CompId.gate.injEq, CompId.micMute.injEq, CompId.returnMute.injEq, CompId.linkState.injEq,
    CompId.sourceTrim.injEq, CompId.classMic.injEq, CompId.toneLevel.injEq, CompId.envelope.injEq,
    CompId.speakerMute.injEq, CompId.feedbackOffset.injEq, CompId.sendMute.injEq, CompId.busTrim.injEq]
  case classMic.classMic n x n' x' =>
    by_cases hn : n = n' <;> by_cases hx : x = x' <;> simp [hn, hx]

/-- A component given a target, and every other as it was (R131). -/
theorem move_comp (r : Room) (i j : CompId) (g : Gain) (ms : Nat) :
    (r.move i g ms).mix.comp j = if i = j then (r.mix.comp j).aimed g ms else r.mix.comp j := by
  unfold Room.move Comp.aimed
  dsimp only
  by_cases hij : i = j
  · subst hij
    split <;> simp [comp_setComp, *]
  · split <;> simp [comp_setComp, hij]

@[simp] theorem ramp_comp (r : Room) (i j : CompId) (g : Gain) (ms : Nat) :
    (r.ramp i g ms).mix.comp j = if i = j then (r.mix.comp j).aimed g ms else r.mix.comp j := by
  have hmix : (r.ramp i g ms).mix = (r.move i g ms).mix := (Room.judge_keeps _).2.2.2.2.1
  rw [hmix, move_comp]

@[simp] theorem judge_comp (r : Room) (j : CompId) : r.judge.mix.comp j = r.mix.comp j := by
  rw [show r.judge.mix = r.mix by simp]

@[simp] theorem mixGate_comp (r : Room) (n : Seat) (up : Bool) (j : CompId) :
    (r.mixGate n up).mix.comp j
      = if .gate n = j then (r.mix.comp j).aimed (upGain up)
          (if up then r.floor.settings.attack else r.floor.settings.release)
        else r.mix.comp j := ramp_comp ..

/-- A tone starts its seat's envelope and moves no other component (R133). -/
theorem tone_comp (r : Room) (n : Seat) (t : Tone) (j : CompId) (hj : j ≠ .envelope n) :
    (r.tone n t).mix.comp j = r.mix.comp j := by
  unfold Room.tone
  split
  · rfl
  · rw [ramp_comp, if_neg (Ne.symm hj)]
    cases j <;> rfl

theorem mixCount_comp (r : Room) (n : Nat) (j : CompId) :
    (r.mixCount n).mix.comp j
      = if .openCount = j then (r.mix.comp j).aimed (.db (openCountLoss n)) 50 else r.mix.comp j := by
  rw [Room.mixCount, ramp_comp]
  cases j <;> rfl

/-! ## Gates and collections -/

/-- A floor record changed, and every other as it was. -/
@[simp] theorem setSeat_fseat (r : Room) (n m : Seat) (f : FloorSeat → FloorSeat) :
    (r.setSeat n f).fseat m = if n = m then f (r.fseat m) else r.fseat m := by
  simp only [Room.fseat, Room.setSeat, Tab.get_modify]
  split <;> simp_all

/-- The record of a seat that has closed (R87, R88). -/
def FloorShut (x : FloorSeat) : FloorSeat := { x with gate := .closed, kept := false, timer := .off }

/-- The floor after a seat that was not CLOSED has closed. -/
theorem closeSeat_floor (r : Room) (n : Seat) (why : Reason) (h : (r.fseat n).gate ≠ .closed) :
    (r.closeSeat n why).floor = ((r.unlist n).setSeat n FloorShut).floor := by
  unfold Room.closeSeat
  rw [if_neg h]
  dsimp only
  split <;> split <;> simp <;> rfl

theorem closeSeat_idle (r : Room) (n : Seat) (why : Reason) (h : (r.fseat n).gate = .closed) :
    r.closeSeat n why = r := by
  unfold Room.closeSeat
  rw [if_pos h]

/-- A seat that has closed, and every other as it was. -/
theorem closeSeat_fseat (r : Room) (n m : Seat) (why : Reason) (h : (r.fseat n).gate ≠ .closed) :
    (r.closeSeat n why).fseat m = if n = m then FloorShut (r.fseat m) else r.fseat m := by
  have hfloor := closeSeat_floor r n why h
  rw [show (r.closeSeat n why).fseat m = ((r.unlist n).setSeat n FloorShut).fseat m from
    congrArg (fun f => f.seats.get m) hfloor, setSeat_fseat]
  rfl

/-- A seat that closes is off the lists (R91). -/
theorem closeSeat_lists (r : Room) (n : Seat) (why : Reason) (h : (r.fseat n).gate ≠ .closed) :
    (r.closeSeat n why).floor.openList = r.floor.openList.filter (· ≠ n)
    ∧ (r.closeSeat n why).floor.waitList = r.floor.waitList.filter (· ≠ n)
    ∧ (r.closeSeat n why).floor.queue = r.floor.queue.filter (· ≠ n) := by
  rw [closeSeat_floor r n why h]
  exact ⟨rfl, rfl, rfl⟩

/-- The event of a seat that closes (R88). -/
def closing (n : Seat) (prior : GateState) (why : Reason) : Event :=
  match prior with
  | .waiting => .dequeuedEv n .wait why
  | .queued => .dequeuedEv n .request why
  | _ => .closedEv n prior why

/-- A seat that closes queues one event (R88). -/
theorem closeSeat_out (r : Room) (n : Seat) (why : Reason) (h : (r.fseat n).gate ≠ .closed) :
    (r.closeSeat n why).out = r.out ++ [closing n (r.fseat n).gate why] := by
  unfold Room.closeSeat closing
  rw [if_neg h]
  dsimp only
  cases (r.fseat n).gate <;> simp [Room.emit, GateState.isOpen]

/-- A seat that closes from an open gate takes its component with it (R87, R123); no other component moves. -/
theorem closeSeat_comp (r : Room) (n : Seat) (why : Reason) (j : CompId) :
    (r.closeSeat n why).mix.comp j
      = if .gate n = j ∧ (r.fseat n).gate.isOpen = true then (r.mix.comp j).aimed .off r.floor.settings.release
        else r.mix.comp j := by
  unfold Room.closeSeat
  by_cases hclosed : (r.fseat n).gate = .closed
  · simp [hclosed, GateState.isOpen]
  · simp only [if_neg hclosed]
    split <;> split <;> simp_all [upGain]

/-- The floor record that an admission leaves (R86, R90, R103). -/
def FloorAdmitted (f : Floor) (g : GateState) (x : FloorSeat) : FloorSeat :=
  { x with gate := g, kept := false, stamp := f.stamp + 1,
           timer := if g = .granted then idleTimer f.settings.idle x.speaking else .off }

/-- The room as an admission has changed the floor, before its notices. -/
def admitted (r : Room) (n : Seat) (g : GateState) : Room :=
  { r with floor := { r.floor with
      seats := r.floor.seats.modify n (FloorAdmitted r.floor g)
      stamp := r.floor.stamp + 1
      openList :=
        if r.floor.settings.mode ≠ .opened && !r.chairFree n then r.floor.openList.filter (· ≠ n) ++ [n]
        else r.floor.openList.filter (· ≠ n)
      waitList := r.floor.waitList.filter (· ≠ n)
      queue := r.floor.queue.filter (· ≠ n) } }

/-- An admission up to its tone: the change at the floor, the gate notice and the view. -/
def admittedShown (r : Room) (n : Seat) (g : GateState) : Room := ((admitted r n g).mixGate n true).floorView n g

theorem admitSeat_eq (r : Room) (n : Seat) (g : GateState) :
    r.admitSeat n g =
      let x := (if g = .granted then (admittedShown r n g).tone n .granted else admittedShown r n g).emitAdmitted n
        (r.fseat n).gate
      (x.emit (.openedEv n g (placeIn x.floor.openList n))).activity := rfl

/-- The floor after an admission. -/
theorem admitSeat_floor (r : Room) (n : Seat) (g : GateState) : (r.admitSeat n g).floor = (admitted r n g).floor := by
  rw [admitSeat_eq, admittedShown]
  dsimp only
  split <;> simp

theorem admitSeat_fseat (r : Room) (n m : Seat) (g : GateState) :
    (r.admitSeat n g).fseat m = if n = m then FloorAdmitted r.floor g (r.fseat m) else r.fseat m := by
  rw [show (r.admitSeat n g).fseat m = _ from congrArg (fun f => f.seats.get m) (admitSeat_floor r n g)]
  simp only [admitted, Room.fseat, Tab.get_modify]
  split <;> simp_all

/-- The event of a seat that leaves the Wait List or the Request Queue to be opened stands in the queue (R88). -/
theorem admitSeat_out (r : Room) (n : Seat) (g : GateState) :
    (r.admitSeat n g).out
      = (r.emitAdmitted n (r.fseat n).gate).out
        ++ [.openedEv n g (placeIn (r.admitSeat n g).floor.openList n)] := by
  rw [admitSeat_floor, admitSeat_eq, admittedShown]
  dsimp only
  cases (r.fseat n).gate <;> split <;> simp [Room.emitAdmitted, Room.emit] <;> rfl

/-- An admission moves its seat's gate, and the tone's envelope, and no other component. -/
theorem admitSeat_comp (r : Room) (n : Seat) (g : GateState) (j : CompId) (hj : j ≠ .envelope n) :
    (r.admitSeat n g).mix.comp j
      = if .gate n = j then (r.mix.comp j).aimed (.db 0) r.floor.settings.attack else r.mix.comp j := by
  rw [admitSeat_eq, admittedShown]
  dsimp only
  split <;> simp [tone_comp, hj, upGain] <;> rfl

/-- The floor after a seat has joined the Wait List (R95). -/
theorem waitSeat_floor (r : Room) (n : Seat) :
    (r.waitSeat n).floor = { r.floor with
      seats := r.floor.seats.modify n fun x => { x with gate := .waiting }
      waitList := r.floor.waitList ++ [n] } := by
  simp [Room.waitSeat]
  rfl

/-- The floor after a seat has joined the Request Queue (R101). -/
theorem queueSeat_floor (r : Room) (n : Seat) :
    (r.queueSeat n).floor = { r.floor with
      seats := r.floor.seats.modify n fun x => { x with gate := .queued }
      queue := r.floor.queue ++ [n] } := by
  simp [Room.queueSeat]
  rfl

end Sys2Proof.Machine.PodLines
end

section
/-! What the blocks may do while a command of a pod line runs, as a relation: a command is a chain of the operations that
the blocks share, each within what the command may touch. What every operation within a leave keeps, the command keeps;
so a fact that is to outlast a command is proved for the shared operations, once each. -/

namespace Sys2Proof.Machine.PodLines

/-! ## The operations -/

/-- What a command may touch. -/
structure Leave where
  /-- The seats whose presence, speech and detector it may set. -/
  touch : Seat → Prop
  /-- The seats, of those it touches, whose trip record it may set. -/
  trip : Seat → Prop
  /-- The changes of a seat's standing flags it may make. -/
  flag : Seat → FlagFacts → FlagFacts → Prop
  /-- The seats it may close. -/
  close : Seat → Prop
  /-- The pod records whose facts it may set. -/
  pod : PodPos → Prop
  /-- The components it may move, gates, envelopes and the open count apart. -/
  move : CompId → Prop
  /-- It may set effective mutes. -/
  mute : Prop
  /-- It may change the claims. -/
  claim : Prop
  /-- It may enter or leave standby. -/
  rest : Prop
  /-- It may exchange the maps. -/
  swap : Prop

/-- A detector changed without a restart, a report or a decision: one that is held keeps what R50 lists. -/
structure DetKept (d e : Detector) : Prop where
  held : e.held = d.held
  seed : e.seed = d.seed
  seedLow : e.seedLow = d.seedLow
  rest : d.held = true → e.dstate = d.dstate ∧ e.acc = d.acc ∧ e.due = d.due ∧ e.endTimer = d.endTimer ∧ e.rise = d.rise
    ∧ e.fall = d.fall ∧ e.noiseFloor = d.noiseFloor

/-- A seat that may be opened, or join the Wait List, from CLOSED (R86, R95, R100). -/
def Joins (r : Room) (n : Seat) : Prop := r.floor.admissible n = true ∧ (r.fseat n).gate = .closed

/-- One shared operation, within a leave. -/
inductive Step (P : Leave) (r : Room) : Room → Prop
  | emit (e : Event) : Step P r (r.emit e)
  | box (b : List Bool) : Step P r { r with box := b }
  | quiet (b : Bool) : Step P r (r.setQuiet b)
  | judge : Step P r r.judge
  | move (id : CompId) (g : Gain) (ms : Nat) (h : P.move id) : Step P r (r.move id g ms)
  | tone (n : Seat) (t : Tone) : Step P r (r.tone n t)
  | mixMark (m : Mix) (hcomp : ∀ id, m.comp id = r.mix.comp id) (hset : m.settings = r.mix.settings)
      (hprogram : m.program = r.mix.program) (h : m.standby = r.mix.standby ∨ P.rest) : Step P r { r with mix := m }
  | indicate (p : PodPos) (f : Pod → Pod) (hf : ∀ x, (f x).facts = x.facts) : Step P r ((r.setPod p f).compose p)
  | dusk (l : LineNo) (b : Bool) (h : P.rest) : Step P r (r.lineStandby l b)
  | pod (p : PodPos) (f : Pod → Pod) (h : P.pod p) : Step P r (r.setPod p f)
  | line (l : LineNo) (f : Line → Line)
      (hf : ∀ x, (f x).pods = x.pods ∧ (f x).dark = x.dark ∧ (f x).audio = x.audio) : Step P r (r.setLine l f)
  | muted (n : Seat) (b : Bool) : Step P r (r.setSeat n fun x => { x with muted := b })
  | seat (n : Seat) (f : FloorSeat → FloorSeat) (h : P.touch n) : Step P r (r.setSeat n f)
  | floorRest (b : Bool) (h : P.rest) : Step P r { r with floor := { r.floor with standby := b } }
  | close (n : Seat) (why : Reason) (h : P.close n) : Step P r (r.closeSeat n why)
  | opens (n : Seat) (g : GateState) (hg : g.isOpen = true)
      (h : n ∈ r.floor.waitList ∨ n ∈ r.floor.queue ∨ Joins r n ∨ P.touch n) :
      Step P r (r.admitSeat n g)
  | wait (n : Seat) (h : Joins r n ∨ P.touch n) : Step P r (r.waitSeat n)
  | queue (n : Seat) (h : P.touch n) : Step P r (r.queueSeat n)
  | finish : Step P r r.floorFinish
  | flag (n : Seat) (f : MuteSeat → MuteSeat)
      (h : (f (r.mseat n)).facts = (r.mseat n).facts ∨ P.flag n (r.mseat n).facts (f (r.mseat n)).facts)
      (hspeak : (f (r.mseat n)).speaking = (r.mseat n).speaking ∨ P.touch n)
      (hspell : (f (r.mseat n)).spell = (r.mseat n).spell) : Step P r (r.setMuteSeat n f)
  | spell (n : Seat) : Step P r (r.spellUpdate n)
  | eff (n : Seat) (h : P.mute) : Step P r { r with mute := { r.mute with eff := r.mute.eff.set n (r.effOf n) } }
  | linkEff (k : Link) (h : P.mute) :
      Step P r { r with mute := { r.mute with links := r.mute.links.set k (r.linkEffOf k) } }
  | table (t : List Claim) (stamp : Nat) (h : P.claim) :
      Step P r { r with mute := { r.mute with table := t, stamp := stamp } }
  | det (n : Seat) (d : Detector) (hset : d.settings = (r.det.get n).settings)
      (h : DetKept (r.det.get n) d ∨ P.touch n) : Step P r (r.setDet n fun _ => d)
  | live (n : Seat) (b : Bool) : Step P r (r.setFb n fun x => { x with live := b })
  | fb (n : Seat) (f : FbSeat → FbSeat) (h : P.touch n ∧ P.trip n) : Step P r (r.setFb n f)
  | window (n : Seat) : Step P r (r.hearWindow n)
  | activity : Step P r r.activity
  | call (c : CallSt) (w : CallCause) (i : Nat) (h : P.rest) : Step P r (r.setCall c w i)
  | map (m : SeatMapUnit) (hgroups : m.groups = r.map.groups) (hwait : m.waitLimit = r.map.waitLimit) (h : P.swap) :
      Step P r { r with map := m }

/-- A chain of shared operations within a leave. -/
def Steps (P : Leave) : Room → Room → Prop := Relation.ReflTransGen (Step P)

theorem Steps.refl {P : Leave} (r : Room) : Steps P r r := Relation.ReflTransGen.refl

theorem Steps.trans {P : Leave} {r t u : Room} (h : Steps P r t) (g : Steps P t u) : Steps P r u :=
  Relation.ReflTransGen.trans h g

theorem Steps.then {P : Leave} {r t u : Room} (h : Steps P r t) (g : Step P t u) : Steps P r u :=
  Relation.ReflTransGen.tail h g

/-- What every operation within a leave keeps, a chain of them keeps. -/
theorem Steps.keeps {P : Leave} {C : Room → Prop} (hstep : ∀ r t, C r → Step P r t → C t) {r t : Room} (h : Steps P r t)
    (hr : C r) : C t := by
  induction h with
  | refl => exact hr
  | tail _ hlast ih => exact hstep _ _ ih hlast

/-- A pass over a list is a chain where each turn is one. -/
theorem Steps.foldl {P : Leave} {β : Type} {f : Room → β → Room} {r t : Room} (l : List β) (h : Steps P r t)
    (hf : ∀ b ∈ l, ∀ u, Steps P r u → Steps P r (f u b)) : Steps P r (l.foldl f t) := by
  induction l generalizing t with
  | nil => exact h
  | cons b l ih => exact ih (hf b (List.mem_cons_self ..) t h) fun c hc => hf c (List.mem_cons_of_mem _ hc)

/-- A choice of two chains is a chain. -/
theorem Steps.ite {P : Leave} {c : Prop} [Decidable c] {r a b : Room} (ha : Steps P r a) (hb : Steps P r b) :
    Steps P r (if c then a else b) := by
  split
  · exact ha
  · exact hb

/-! ## The operations of the blocks are chains -/

section
variable {P : Leave} {r t : Room}

theorem Steps.emit (h : Steps P r t) (e : Event) : Steps P r (t.emit e) := h.then (.emit e)

theorem Steps.ramp (h : Steps P r t) (id : CompId) (g : Gain) (ms : Nat) (hid : P.move id) : Steps P r (t.ramp id g ms) :=
  (h.then (.move id g ms hid)).then .judge

theorem Steps.compose (h : Steps P r t) (p : PodPos) : Steps P r (t.compose p) := by
  have hid : t.setPod p (fun x => x) = t := by
    have hline : (fun l : Line => { l with pods := l.pods.modify p.pos fun x => x }) = id :=
      funext fun l => congrArg (fun x => { l with pods := x }) (Tab.set_get_self l.pods p.pos)
    unfold Room.setPod
    rw [hline]
    exact congrArg (fun x => { t with lines := x }) (Tab.set_get_self t.lines p.line)
  simpa only [hid] using h.then (.indicate p (fun x => x) fun _ => rfl)

theorem Steps.refresh (h : Steps P r t) (p : PodPos) : Steps P r (t.refresh p) := by
  unfold Room.refresh
  split
  · exact h.then (.indicate p _ fun _ => rfl)
  · exact h.compose p

theorem Steps.tell (h : Steps P r t) (n : Seat) (f : View → View) : Steps P r (t.tell n f) := by
  unfold Room.tell
  split
  · exact h
  · split
    · exact h.then (.indicate _ _ fun _ => rfl)
    · exact h

theorem Steps.refuseLamp (h : Steps P r t) (n : Seat) : Steps P r (t.refuseLamp n) := by
  unfold Room.refuseLamp
  split
  · exact h
  · dsimp only
    split
    · exact h.then (.indicate _ _ fun _ => rfl)
    · exact h

/-! ### The floor -/

theorem closeSeat_admissible (u : Room) (m n : Seat) (why : Reason) :
    (u.closeSeat m why).floor.admissible n = u.floor.admissible n := by
  by_cases hm : (u.fseat m).gate = .closed
  · rw [closeSeat_idle u m why hm]
  · have hs := closeSeat_fseat u m n why hm
    have hrest : (u.closeSeat m why).floor.standby = u.floor.standby := by simp
    unfold Floor.admissible
    simp only [Room.fseat] at hs
    rw [hs, hrest]
    split <;> rfl

theorem closeSeat_joins (u : Room) (m n : Seat) (why : Reason) (h : Joins u n) : Joins (u.closeSeat m why) n := by
  refine ⟨(closeSeat_admissible u m n why).trans h.1, ?_⟩
  by_cases hm : (u.fseat m).gate = .closed
  · rw [closeSeat_idle u m why hm]
    exact h.2
  · rw [closeSeat_fseat u m n why hm]
    split
    · rfl
    · exact h.2

theorem Steps.closeSeat (h : Steps P r t) (n : Seat) (why : Reason) (hn : P.close n) : Steps P r (t.closeSeat n why) :=
  h.then (.close n why hn)

theorem Steps.closeAll (h : Steps P r t) (l : List Seat) (why : Reason) (hl : ∀ n, P.close n) :
    Steps P r (t.closeAll l why) :=
  h.foldl l fun n _ _ g => g.closeSeat n why (hl n)

theorem Steps.fillWaitOne (h : Steps P r t) : Steps P r t.fillWaitOne := by
  unfold Room.fillWaitOne
  split
  · exact h
  · rename_i n _ hl
    split
    · exact h.then (.opens n .opened rfl (.inl (by simp [hl])))
    · exact h

theorem Steps.fillQueueOne (h : Steps P r t) : Steps P r t.fillQueueOne := by
  unfold Room.fillQueueOne
  split
  · exact h
  · rename_i n hn
    split
    · exact h.then (.opens n .granted rfl (.inr (.inl (List.mem_of_find?_eq_some hn))))
    · exact h

theorem Steps.floorFill (h : Steps P r t) : Steps P r t.floorFill := by
  unfold Room.floorFill
  split
  · exact h
  · split
    · exact h
    · exact h.foldl _ fun _ _ _ g => g.fillWaitOne
    · split
      · exact h.foldl _ fun _ _ _ g => g.fillQueueOne
      · exact h

theorem Steps.floorEvent {f : Room → Room} (h : Steps P r (f t)) : Steps P r (t.floorEvent f) :=
  h.floorFill.then .finish

/-- A seat that may be admitted is admitted after another has been closed. -/
theorem Steps.takeOver (h : Steps P r t) (n m : Seat) (why : Reason) (hm : P.close m)
    (hn : Joins t n ∨ P.touch n) : Steps P r ((t.closeSeat m why).admitSeat n .opened) := by
  refine (h.closeSeat m why hm).then (.opens n .opened rfl (.inr (.inr ?_)))
  exact hn.imp_left fun hn => closeSeat_joins t m n why hn

theorem Steps.onsetClosed (h : Steps P r t) (n : Seat) (hclose : ∀ m, P.close m)
    (hn : Joins t n ∨ P.touch n) : Steps P r (t.onsetClosed n) := by
  have hadmit : Steps P r (t.admitSeat n .opened) := h.then (.opens n .opened rfl (.inr (.inr hn)))
  unfold Room.onsetClosed
  split
  · exact hadmit
  · split
    · exact h.takeOver n _ _ (hclose _) hn
    · split
      · exact hadmit
      · split
        · exact h.takeOver n _ _ (hclose _) hn
        · split
          · exact h.then (.wait n hn)
          · exact h.emit _

theorem Steps.becomeAdmissible (h : Steps P r t) (n : Seat) (hclose : ∀ m, P.close m) :
    Steps P r (t.becomeAdmissible n) := by
  unfold Room.becomeAdmissible
  split
  · exact h
  · rename_i hn
    have hn : Joins t n := by simpa [Joins] using hn
    split
    · exact h.then (.opens n .opened rfl (.inr (.inr (.inl hn))))
    · split
      · exact h.onsetClosed n hclose (.inl hn)
      · exact h
    · exact h

theorem Steps.floorView (h : Steps P r t) (n : Seat) (g : GateState) : Steps P r (t.floorView n g) := h.tell n _

theorem Steps.onsetAct (h : Steps P r t) (n : Seat) (hclose : ∀ m, P.close m) (hn : P.touch n) :
    Steps P r (t.onsetAct n) := by
  unfold Room.onsetAct
  split
  · exact h
  · split
    · exact h.onsetClosed n hclose (.inr hn)
    · exact (h.then (.seat n _ hn)).floorView n _
    · exact h
  · split
    · exact h.then (.seat n _ hn)
    · exact h

theorem Steps.endAct (h : Steps P r t) (n : Seat) (hclose : ∀ m, P.close m) (hn : P.touch n) : Steps P r (t.endAct n) := by
  unfold Room.endAct
  split
  · exact h
  · split
    · exact (h.then (.seat n _ hn)).floorView n _
    · exact h.closeSeat n _ (hclose n)
    · exact h
  · split
    · exact h.then (.seat n _ hn)
    · exact h

theorem Steps.floorSpeech (h : Steps P r t) (n : Seat) (on : Bool) (hclose : ∀ m, P.close m) (hn : P.touch n) :
    Steps P r (t.floorSpeech n on) := by
  apply Steps.floorEvent
  have hmark := h.then (.seat n (fun x => { x with speaking := on }) hn)
  have hact : Steps P r (
      let u := t.setSeat n fun x => { x with speaking := on }
      if !u.floor.admissible n then u else if on then u.onsetAct n else u.endAct n) := by
    dsimp only
    split
    · exact hmark
    · split
      · exact hmark.onsetAct n hclose hn
      · exact hmark.endAct n hclose hn
  exact Steps.ite (hact.then .activity) hact

/-- A mic notice closes its seat alone where it mutes; where it unmutes, the seat may take another's place (R92). -/
theorem Steps.floorMic (h : Steps P r t) (n : Seat) (b : Bool) (hn : P.close n) (hclose : b = true ∨ ∀ m, P.close m) :
    Steps P r (t.floorMic n b) := by
  apply Steps.floorEvent
  have hmark := h.then (.muted n b)
  dsimp only
  split
  · split
    · exact hmark
    · exact hmark.closeSeat n _ hn
  · rename_i hb
    exact hmark.becomeAdmissible n (hclose.resolve_left hb)

theorem Steps.floorPresence (h : Steps P r t) (n : Seat) (p : Presence) (hn : P.touch n) (hc : P.close n)
    (hclose : p ≠ .present ∨ ∀ m, P.close m) : Steps P r (t.floorPresence n p) := by
  apply Steps.floorEvent
  have hmark := h.then (.seat n (fun x => { x with presence := p, speaking := false }) hn)
  dsimp only
  split
  · rename_i hp
    exact hmark.becomeAdmissible n (hclose.resolve_left (· hp))
  · exact hmark.closeSeat n _ hc

/-! ### The mutes -/

theorem Steps.seatTone (h : Steps P r t) (n : Seat) (x : Tone) : Steps P r (t.seatTone n x) := by
  unfold Room.seatTone
  split
  · exact h.then (.tone n x)
  · exact h

/-- The components of the mutes. -/
def isMute : CompId → Prop
  | .micMute _ | .speakerMute _ | .sendMute _ | .returnMute _ => True
  | _ => False

theorem Steps.mixSpeaker (h : Steps P r t) (n : Seat) (b : Bool) (c : Cause) (hmove : P.move (.speakerMute n)) :
    Steps P r (t.mixSpeaker n b c) := by
  unfold Room.mixSpeaker
  dsimp only
  split
  · exact (h.ramp _ _ _ hmove).then (.live n true)
  · exact h.ramp _ _ _ hmove

theorem Steps.seatChanged (h : Steps P r t) (n : Seat) (old new : Eff) (hmove : ∀ id, isMute id → P.move id)
    (hn : P.close n) (hclose : new.micMuted = true ∨ ∀ m, P.close m) : Steps P r (t.seatChanged n old new) := by
  have hmic : Steps P r (t.micTurned n old new) := by
    unfold Room.micTurned
    split
    · exact h
    · exact h.ramp _ _ _ (hmove _ trivial)
  have hspk : Steps P r ((t.micTurned n old new).speakerTurned n old new) := by
    unfold Room.speakerTurned
    split
    · exact hmic
    · exact hmic.mixSpeaker n _ _ (hmove _ trivial)
  have hfloor : Steps P r (((t.micTurned n old new).speakerTurned n old new).floorTold n old new) := by
    unfold Room.floorTold
    split
    · exact hspk
    · exact hspk.floorMic n _ hn hclose
  have hring : Steps P r ((((t.micTurned n old new).speakerTurned n old new).floorTold n old new).ringTold n old new) := by
    unfold Room.ringTold
    split
    · exact hfloor
    · exact hfloor.tell n _
  have htone : Steps P r (((((t.micTurned n old new).speakerTurned n old new).floorTold n old new).ringTold n old
      new).toneTold n old new) := by
    unfold Room.toneTold
    split
    · exact hring
    · exact hring.seatTone n _
  unfold Room.seatChanged Room.stateTold
  dsimp only
  split <;> split
  · exact (htone.emit _).emit _
  · exact htone.emit _
  · exact htone.emit _
  · exact htone

theorem Steps.deriveSeat (h : Steps P r t) (n : Seat) (hmute : P.mute) (hmove : ∀ id, isMute id → P.move id)
    (hn : P.close n) (hclose : (t.effOf n).micMuted = true ∨ ∀ m, P.close m) : Steps P r (t.deriveSeat n) := by
  unfold Room.deriveSeat
  dsimp only
  split
  · exact h
  · exact ((h.then (.eff n hmute)).seatChanged n _ _ hmove hn hclose).then (.spell n)

theorem Steps.deriveLink (h : Steps P r t) (k : Link) (hmute : P.mute) (hmove : ∀ id, isMute id → P.move id) :
    Steps P r (t.deriveLink k) := by
  have hway : ∀ (u : Room) (d : Dir) (old new : Bool), Steps P r u → Steps P r (u.deriveWay k d old new) := by
    intro u d old new g
    unfold Room.deriveWay
    split
    · exact g
    · refine Steps.emit ?_ _
      unfold Room.mixLink
      split
      · exact g.ramp _ _ _ (hmove _ trivial)
      · exact g.ramp _ _ _ (hmove _ trivial)
      · exact g
  exact hway _ _ _ _ (hway _ _ _ _ (h.then (.linkEff k hmute)))

theorem Steps.derive (h : Steps P r t) (hmute : P.mute) (hmove : ∀ id, isMute id → P.move id) (hclose : ∀ m, P.close m) :
    Steps P r t.derive :=
  (h.foldl allSeats fun n _ _ g => g.deriveSeat n hmute hmove (hclose n) (.inr hclose)).foldl allLinks
    fun k _ _ g => g.deriveLink k hmute hmove

theorem Steps.clearMarks (h : Steps P r t) (n : Seat) (hn : P.touch n) : Steps P r (t.clearMarks n) :=
  (h.then (.flag n _ (.inl rfl) (.inr hn) rfl)).then (.spell n)

theorem Steps.heldPress (h : Steps P r t) (n : Seat) (b : Button) : Steps P r (t.heldPress n b) :=
  (h.seatTone n _).emit _

end

end Sys2Proof.Machine.PodLines
end

section
/-! The remaining operations of a pod line's commands as chains: speech, presence, presses, the settling of an event, and
the loss and the return of a pod. -/

namespace Sys2Proof.Machine.PodLines

/-- A leave to derive mutes and to close any seat. -/
structure Leave.Wide (P : Leave) : Prop where
  mute : P.mute
  move : ∀ id, isMute id → P.move id
  close : ∀ n, P.close n

/-- A leave to swap maps as well, with the notices of re-seated seats; standby apart. -/
structure Leave.Free (P : Leave) : Prop where
  wide : P.Wide
  touch : ∀ n, P.touch n
  trip : ∀ n, P.trip n
  flag : ∀ n a b, P.flag n a b
  move : ∀ id, id ≠ .standby → P.move id
  claim : P.claim
  swap : P.swap

/-! ## Detectors -/

/-- Hearing a frame, deciding and reporting leave a detector's settings. -/
theorem frame_settings (d : Detector) (energy : Nat) : (d.frame energy).1.settings = d.settings := by
  have hdecide : ∀ (x : Detector) (b : Bool), (x.decide b).1.settings = x.settings := by
    intro x b
    unfold Detector.decide Detector.reach Detector.onset Detector.finish
    dsimp only
    repeat' split
    all_goals rfl
  unfold Detector.frame
  dsimp only
  have hhear : ∀ e, (d.hear e).settings = d.settings := fun _ => rfl
  generalize (if d.held = true then 0 else energy) = e
  have hset := hhear e
  generalize d.hear e = x at hset ⊢
  split
  · exact hset
  · split
    · exact hset
    · rw [hdecide, Detector.follow]
      split <;> exact hset

theorem setDet_const (r : Room) (n : Seat) (f : Detector → Detector) :
    r.setDet n f = r.setDet n fun _ => f (r.det.get n) := rfl

/-- A held detector takes a frame without a decision (R50). -/
theorem frame_held (d : Detector) (energy : Nat) (h : d.held = true) :
    DetKept d (d.frame energy).1 ∧ (d.frame energy).2 = none := by
  have hheld : ∀ e, (d.hear e).held = true := fun _ => h
  unfold Detector.frame
  simp only [h, if_true, hheld]
  exact ⟨⟨rfl, rfl, rfl, fun _ => ⟨rfl, rfl, rfl, rfl, rfl, rfl, rfl⟩⟩, trivial⟩

theorem restart_settings (d : Detector) (b : Bool) : (d.restart b).settings = d.settings := by
  cases b <;> rfl

section
variable {P : Leave} {r t : Room}

theorem Steps.det (h : Steps P r t) (n : Seat) (f : Detector → Detector)
    (hset : (f (t.det.get n)).settings = (t.det.get n).settings) (hf : DetKept (t.det.get n) (f (t.det.get n)) ∨ P.touch n) :
    Steps P r (t.setDet n f) := by
  rw [setDet_const]
  exact h.then (.det n _ hset hf)

theorem Steps.hearLoud (h : Steps P r t) (n : Seat) : Steps P r (t.hearLoud n) :=
  h.det n _ rfl (.inl ⟨rfl, rfl, rfl, fun _ => ⟨rfl, rfl, rfl, rfl, rfl, rfl, rfl⟩⟩)

theorem Steps.muteSpeech (h : Steps P r t) (n : Seat) (on : Bool) (hn : P.touch n) : Steps P r (t.muteSpeech n on) := by
  refine Steps.then (h.then (.flag n _ (.inl ?_) (.inr hn) ?_)) (.spell n) <;> cases on <;> rfl

theorem Steps.report (h : Steps P r t) (n : Seat) (on : Bool) (hclose : ∀ m, P.close m) (hn : P.touch n) :
    Steps P r (t.report n on) :=
  (h.floorSpeech n on hclose hn).muteSpeech n on hn

/-- A frame at a detector that is held, or at a seat that the command may touch. -/
theorem Steps.runFrame (h : Steps P r t) (n : Seat) (energy : Nat)
    (hn : (t.det.get n).held = true ∨ P.touch n ∧ ∀ m, P.close m) :
    Steps P r (t.runDet n fun d => d.frame energy) := by
  have hdet : Steps P r (t.setDet n fun _ => ((t.det.get n).frame energy).1) :=
    h.det n _ (frame_settings _ _) (hn.imp (fun hheld => (frame_held _ energy hheld).1) And.left)
  unfold Room.runDet
  dsimp only
  split
  · exact hdet
  · rename_i on hon
    obtain ⟨htouch, hclose⟩ := hn.resolve_left fun hheld => by simp [(frame_held _ energy hheld).2] at hon
    exact hdet.report n on hclose htouch

/-! ## Presence -/

theorem Steps.fbPresence (h : Steps P r t) (n : Seat) (p : Presence) (hn : P.touch n ∧ P.trip n) (hmove : P.move (.feedbackOffset n)) :
    Steps P r (t.fbPresence n p) := by
  unfold Room.fbPresence
  dsimp only
  split
  · exact h.then (.fb n _ hn)
  · have hcleared := h.then (.fb n (fun s => { s.cleared with presence := p }) hn)
    split <;> split
    · exact (hcleared.ramp _ _ _ hmove).emit _
    · exact hcleared.emit _
    · exact hcleared.ramp _ _ _ hmove
    · exact hcleared

/-- The marks and the flags of a presence notice, before the mutes are derived (R56, R59, R79). -/
theorem Steps.presenceMarked (h : Steps P r t) (n : Seat) (f : MuteSeat → MuteSeat) (hn : P.touch n)
    (hflag : ∀ a b, P.flag n a b) (hspell : ∀ x, (f x).spell = x.spell) :
    Steps P r ((t.setMuteSeat n f).clearMarks n) :=
  (h.then (.flag n f (.inr (hflag _ _)) (.inr hn) (hspell _))).clearMarks n hn

theorem Steps.mutePresence (h : Steps P r t) (n : Seat) (p : Presence) (hw : P.Wide) (hn : P.touch n)
    (hflag : ∀ a b, P.flag n a b) : Steps P r (t.mutePresence n p) := by
  refine Steps.derive ?_ hw.mute hw.move hw.close
  refine h.presenceMarked n _ hn hflag fun x => ?_
  split <;> rfl

theorem Steps.presenceNotice (h : Steps P r t) (n : Seat) (p : Presence) (hw : P.Wide) (hn : P.touch n)
    (htrip : P.trip n) (hflag : ∀ a b, P.flag n a b) (hmove : P.move (.feedbackOffset n)) :
    Steps P r (t.presenceNotice n p) := by
  have hmarked := ((h.floorPresence n p hn (hw.close n) (.inr hw.close)).mutePresence n p hw hn hflag)
  unfold Room.presenceNotice
  exact (hmarked.det n (fun d => d.restart (decide (p = .present))) (restart_settings _ _) (.inr hn)).fbPresence n p ⟨hn, htrip⟩ hmove

/-! ## The settling of an event -/

theorem Steps.settle_calm (h : Steps P r t) (hcalm : t.map.switch = none) : Steps P r t.settle := by
  rw [Room.settle_calm t hcalm]
  exact ((h.then (.box [])).then (.quiet _)).then .judge

theorem Steps.floorReseated (h : Steps P r t) (n : Seat) (hw : P.Wide) (hn : P.touch n) :
    Steps P r (t.floorReseated n) := by
  apply Steps.floorEvent
  have hclosed := (h.then (.seat n (fun s => { s with speaking := false }) hn)).closeSeat n .reseated (hw.close n)
  exact Steps.ite (hclosed.becomeAdmissible n hw.close) hclosed

theorem Steps.goneAll (h : Steps P r t) (cs : List Claim) (why : GoneReason) (hclaim : P.claim) :
    Steps P r (t.goneAll cs why) :=
  h.foldl cs fun _ _ _ g => (g.then (.table _ _ hclaim)).emit _

theorem Steps.muteReseated (h : Steps P r t) (n : Seat) (hw : P.Wide) (hn : P.touch n) (hflag : ∀ a b, P.flag n a b)
    (hclaim : P.claim) : Steps P r (t.muteReseated n) := by
  refine Steps.derive ?_ hw.mute hw.move hw.close
  have hmarked := (h.then (.flag n (fun s => { s with
    self := false, privacy := t.presence n ≠ .present || t.podPrivacy n }) (.inr (hflag _ _)) (.inl rfl) rfl)).clearMarks
    n hn
  unfold Room.checkChair
  split
  · exact hmarked
  · exact (hmarked.goneAll _ _ hclaim).tell n _

theorem Steps.reseatedNotice (h : Steps P r t) (n : Seat) (hf : P.Free) : Steps P r (t.reseatedNotice n) :=
  ((h.floorReseated n hf.wide (hf.touch n)).muteReseated n hf.wide (hf.touch n) (hf.flag n) hf.claim).det n _
    (restart_settings _ _) (.inr (hf.touch n))

theorem Steps.announce (h : Steps P r t) (n : Seat) (was : Presence) (hf : P.Free) : Steps P r (t.announce n was) := by
  have hreseated := h.reseatedNotice n hf
  unfold Room.announce
  dsimp only
  split
  · exact hreseated
  · exact hreseated.presenceNotice n _ hf.wide (hf.touch n) (hf.trip n) (hf.flag n) (hf.move _ (by simp))

theorem modify_modify {n : Nat} {α : Type} (x : Tab n α) (i : Fin n) (f g : α → α) :
    (x.modify i f).modify i g = x.modify i fun a => g (f a) := by
  apply Tab.ext_get
  intro j
  simp only [Tab.get_modify]
  split <;> rfl

/-- Two changes of one record are one. -/
theorem setPod_setPod (r : Room) (p : PodPos) (f g : Pod → Pod) :
    (r.setPod p f).setPod p g = r.setPod p fun x => g (f x) := by
  unfold Room.setPod
  dsimp only
  rw [modify_modify]
  simp only [modify_modify]

theorem Steps.reposition (h : Steps P r t) (p : PodPos) : Steps P r (t.reposition p) := by
  unfold Room.reposition Room.refresh
  split
  · rw [setPod_setPod]
    exact h.then (.indicate p _ fun _ => rfl)
  · exact h.then (.indicate p _ fun _ => rfl)

theorem Steps.takeNear (h : Steps P r t) (hf : P.Free) : Steps P r t.takeNear := by
  refine Steps.then ?_ .judge
  refine h.foldl allSeats fun n _ _ g => g.foldl allSeats fun m _ _ k => Steps.ite k ?_
  exact k.then (.move _ _ _ (hf.move _ (by simp)))

theorem Steps.swap (h : Steps P r t) (lock : LockMode) (quiet : Bool) (hf : P.Free) : Steps P r (t.swap lock quiet) := by
  have hmap : Steps P r { t with map := t.map.swapped lock } := h.then (.map _ rfl rfl hf.swap)
  exact ((((hmap.foldl _ fun _ _ _ g => g.announce _ _ hf).foldl _ fun _ _ _ g => g.reposition _).takeNear hf).emit _)

theorem Steps.quietNotice (h : Steps P r t) (q : Bool) (hf : P.Free) : Steps P r (t.quietNotice q) := by
  have hset := h.then (.quiet q)
  unfold Room.quietNotice
  dsimp only
  split
  · exact Steps.ite (hset.swap _ _ hf) hset
  · exact hset

/-- What a command leaves under way settles within its leave, where no switch is pending or a swap is within it. -/
theorem Steps.settle (h : Steps P r t) (hs : t.map.switch = none ∨ P.Free) : Steps P r t.settle := by
  rcases hs with hcalm | hf
  · exact h.settle_calm hcalm
  · have hnotices := (h.then (.box [])).foldl t.box fun q _ _ g => g.quietNotice q hf
    exact ((hnotices.then (.box [])).foldl _ fun q _ _ g => g.then (.quiet q)).then .judge

end

end Sys2Proof.Machine.PodLines
end

section
/-! What a chain of shared operations keeps, by what its leave withholds: the settings always; the maps without a swap;
standby without a rest; a component, a seat's flags, marks, trip record and detector where the leave does not name them;
the samples of the lines and of the program inputs. -/

namespace Sys2Proof.Machine.PodLines

variable {P : Leave} {r t : Room}

/-- What no chain changes. -/
structure SetKept (r t : Room) : Prop where
  store : t.store = r.store
  groups : t.map.groups = r.map.groups
  waitLimit : t.map.waitLimit = r.map.waitLimit
  detectors : t.det.map Detector.settings = r.det.map Detector.settings
  linkIdle : t.mute.linkIdle = r.mute.linkIdle
  floor : t.floor.settings = r.floor.settings
  mix : t.mix.settings = r.mix.settings
  links : t.link.links = r.link.links
  delay : t.link.delay = r.link.delay
  feedback : t.fb.settings = r.fb.settings

theorem Step.settings (h : Step P r t) : SetKept r t := by
  cases h
  case mixMark m _ hset _ _ => exact ⟨rfl, rfl, rfl, rfl, rfl, rfl, hset, rfl, rfl, rfl⟩
  case det n d hset _ =>
    exact ⟨rfl, rfl, rfl, Tab.map_modify _ _ _ _ hset, rfl, rfl, rfl, rfl, rfl, rfl⟩
  case map m hgroups hwait _ => exact ⟨rfl, hgroups, hwait, rfl, rfl, rfl, rfl, rfl, rfl, rfl⟩
  all_goals constructor <;> simp

theorem Steps.settings (h : Steps P r t) : SetKept r t :=
  h.keeps (C := SetKept r) (fun _ _ hu hv =>
    have hv := Step.settings hv
    ⟨hv.1.trans hu.1, hv.2.trans hu.2, hv.3.trans hu.3, hv.4.trans hu.4, hv.5.trans hu.5, hv.6.trans hu.6,
      hv.7.trans hu.7, hv.8.trans hu.8, hv.9.trans hu.9, hv.10.trans hu.10⟩)
    ⟨rfl, rfl, rfl, rfl, rfl, rfl, rfl, rfl, rfl, rfl⟩

/-- What a chain without a swap keeps. -/
structure MapKept (r t : Room) : Prop where
  running : t.map.running = r.map.running
  staged : t.map.staged = r.map.staged
  switch : t.map.switch = r.map.switch

theorem Step.map_kept (h : Step P r t) (hs : ¬ P.swap) : MapKept r t := by
  cases h
  case map h => exact absurd h hs
  all_goals constructor <;> simp

theorem Steps.map_kept (h : Steps P r t) (hs : ¬ P.swap) : MapKept r t :=
  h.keeps (C := MapKept r) (fun _ _ hu hv =>
    have hv := Step.map_kept hv hs
    ⟨hv.1.trans hu.1, hv.2.trans hu.2, hv.3.trans hu.3⟩) ⟨rfl, rfl, rfl⟩

/-- What a chain without a rest keeps. -/
structure RestKept (r t : Room) : Prop where
  dark : t.lines.map Line.dark = r.lines.map Line.dark
  floor : t.floor.standby = r.floor.standby
  mix : t.mix.standby = r.mix.standby
  call : t.link.call = r.link.call

theorem Step.rest_kept (h : Step P r t) (hs : ¬ P.rest) : RestKept r t := by
  cases h
  case mixMark m _ _ _ h => exact ⟨rfl, rfl, h.resolve_right hs, rfl⟩
  case dusk h => exact absurd h hs
  case floorRest h => exact absurd h hs
  case call h => exact absurd h hs
  case line l f hf => exact ⟨Tab.map_modify _ _ _ _ (hf _).2.1, rfl, rfl, rfl⟩
  all_goals constructor <;> simp

theorem Steps.rest_kept (h : Steps P r t) (hs : ¬ P.rest) : RestKept r t :=
  h.keeps (C := RestKept r) (fun _ _ hu hv =>
    have hv := Step.rest_kept hv hs
    ⟨hv.1.trans hu.1, hv.2.trans hu.2, hv.3.trans hu.3, hv.4.trans hu.4⟩) ⟨rfl, rfl, rfl, rfl⟩

theorem Step.claims_kept (h : Step P r t) (hs : ¬ P.claim) : t.mute.table = r.mute.table ∧ t.mute.stamp = r.mute.stamp := by
  cases h
  case table h => exact absurd h hs
  all_goals constructor <;> simp

theorem Steps.claims_kept (h : Steps P r t) (hs : ¬ P.claim) :
    t.mute.table = r.mute.table ∧ t.mute.stamp = r.mute.stamp :=
  h.keeps (C := fun u => u.mute.table = r.mute.table ∧ u.mute.stamp = r.mute.stamp) (fun _ _ hu hv =>
    have hv := Step.claims_kept hv hs
    ⟨hv.1.trans hu.1, hv.2.trans hu.2⟩) ⟨rfl, rfl⟩

/-! ## Components -/

/-- The components that no floor event and no tone moves. -/
def parked : CompId → Prop
  | .gate _ | .envelope _ | .openCount => False
  | _ => True

theorem floorFinish_comp (u : Room) (id : CompId) (hid : id ≠ .openCount) :
    u.floorFinish.mix.comp id = u.mix.comp id := by
  unfold Room.floorFinish
  dsimp only
  split <;> split <;> simp [mixCount_comp, Ne.symm hid]

theorem Step.comp_kept (h : Step P r t) (id : CompId) (hid : parked id) (hm : ¬ P.move id) :
    t.mix.comp id = r.mix.comp id := by
  have hgate : ∀ n, id ≠ .gate n := by rintro n rfl; exact hid
  have henv : ∀ n, id ≠ .envelope n := by rintro n rfl; exact hid
  have hcount : id ≠ .openCount := by rintro rfl; exact hid
  cases h
  case move i g ms h =>
    rw [move_comp, if_neg]
    rintro rfl
    exact hm h
  case tone n x => exact tone_comp r n x id (henv n)
  case mixMark m hcomp _ _ _ => exact hcomp id
  case close n why _ => rw [closeSeat_comp, if_neg fun h => hgate n h.1.symm]
  case opens n g _ _ => rw [admitSeat_comp r n g id (henv n), if_neg (hgate n).symm]
  case finish => exact floorFinish_comp r id hcount
  case judge => exact judge_comp r id
  all_goals simp

theorem Steps.comp_kept (h : Steps P r t) (id : CompId) (hid : parked id) (hm : ¬ P.move id) :
    t.mix.comp id = r.mix.comp id :=
  h.keeps (C := fun u => u.mix.comp id = r.mix.comp id) (fun _ _ hu hv => (Step.comp_kept hv id hid hm).trans hu) rfl

/-! ## A seat that is not named -/

/-- The flags of a seat move only as the leave allows. -/
theorem Step.flags (h : Step P r t) (n : Seat) (R : FlagFacts → FlagFacts → Prop) (hrefl : ∀ a, R a a)
    (hR : ∀ a b, P.flag n a b → R a b) : R (r.mseat n).facts (t.mseat n).facts := by
  have hsame : ∀ {u : Room}, u.mute.seats.map MuteSeat.facts = r.mute.seats.map MuteSeat.facts →
      R (r.mseat n).facts (u.mseat n).facts := fun hu => by
    rw [show (Room.mseat _ n).facts = (r.mseat n).facts from facts_at hu n]
    exact hrefl _
  cases h
  case flag m f h _ _ =>
    simp only [Room.mseat, Room.setMuteSeat, Tab.get_modify] at h ⊢
    by_cases hm : m = n
    · subst hm
      rw [if_pos rfl]
      rcases h with h | h
      · rw [h]
        exact hrefl _
      · exact hR _ _ h
    · rw [if_neg hm]
      exact hrefl _
  all_goals exact hsame (by simp)

theorem Steps.flags (h : Steps P r t) (n : Seat) (R : FlagFacts → FlagFacts → Prop) (hrefl : ∀ a, R a a)
    (htrans : ∀ a b c, R a b → R b c → R a c) (hR : ∀ a b, P.flag n a b → R a b) :
    R (r.mseat n).facts (t.mseat n).facts :=
  h.keeps (C := fun u => R (r.mseat n).facts (u.mseat n).facts)
    (fun _ _ hu hv => htrans _ _ _ hu (Step.flags hv n R hrefl hR)) (hrefl _)

end Sys2Proof.Machine.PodLines
end

section
/-! What a chain leaves of a seat that it does not touch: its marks at the floor and at the Arbiter, its trip record and its
detector (R43 to R50, R56, R79, R160). -/

namespace Sys2Proof.Machine.PodLines

variable {P : Leave} {r t : Room}

theorem DetKept.refl (d : Detector) : DetKept d d := ⟨rfl, rfl, rfl, fun _ => ⟨rfl, rfl, rfl, rfl, rfl, rfl, rfl⟩⟩

theorem DetKept.trans {a b c : Detector} (h : DetKept a b) (g : DetKept b c) : DetKept a c := by
  refine ⟨g.held.trans h.held, g.seed.trans h.seed, g.seedLow.trans h.seedLow, fun ha => ?_⟩
  obtain ⟨h1, h2, h3, h4, h5, h6, h7⟩ := h.rest ha
  obtain ⟨g1, g2, g3, g4, g5, g6, g7⟩ := g.rest (h.held.trans ha)
  exact ⟨g1.trans h1, g2.trans h2, g3.trans h3, g4.trans h4, g5.trans h5, g6.trans h6, g7.trans h7⟩

/-- Step notices start the timers of a detector that is not held, and nothing else (R48, R49). -/
theorem judge_det (u : Room) (n : Seat) : DetKept (u.det.get n) (u.judge.det.get n) := by
  have hrise : ∀ d : Detector, DetKept d d.riseNotice := by
    intro d
    unfold Detector.riseNotice
    split
    · exact .refl d
    · rename_i h
      exact ⟨rfl, rfl, rfl, fun hheld => by simp [hheld] at h⟩
  have hfall : ∀ d : Detector, DetKept d d.fallNotice := by
    intro d
    unfold Detector.fallNotice
    split
    · exact .refl d
    · rename_i h
      exact ⟨rfl, rfl, rfl, fun hheld => by simp [hheld] at h⟩
  unfold Room.judge
  split
  · exact .refl _
  · simp only [Tab.get_mapFin]
    split <;> split
    · exact (hrise _).trans (hfall _)
    · exact hfall _
    · exact hrise _
    · exact .refl _

theorem ramp_det {u v : Room} (huv : u.det = v.det) (id : CompId) (g : Gain) (ms : Nat) (n : Seat) :
    DetKept (v.det.get n) ((u.ramp id g ms).det.get n) := by
  have h := judge_det (u.move id g ms) n
  rwa [show (u.move id g ms).det = v.det by simp [huv]] at h

theorem tone_det (u : Room) (m n : Seat) (x : Tone) : DetKept (u.det.get n) ((u.tone m x).det.get n) := by
  unfold Room.tone
  split
  · exact .refl _
  · exact ramp_det (v := u) (by rfl) _ _ _ n

theorem closeSeat_det (u : Room) (m n : Seat) (why : Reason) :
    DetKept (u.det.get n) ((u.closeSeat m why).det.get n) := by
  unfold Room.closeSeat
  dsimp only
  split
  · exact .refl _
  · have hgate : ∀ c : Prop, [Decidable c] → DetKept (u.det.get n)
        ((if c then ((u.unlist m).setSeat m FloorShut).mixGate m false else (u.unlist m).setSeat m FloorShut).det.get
          n) := by
      intro c _
      split
      · exact ramp_det (v := u) (by rfl) _ _ _ n
      · exact .refl _
    split <;> simp only [Room.emit_det, Room.floorView_keeps] <;> exact hgate _

theorem admitSeat_det (u : Room) (m n : Seat) (g : GateState) :
    DetKept (u.det.get n) ((u.admitSeat m g).det.get n) := by
  have hgate : DetKept (u.det.get n) ((admittedShown u m g).det.get n) := by
    rw [show (admittedShown u m g).det = ((admitted u m g).mixGate m true).det by simp [admittedShown]]
    exact ramp_det (v := u) (by rfl) (.gate m) _ _ n
  rw [admitSeat_eq]
  dsimp only
  split
  · simpa using hgate.trans (tone_det _ _ _ _)
  · simpa using hgate

/-- The end of a floor event leaves the seats and the collections as they stand (R87). -/
theorem floorFinish_floor (u : Room) :
    u.floorFinish.floor.seats = u.floor.seats ∧ u.floorFinish.floor.openList = u.floor.openList
      ∧ u.floorFinish.floor.waitList = u.floor.waitList ∧ u.floorFinish.floor.queue = u.floor.queue := by
  unfold Room.floorFinish
  dsimp only
  split <;> split <;> simp

theorem floorFinish_det (u : Room) (n : Seat) : DetKept (u.det.get n) (u.floorFinish.det.get n) := by
  unfold Room.floorFinish Room.mixCount
  dsimp only
  split <;> split
  · exact .refl _
  · exact .refl _
  · exact ramp_det (v := u) (by rfl) _ _ _ n
  · exact ramp_det (v := u) (by rfl) _ _ _ n

/-- What a chain keeps of a seat that its leave does not touch: its marks at the floor and at the Arbiter, its trip record,
and its detector but for what levels and step notices do. -/
structure Untouched (n : Seat) (r t : Room) : Prop where
  presence : (t.fseat n).presence = (r.fseat n).presence
  speaking : (t.fseat n).speaking = (r.fseat n).speaking
  heard : (t.mseat n).speaking = (r.mseat n).speaking
  trips : (t.fbSeat n).facts = (r.fbSeat n).facts
  det : DetKept (r.det.get n) (t.det.get n)

/-- An operation that leaves those blocks alone. -/
theorem Untouched.of_blocks {n : Seat} (hfloor : (t.fseat n).presence = (r.fseat n).presence
      ∧ (t.fseat n).speaking = (r.fseat n).speaking) (hmute : (t.mseat n).speaking = (r.mseat n).speaking)
    (hfb : t.fb.seats.map FbSeat.facts = r.fb.seats.map FbSeat.facts) (hdet : DetKept (r.det.get n) (t.det.get n)) :
    Untouched n r t :=
  ⟨hfloor.1, hfloor.2, hmute, get_of_map_eq hfb n, hdet⟩

@[simp] theorem setMuteSeat_mseat (u : Room) (m n : Seat) (f : MuteSeat → MuteSeat) :
    (u.setMuteSeat m f).mseat n = if m = n then f (u.mseat m) else u.mseat n := by
  simp only [Room.mseat, Room.setMuteSeat, Tab.get_modify]

/-- A record of the monitor's changed, its evaluation following, and every other as it was (R160). -/
theorem setFb_fbSeat (u : Room) (m n : Seat) (f : FbSeat → FbSeat) :
    (u.setFb m f).fbSeat n = if m = n then (f (u.fbSeat m)).settled u.fb.settings.window else u.fbSeat n := by
  simp only [Room.fbSeat, Room.setFb, Tab.get_modify]

/-- Whether a window runs is no part of what stands (R160). -/
theorem settled_facts (x : FbSeat) (k : Nat) : (x.settled k).facts = x.facts := by
  unfold FbSeat.settled
  split
  · split <;> rfl
  · rfl

theorem spellUpdate_speaking (u : Room) (m n : Seat) : ((u.spellUpdate m).mseat n).speaking = (u.mseat n).speaking := by
  unfold Room.spellUpdate
  dsimp only
  split
  · rfl
  · have htold : ∀ b, (((u.setMuteSeat m fun s => { s with spell := b }).tell m fun v =>
        { v with talking := b }).mseat n).speaking = (u.mseat n).speaking := by
      intro b
      rw [show ∀ v : Room, ∀ f, (v.tell m f).mseat n = v.mseat n by intro v f; simp [Room.mseat], setMuteSeat_mseat]
      split
      · rename_i hm
        subst hm
        rfl
      · rfl
    split
    · refine Eq.trans ?_ (htold ((u.mseat m).speaking && (u.eff m).micMuted))
      show ((Room.setMuteSeat _ m _).mseat n).speaking = _
      rw [setMuteSeat_mseat]
      split
      · rename_i hm
        subst hm
        rfl
      · rfl
    · exact htold _

theorem Step.untouched (h : Step P r t) (n : Seat) (hn : ¬ P.touch n) : Untouched n r t := by
  have hne : ∀ {m}, P.touch m → m ≠ n := by
    rintro m hm rfl
    exact hn hm
  cases h
  case judge => exact .of_blocks (by simp [Room.fseat]) (by simp [Room.mseat]) (by simp) (judge_det r n)
  case tone m x => exact .of_blocks (by simp [Room.fseat]) (by simp [Room.mseat]) (by simp) (tone_det r m n x)
  case muted m b =>
    refine .of_blocks ?_ rfl rfl (.refl _)
    simp only [setSeat_fseat]
    split <;> exact ⟨rfl, rfl⟩
  case seat m f h =>
    refine .of_blocks ?_ rfl rfl (.refl _)
    simp only [setSeat_fseat, if_neg (hne h), and_self]
  case close m why _ =>
    by_cases hm : (r.fseat m).gate = .closed
    · rw [closeSeat_idle r m why hm]
      exact .of_blocks ⟨rfl, rfl⟩ rfl rfl (.refl _)
    · refine .of_blocks ?_ (by simp [Room.mseat]) (by simp) (closeSeat_det r m n why)
      rw [closeSeat_fseat r m n why hm]
      split <;> exact ⟨rfl, rfl⟩
  case opens m g _ _ =>
    refine .of_blocks ?_ (by simp [Room.mseat]) (by simp) (admitSeat_det r m n g)
    rw [admitSeat_fseat]
    split <;> exact ⟨rfl, rfl⟩
  case wait m _ =>
    refine .of_blocks ?_ (by simp [Room.mseat]) (by simp) (by simpa [Room.waitSeat] using DetKept.refl _)
    simp only [Room.fseat, waitSeat_floor, Tab.get_modify]
    split <;> simp_all
  case queue m _ =>
    refine .of_blocks ?_ (by simp [Room.mseat]) (by simp) (by simpa [Room.queueSeat] using DetKept.refl _)
    simp only [Room.fseat, queueSeat_floor, Tab.get_modify]
    split <;> simp_all
  case finish =>
    refine .of_blocks ?_ (by simp [Room.mseat]) (by simp) (floorFinish_det r n)
    simp [Room.fseat, floorFinish_floor]
  case flag m f h hspeak _ =>
    refine .of_blocks ⟨rfl, rfl⟩ ?_ rfl (.refl _)
    simp only [setMuteSeat_mseat]
    split
    · rename_i hm
      subst hm
      exact hspeak.resolve_right fun h => hn h
    · rfl
  case spell m => exact .of_blocks (by simp [Room.fseat]) (spellUpdate_speaking r m n) (by simp) (by simpa using DetKept.refl _)
  case det m d _ h =>
    refine .of_blocks ⟨rfl, rfl⟩ rfl rfl ?_
    simp only [Room.setDet, Tab.get_modify]
    split
    · rename_i hm
      subst hm
      exact h.resolve_right fun h => hn h
    · exact .refl _
  case live m b => exact .of_blocks ⟨rfl, rfl⟩ rfl (Tab.map_modify _ _ _ _ (settled_facts _ _)) (.refl _)
  case fb m f h =>
    refine ⟨rfl, rfl, rfl, ?_, .refl _⟩
    rw [setFb_fbSeat, if_neg (hne h.1)]
  case window m => exact .of_blocks (by simp [Room.fseat]) (by simp [Room.mseat]) (by simp) (by simpa using DetKept.refl _)
  all_goals exact .of_blocks (by simp [Room.fseat]) (by simp [Room.mseat]) (by simp) (by simpa using DetKept.refl _)

end Sys2Proof.Machine.PodLines
end

section
/-! Pod records and the samples of a line through a chain: an operation that moves no map, no standby and no record's facts
leaves the records as they are, or changes one record's view and recomposes its indications. -/

namespace Sys2Proof.Machine.PodLines

variable {P : Leave} {r t : Room}

/-- The records are as they were, or one has been changed but for its facts, and recomposed. -/
def Sight (r t : Room) : Prop :=
  t.map.running = r.map.running
    ∧ (t.lines = r.lines ∨ ∃ p f, (∀ x : Pod, (f x).facts = x.facts) ∧ t.lines = ((r.setPod p f).compose p).lines)

theorem Sight.of_lines (hmap : t.map.running = r.map.running) (h : t.lines = r.lines) : Sight r t := ⟨hmap, .inl h⟩

/-- A notice for a seat, in a room whose records and map are the same. -/
theorem Sight.of_tell {u : Room} {n : Seat} {f : View → View} (h : t.lines = (u.tell n f).lines) (hmap : u.map = r.map)
    (hlines : u.lines = r.lines) (ht : t.map = r.map) : Sight r t := by
  refine ⟨by rw [ht], ?_⟩
  have hplace : u.placeOf n = r.placeOf n := by simp [Room.placeOf, Room.entry, hmap]
  have hpod : ∀ p, u.podAt p = r.podAt p := fun p => by simp [Room.podAt, hlines]
  rw [h]
  unfold Room.tell
  rw [hplace]
  split
  · exact .inl hlines
  · rename_i p _
    rw [hpod p]
    split
    · refine .inr ⟨p, fun pod => { pod with view := f pod.view }, fun _ => rfl, ?_⟩
      simp [Room.compose, Room.setPod, hmap, hlines]
    · exact .inl hlines

theorem closeSeat_sight (u : Room) (n : Seat) (why : Reason) : Sight u (u.closeSeat n why) := by
  by_cases hclosed : (u.fseat n).gate = .closed
  · rw [closeSeat_idle u n why hclosed]
    exact .of_lines rfl rfl
  · unfold Room.closeSeat
    rw [if_neg hclosed]
    dsimp only
    generalize hv : (if (u.fseat n).gate.isOpen = true then _ else _) = v
    have hmap : v.map = u.map := by rw [← hv]; split <;> simp
    have hlines : v.lines = u.lines := by rw [← hv]; split <;> simp
    split <;> exact .of_tell (u := v) (n := n) rfl hmap hlines (by simp [hmap])

theorem admitSeat_sight (u : Room) (n : Seat) (g : GateState) : Sight u (u.admitSeat n g) := by
  refine .of_tell (u := (admitted u n g).mixGate n true) (n := n) (f := fun v => { v with floor := g }) ?_
    (by simp [admitted]) (by simp [admitted]) (by simp)
  rw [admitSeat_eq]
  dsimp only
  split <;> cases (u.fseat n).gate <;> simp [Room.emitAdmitted] <;> rfl

theorem spellUpdate_sight (u : Room) (n : Seat) : Sight u (u.spellUpdate n) := by
  unfold Room.spellUpdate
  dsimp only
  split
  · exact .of_lines rfl rfl
  · have hview : ∀ v : Room, v.lines = (Room.tell (u.setMuteSeat n fun s => { s with
        spell := (u.mseat n).speaking && (u.eff n).micMuted }) n fun w => { w with
        talking := (u.mseat n).speaking && (u.eff n).micMuted }).lines → v.map = u.map → Sight u v :=
      fun v h hmap => .of_tell h rfl rfl hmap
    split
    · exact hview _ rfl (by simp)
    · exact hview _ rfl (by simp)

/-- The operations that change no map, no standby and no record's facts. -/
theorem Step.sight (h : Step P r t) : Sight r t ∨ (∃ l b, P.rest ∧ t = r.lineStandby l b)
    ∨ (∃ p f, P.pod p ∧ t = r.setPod p f)
    ∨ (∃ l f, (∀ x : Line, (f x).pods = x.pods ∧ (f x).dark = x.dark ∧ (f x).audio = x.audio) ∧ t = r.setLine l f)
    ∨ ∃ m, P.swap ∧ t = { r with map := m } := by
  cases h
  case dusk l b h => exact .inr (.inl ⟨l, b, h, rfl⟩)
  case pod p f h => exact .inr (.inr (.inl ⟨p, f, h, rfl⟩))
  case line l f hf => exact .inr (.inr (.inr (.inl ⟨l, f, hf, rfl⟩)))
  case map m _ _ h => exact .inr (.inr (.inr (.inr ⟨m, h, rfl⟩)))
  case indicate p f hf => exact .inl ⟨by simp, .inr ⟨p, f, hf, rfl⟩⟩
  case close n why _ => exact .inl (closeSeat_sight r n why)
  case opens n g _ _ => exact .inl (admitSeat_sight r n g)
  case wait n _ =>
    have htold : (r.waitSeat n).lines = (Room.tell (Room.setSeat { r with
      floor := { r.floor with waitList := r.floor.waitList ++ [n] } } n fun x => { x with gate := .waiting }) n
        fun v => { v with floor := .waiting }).lines := rfl
    exact .inl (.of_tell htold rfl rfl (by simp))
  case queue n _ =>
    have htold : (r.queueSeat n).lines = (Room.tell (Room.setSeat { r with
      floor := { r.floor with queue := r.floor.queue ++ [n] } } n fun x => { x with gate := .queued }) n
        fun v => { v with floor := .queued }).lines := rfl
    exact .inl (.of_tell htold rfl rfl (by simp))
  case spell n => exact .inl (spellUpdate_sight r n)
  all_goals exact .inl (.of_lines (by simp) (by simp))

/-! ## Samples -/

theorem setPod_audio (u : Room) (p : PodPos) (f : Pod → Pod) :
    (u.setPod p f).lines.map Line.audio = u.lines.map Line.audio := Tab.map_modify _ _ _ _ rfl

theorem lineStandby_audio (u : Room) (l : LineNo) (b : Bool) :
    (u.lineStandby l b).lines.map Line.audio = u.lines.map Line.audio := by
  have hpod : ∀ (v : Room) (p : Pos), (v.standbyPod b ⟨l, p⟩).lines.map Line.audio = v.lines.map Line.audio := by
    intro v p
    unfold Room.standbyPod Room.refresh Room.compose
    dsimp only
    repeat' split
    all_goals simp only [setPod_audio]
  exact (foldl_keeps (π := fun v : Room => v.lines.map Line.audio) _ hpod allPositions _).trans
    (Tab.map_modify _ _ _ _ rfl)

theorem Step.audio_kept (h : Step P r t) : t.lines.map Line.audio = r.lines.map Line.audio := by
  rcases h.sight with ⟨_, hlines | ⟨p, f, _, hlines⟩⟩ | ⟨l, b, _, rfl⟩ | ⟨p, f, _, rfl⟩ | ⟨l, f, hf, rfl⟩ | ⟨m, _, rfl⟩
  · rw [hlines]
  · rw [hlines, Room.compose, setPod_audio, setPod_audio]
  · exact lineStandby_audio r l b
  · exact setPod_audio r p f
  · exact Tab.map_modify _ _ _ _ (hf _).2.2
  · rfl

/-- No chain changes the samples of a position. -/
theorem Steps.audio_kept (h : Steps P r t) (l : LineNo) : (t.line l).audio = (r.line l).audio :=
  get_of_map_eq (h.keeps (C := fun u => u.lines.map Line.audio = r.lines.map Line.audio)
    (fun _ _ hu hv => hv.audio_kept.trans hu) rfl) l

theorem move_program (u : Room) (id : CompId) (g : Gain) (ms : Nat) : (u.move id g ms).mix.program = u.mix.program := by
  unfold Room.move
  dsimp only
  split
  · rfl
  · cases id <;> rfl

theorem ramp_program (u : Room) (id : CompId) (g : Gain) (ms : Nat) : (u.ramp id g ms).mix.program = u.mix.program := by
  rw [show (u.ramp id g ms).mix = (u.move id g ms).mix from (Room.judge_keeps _).2.2.2.2.1, move_program]

theorem tone_program (u : Room) (n : Seat) (x : Tone) : (u.tone n x).mix.program = u.mix.program := by
  unfold Room.tone
  split
  · rfl
  · rw [ramp_program]

theorem Step.program_kept (h : Step P r t) : t.mix.program = r.mix.program := by
  cases h
  case move => exact move_program ..
  case tone => exact tone_program ..
  case mixMark m _ _ hprogram _ => exact hprogram
  case close n why _ =>
    unfold Room.closeSeat
    dsimp only
    split
    · rfl
    · split <;> split <;> simp [Room.mixGate, ramp_program]
  case opens n g _ _ =>
    rw [admitSeat_eq, admittedShown]
    dsimp only
    split <;> simp [tone_program, Room.mixGate, ramp_program, admitted]
  case finish =>
    unfold Room.floorFinish
    dsimp only
    split <;> split <;> simp [Room.mixCount, ramp_program]
  all_goals simp

/-- No chain changes the samples of the program inputs. -/
theorem Steps.program_kept (h : Steps P r t) : t.mix.program = r.mix.program :=
  h.keeps (C := fun u => u.mix.program = r.mix.program) (fun _ _ hu hv => (Step.program_kept hv).trans hu) rfl

/-! ## Indications -/

/-- What a position shows depends on its record, the map and its line's standby alone. -/
theorem shows_congr {p : PodPos} (hmap : t.map.running = r.map.running) (hpod : t.podAt p = r.podAt p)
    (hdark : (t.line p.line).dark = (r.line p.line).dark) (h : r.Shows p) : t.Shows p := by
  unfold Room.Shows Room.shown at *
  rw [hmap, hpod, hdark]
  exact h

theorem setPod_dark (u : Room) (p : PodPos) (f : Pod → Pod) (l : LineNo) : ((u.setPod p f).line l).dark = (u.line l).dark :=
  get_of_map_eq (Tab.map_modify _ _ _ _ rfl) l

theorem indicate_shows (u : Room) (p q : PodPos) (f : Pod → Pod) (h : u.Shows q) : ((u.setPod p f).compose p).Shows q := by
  by_cases hpq : p = q
  · subst hpq
    exact compose_shows _ p
  · refine shows_congr (by simp) ?_ ?_ h
    · rw [compose_podAt, if_neg hpq, Room.setPod_podAt, if_neg hpq]
    · rw [compose_dark, setPod_dark]

theorem Step.shows_kept (h : Step P r t) (p : PodPos) (hp : ¬ P.pod p) (hswap : ¬ P.swap) (hrest : ¬ P.rest)
    (hr : r.Shows p) : t.Shows p := by
  rcases h.sight with ⟨hmap, hlines | ⟨q, f, _, hlines⟩⟩ | ⟨l, b, hr', _⟩ | ⟨q, f, hq, rfl⟩ | ⟨l, f, hf, rfl⟩ | ⟨m, hm, _⟩
  · exact shows_congr hmap (by simp [Room.podAt, hlines]) (by simp [Room.line, hlines]) hr
  · refine shows_congr (hmap.trans (by simp)) ?_ ?_ (indicate_shows r q p f hr) <;>
      simp only [Room.podAt, Room.line, hlines]
  · exact absurd hr' hrest
  · have hne : q ≠ p := by rintro rfl; exact hp hq
    exact shows_congr (r := r) rfl (by rw [Room.setPod_podAt, if_neg hne]) (setPod_dark r q f _) hr
  · refine shows_congr (r := r) rfl ?_ ?_ hr
    · exact congrArg (fun x => Tab.get x p.pos)
        (get_of_map_eq (f := Line.pods) (Tab.map_modify _ _ _ _ (hf _).1) p.line)
    · exact get_of_map_eq (f := Line.dark) (Tab.map_modify _ _ _ _ (hf _).2.1) p.line
  · exact absurd hm hswap

theorem Steps.shows_kept (h : Steps P r t) (p : PodPos) (hp : ¬ P.pod p) (hswap : ¬ P.swap) (hrest : ¬ P.rest)
    (hr : r.Shows p) : t.Shows p :=
  h.keeps (C := fun u => u.Shows p) (fun _ _ hu hv => hv.shows_kept p hp hswap hrest hu) hr

end Sys2Proof.Machine.PodLines
end

section
/-! A seat at the floor through a chain that does not touch it (R86 to R91): it stands as it did, or it closes, or it is
admitted from a list or as an admissible seat, or it joins the Wait List; each with its event. And a seat whose pod is
lost, which no such chain brings back. -/

namespace Sys2Proof.Machine.PodLines

variable {P : Leave} {r t : Room}

/-! ## Events stand -/

theorem Step.grows (h : Step P r t) : r.out <+: t.out := by
  cases h
  all_goals simp (maxDischargeDepth := 30) -implicitDefEqProofs

/-- No chain takes back an event. -/
theorem Steps.grows (h : Steps P r t) : r.out <+: t.out :=
  h.keeps (C := fun u => r.out <+: u.out) (fun _ _ hu hv => hu.trans hv.grows) List.prefix_rfl

/-! ## The moves of a seat -/

/-- A seat's gate, timer and place in the lists are as they were. -/
structure SameFloor (n : Seat) (r t : Room) : Prop where
  gate : (t.fseat n).gate = (r.fseat n).gate
  timer : (t.fseat n).timer = (r.fseat n).timer
  kept : (t.fseat n).kept = (r.fseat n).kept
  inOpen : n ∈ t.floor.openList ↔ n ∈ r.floor.openList
  inWait : n ∈ t.floor.waitList ↔ n ∈ r.floor.waitList
  inQueue : n ∈ t.floor.queue ↔ n ∈ r.floor.queue

/-- What a shared operation does with a seat at the floor. -/
inductive FloorMove (P : Leave) (n : Seat) (r t : Room) : Prop
  | same (h : SameFloor n r t)
  | shut (why : Reason) (hP : P.close n) (hwas : (r.fseat n).gate ≠ .closed) (hnow : t.fseat n = FloorShut (r.fseat n))
      (hopen : n ∉ t.floor.openList) (hwait : n ∉ t.floor.waitList) (hqueue : n ∉ t.floor.queue)
      (hout : t.out = r.out ++ [closing n (r.fseat n).gate why])
  | admitted (hnow : (t.fseat n).gate.isOpen = true)
      (hfrom : n ∈ r.floor.waitList ∨ n ∈ r.floor.queue ∨ Joins r n)
      (hout : (r.emitAdmitted n (r.fseat n).gate).out <+: t.out)
  | waits (hnow : (t.fseat n).gate = .waiting) (hfrom : Joins r n)

theorem SameFloor.of_floor {n : Seat} (h : t.floor = r.floor) : SameFloor n r t := by
  constructor <;> simp [Room.fseat, h]

theorem mem_without {m n : Seat} (h : m ≠ n) (l : List Seat) : n ∈ l.filter (· ≠ m) ↔ n ∈ l := by
  simp [Ne.symm h]

theorem not_mem_without (n : Seat) (l : List Seat) : n ∉ l.filter (· ≠ n) := by simp

theorem closeSeat_move (u : Room) (m n : Seat) (why : Reason) (hm : P.close m) : FloorMove P n u (u.closeSeat m why) := by
  by_cases hclosed : (u.fseat m).gate = .closed
  · rw [closeSeat_idle u m why hclosed]
    exact .same (.of_floor rfl)
  · have hseat := closeSeat_fseat u m n why hclosed
    obtain ⟨hopen, hwait, hqueue⟩ := closeSeat_lists u m why hclosed
    by_cases hmn : m = n
    · subst hmn
      rw [if_pos rfl] at hseat
      refine .shut why hm hclosed hseat ?_ ?_ ?_ (closeSeat_out u m why hclosed)
      · rw [hopen]; exact not_mem_without m _
      · rw [hwait]; exact not_mem_without m _
      · rw [hqueue]; exact not_mem_without m _
    · rw [if_neg hmn] at hseat
      refine .same ⟨by rw [hseat], by rw [hseat], by rw [hseat], ?_, ?_, ?_⟩
      · rw [hopen]; exact mem_without hmn _
      · rw [hwait]; exact mem_without hmn _
      · rw [hqueue]; exact mem_without hmn _

theorem admitSeat_move (u : Room) (m n : Seat) (g : GateState) (hg : g.isOpen = true) (hn : ¬ P.touch n)
    (h : m ∈ u.floor.waitList ∨ m ∈ u.floor.queue ∨ Joins u m ∨ P.touch m) :
    FloorMove P n u (u.admitSeat m g) := by
  have hseat := admitSeat_fseat u m n g
  by_cases hmn : m = n
  · subst hmn
    rw [if_pos rfl] at hseat
    refine .admitted (by rw [hseat]; exact hg) (by tauto) ?_
    rw [admitSeat_out]
    exact List.prefix_append _ _
  · rw [if_neg hmn] at hseat
    refine .same ⟨by rw [hseat], by rw [hseat], by rw [hseat], ?_, ?_, ?_⟩ <;> rw [admitSeat_floor, admitted]
    · dsimp only
      split
      · simp [Ne.symm hmn]
      · exact mem_without hmn _
    · exact mem_without hmn _
    · exact mem_without hmn _

/-- What a shared operation does with a seat that its leave does not touch. -/
theorem Step.floorMove (h : Step P r t) (n : Seat) (hn : ¬ P.touch n) : FloorMove P n r t := by
  cases h
  case close m why hm => exact closeSeat_move r m n why hm
  case opens m g hg h => exact admitSeat_move r m n g hg hn h
  case muted m b =>
    have hseat := setSeat_fseat r m n fun x => { x with muted := b }
    refine .same ⟨?_, ?_, ?_, Iff.rfl, Iff.rfl, Iff.rfl⟩ <;> rw [hseat] <;> split <;> rfl
  case seat m f h =>
    have hne : m ≠ n := by rintro rfl; exact hn h
    have hseat := setSeat_fseat r m n f
    rw [if_neg hne] at hseat
    exact .same ⟨by rw [hseat], by rw [hseat], by rw [hseat], Iff.rfl, Iff.rfl, Iff.rfl⟩
  case wait m h =>
    have hfloor := waitSeat_floor r m
    have hseat : (r.waitSeat m).fseat n = if m = n then { r.fseat m with gate := .waiting } else r.fseat n := by
      rw [Room.fseat, hfloor, Tab.get_modify]
      rfl
    by_cases hmn : m = n
    · subst hmn
      rw [if_pos rfl] at hseat
      exact .waits (by rw [hseat]) (h.resolve_right hn)
    · rw [if_neg hmn] at hseat
      refine .same ⟨by rw [hseat], by rw [hseat], by rw [hseat], ?_, ?_, ?_⟩ <;> rw [hfloor]
      simp [Ne.symm hmn]
  case queue m h =>
    have hne : m ≠ n := by rintro rfl; exact hn h
    have hfloor := queueSeat_floor r m
    have hseat : (r.queueSeat m).fseat n = r.fseat n := by
      rw [Room.fseat, hfloor, Tab.get_modify, if_neg hne]
      rfl
    refine .same ⟨by rw [hseat], by rw [hseat], by rw [hseat], ?_, ?_, ?_⟩ <;> rw [hfloor]
    simp [Ne.symm hne]
  case finish =>
    obtain ⟨hseats, hopen, hwait, hqueue⟩ := floorFinish_floor r
    refine .same ⟨?_, ?_, ?_, by rw [hopen], by rw [hwait], by rw [hqueue]⟩ <;> simp [Room.fseat, hseats]
  case floorRest b _ => exact .same ⟨rfl, rfl, rfl, Iff.rfl, Iff.rfl, Iff.rfl⟩
  all_goals exact .same (.of_floor (by simp))

/-! ## A closed seat off the lists -/

/-- A seat that is CLOSED is on neither list from which seats are admitted. -/
def OffLists (n : Seat) (r : Room) : Prop := (r.fseat n).gate = .closed → n ∉ r.floor.waitList ∧ n ∉ r.floor.queue

/-- A seat that is CLOSED has no timer, is not kept and is not in the Open List. -/
def Bare (n : Seat) (r : Room) : Prop :=
  (r.fseat n).gate = .closed → (r.fseat n).timer = .off ∧ (r.fseat n).kept = false ∧ n ∉ r.floor.openList

theorem FloorMove.offLists {n : Seat} (h : FloorMove P n r t) (hr : OffLists n r) : OffLists n t := by
  intro hclosed
  cases h with
  | same h => exact ⟨fun hw => (hr (h.gate ▸ hclosed)).1 (h.inWait.1 hw), fun hq => (hr (h.gate ▸ hclosed)).2 (h.inQueue.1 hq)⟩
  | shut _ _ _ _ _ hwait hqueue _ => exact ⟨hwait, hqueue⟩
  | admitted hnow _ _ => rw [hclosed] at hnow; cases hnow
  | waits hnow _ => rw [hclosed] at hnow; cases hnow

theorem FloorMove.bare {n : Seat} (h : FloorMove P n r t) (hr : Bare n r) : Bare n t := by
  intro hclosed
  cases h with
  | same h =>
    obtain ⟨htimer, hkept, hopen⟩ := hr (h.gate ▸ hclosed)
    exact ⟨h.timer.trans htimer, h.kept.trans hkept, fun ho => hopen (h.inOpen.1 ho)⟩
  | shut _ _ _ hnow hopen _ _ _ =>
    rw [hnow]
    exact ⟨rfl, rfl, hopen⟩
  | admitted hnow _ _ => rw [hclosed] at hnow; cases hnow
  | waits hnow _ => rw [hclosed] at hnow; cases hnow

theorem Steps.offLists (h : Steps P r t) (n : Seat) (hn : ¬ P.touch n) (hr : OffLists n r) : OffLists n t :=
  h.keeps (fun _ _ hu hv => (hv.floorMove n hn).offLists hu) hr

theorem Steps.bare (h : Steps P r t) (n : Seat) (hn : ¬ P.touch n) (hr : Bare n r) : Bare n t :=
  h.keeps (fun _ _ hu hv => (hv.floorMove n hn).bare hu) hr

/-! ## A seat that is not closed, through a chain that does not close it -/

/-- An open seat on no list keeps its gate. -/
def StaysOpen (n : Seat) (g : GateState) (r : Room) : Prop :=
  (r.fseat n).gate = g ∧ n ∉ r.floor.waitList ∧ n ∉ r.floor.queue

theorem Steps.staysOpen (h : Steps P r t) (n : Seat) (hn : ¬ P.touch n) (hc : ¬ P.close n) {g : GateState}
    (hg : g ≠ .closed) (hr : StaysOpen n g r) : StaysOpen n g t := by
  refine h.keeps (fun u v hu hv => ?_) hr
  obtain ⟨hgate, hwait, hqueue⟩ := hu
  cases hv.floorMove n hn with
  | same h => exact ⟨h.gate.trans hgate, fun hw => hwait (h.inWait.1 hw), fun hq => hqueue (h.inQueue.1 hq)⟩
  | shut _ hP => exact absurd hP hc
  | admitted _ hfrom _ =>
    rcases hfrom with hw | hq | hj
    · exact absurd hw hwait
    · exact absurd hq hqueue
    · exact absurd (hgate.symm.trans hj.2) hg
  | waits _ hj => exact absurd (hgate.symm.trans hj.2) hg

/-- The list that a gate state names. -/
def listOf (g : GateState) : FloorList := if g = .waiting then .wait else .request

/-- A seat on a list is still there, or has been admitted from it, with its event. -/
def StaysListed (n : Seat) (g : GateState) (r : Room) : Prop :=
  (r.fseat n).gate = g ∨ .dequeuedEv n (listOf g) .admitted ∈ r.out

theorem Steps.staysListed (h : Steps P r t) (n : Seat) (hn : ¬ P.touch n) (hc : ¬ P.close n) {g : GateState}
    (hg : g = .waiting ∨ g = .queued) (hr : StaysListed n g r) : StaysListed n g t := by
  have hne : g ≠ .closed := by rcases hg with rfl | rfl <;> decide
  refine h.keeps (fun u v hu hv => ?_) hr
  rcases hu with hgate | hev
  · cases hv.floorMove n hn with
    | same h => exact .inl (h.gate.trans hgate)
    | shut _ hP => exact absurd hP hc
    | admitted _ _ hout =>
      refine .inr (hout.subset ?_)
      rw [hgate]
      rcases hg with rfl | rfl <;> simp [Room.emitAdmitted, Room.emit, listOf]
    | waits _ hj => exact absurd (hgate.symm.trans hj.2) hne
  · exact .inr (hv.grows.subset hev)

/-! ## A seat whose pod is lost -/

/-- What stands of a seat once its pod is lost, its gate apart (R26, R50, R56, R59, R79, R109, R166). -/
structure Gone (n : Seat) (own : Bool) (r : Room) : Prop where
  flags : (r.mseat n).facts = ⟨true, own, false, .absent⟩
  heard : (r.mseat n).speaking = false
  spell : (r.mseat n).spell = false
  eff : (r.eff n).micMuted = true ∧ (r.eff n).micCause = .privacy
  trips : (r.fbSeat n).facts = ⟨.absent, 0, none, none, false, none, 0⟩
  window : (r.fbSeat n).consecutive = 0 ∧ (r.fbSeat n).window = none
  presence : (r.fseat n).presence = .absent
  speaking : (r.fseat n).speaking = false
  held : (r.det.get n).held = true
  det : (r.det.get n).dstate = .silent ∧ (r.det.get n).acc = 0 ∧ (r.det.get n).due = false
    ∧ (r.det.get n).endTimer = 0 ∧ (r.det.get n).seed = none ∧ (r.det.get n).rise = none ∧ (r.det.get n).fall = none
    ∧ (r.det.get n).noiseFloor = -100000

/-- A seat whose privacy switch is set is muted for it (R55, R71). -/
theorem effOf_private (u : Room) (n : Seat) (h : (u.mseat n).facts.privacy = true) :
    (u.effOf n).micMuted = true ∧ (u.effOf n).micCause = .privacy := by
  have hp : (u.mute.seats.get n).privacy = true := h
  simp [Room.effOf, hp, micCauseOf]

theorem Step.eff_private (h : Step P r t) (n : Seat) (hp : (r.mseat n).facts.privacy = true)
    (hr : (r.eff n).micMuted = true ∧ (r.eff n).micCause = .privacy) :
    (t.eff n).micMuted = true ∧ (t.eff n).micCause = .privacy := by
  have hsame : t.mute.eff = r.mute.eff → (t.eff n).micMuted = true ∧ (t.eff n).micCause = .privacy := fun he => by
    rw [Room.eff, he]
    exact hr
  cases h
  case eff m _ =>
    simp only [Room.eff, Tab.get_set]
    split
    · rename_i hm
      subst hm
      exact effOf_private r m hp
    · exact hr
  all_goals exact hsame (by simp)

theorem spellUpdate_mseat_ne (u : Room) {m n : Seat} (h : m ≠ n) : (u.spellUpdate m).mseat n = u.mseat n := by
  have htell : ∀ v : Room, ∀ f, (v.tell m f).mseat n = v.mseat n := by intro v f; simp [Room.mseat]
  unfold Room.spellUpdate
  dsimp only
  split
  · rfl
  · split
    · show (Room.setMuteSeat _ m _).mseat n = _
      rw [setMuteSeat_mseat, if_neg h, htell, setMuteSeat_mseat, if_neg h]
    · rw [htell, setMuteSeat_mseat, if_neg h]

/-- A seat that is not heard speaking has no spell (R79). -/
theorem spellUpdate_silent (u : Room) (n : Seat) (h : (u.mseat n).speaking = false) :
    ((u.spellUpdate n).mseat n).spell = false := by
  unfold Room.spellUpdate
  simp only [h, Bool.false_and]
  split
  · rename_i hs
    exact hs.symm
  · rw [if_neg (by simp)]
    rw [show ∀ v : Room, ∀ f, (v.tell n f).mseat n = v.mseat n by intro v f; simp [Room.mseat], setMuteSeat_mseat,
      if_pos rfl]

theorem Step.spell_silent (h : Step P r t) (n : Seat) (hs : (r.mseat n).speaking = false)
    (hr : (r.mseat n).spell = false) : (t.mseat n).spell = false := by
  cases h
  case flag m f _ _ hspell =>
    rw [setMuteSeat_mseat]
    split
    · rename_i hm
      subst hm
      exact hspell.trans hr
    · exact hr
  case spell m =>
    by_cases hm : m = n
    · subst hm
      exact spellUpdate_silent r m hs
    · rw [spellUpdate_mseat_ne r hm]
      exact hr
  all_goals simpa [Room.mseat] using hr

/-- A seat that is not PRESENT has no window in progress (R160). -/
theorem Step.window_idle (h : Step P r t) (n : Seat) (hn : ¬ P.touch n) (hp : (r.fbSeat n).facts.presence ≠ .present)
    (hr : (r.fbSeat n).consecutive = 0 ∧ (r.fbSeat n).window = none) :
    (t.fbSeat n).consecutive = 0 ∧ (t.fbSeat n).window = none := by
  have hp : (r.fbSeat n).presence ≠ .present := hp
  cases h
  case live m b =>
    rw [setFb_fbSeat]
    split
    · rename_i hm
      subst hm
      simp [FbSeat.settled, FbSeat.watching, hp]
    · exact hr
  case fb m f h =>
    rw [setFb_fbSeat, if_neg (by rintro rfl; exact hn h.1)]
    exact hr
  case window m =>
    simp only [Room.fbSeat, Room.hearWindow, Tab.get_modify]
    split
    · rename_i hm
      subst hm
      exact ⟨hr.1, by simp only [FbSeat.hear]; rw [show (r.fb.seats.get m).window = none from hr.2]; rfl⟩
    · exact hr
  all_goals simpa [Room.fbSeat] using hr

/-- No chain that does not touch a lost seat, nor sets its flags, brings it back. -/
theorem Steps.gone (h : Steps P r t) (n : Seat) (hn : ¬ P.touch n) (hflag : ∀ a b, P.flag n a b → b = a) {own : Bool}
    (hr : Gone n own r) : Gone n own t := by
  refine h.keeps (fun u v hu hv => ?_) hr
  have hun := hv.untouched n hn
  have hflags : (v.mseat n).facts = (u.mseat n).facts :=
    hv.flags n (fun a b => b = a) (fun _ => rfl) hflag
  obtain ⟨d1, d2, d3, d4, d5, d6, d7, d8⟩ := hu.det
  obtain ⟨e1, e2, e3, e4, e5, e6, e7⟩ := hun.det.rest hu.held
  exact
    { flags := hflags.trans hu.flags
      heard := hun.heard.trans hu.heard
      spell := hv.spell_silent n hu.heard hu.spell
      eff := hv.eff_private n (by rw [hu.flags]) hu.eff
      trips := hun.trips.trans hu.trips
      window := hv.window_idle n hn (by rw [hu.trips]; decide) hu.window
      presence := hun.presence.trans hu.presence
      speaking := hun.speaking.trans hu.speaking
      held := hun.det.held.trans hu.held
      det := ⟨e1.trans d1, e2.trans d2, e3.trans d3, e4.trans d4, hun.det.seed.trans d5, e5.trans d6, e6.trans d7,
        e7.trans d8⟩ }

/-- A lost seat that is CLOSED and on no list from which seats are admitted. -/
def GoneShut (n : Seat) (r : Room) : Prop :=
  (r.fseat n).presence = .absent ∧ (r.fseat n).gate = .closed ∧ n ∉ r.floor.waitList ∧ n ∉ r.floor.queue

theorem Steps.goneShut (h : Steps P r t) (n : Seat) (hn : ¬ P.touch n) (hr : GoneShut n r) : GoneShut n t := by
  refine h.keeps (fun u v hu hv => ?_) hr
  obtain ⟨hpres, hgate, hwait, hqueue⟩ := hu
  have hnot : ¬ Joins u n := fun hj => by
    have hadm := hj.1
    simp only [Floor.admissible, Bool.and_eq_true, decide_eq_true_eq] at hadm
    exact absurd (hpres.symm.trans hadm.1.1) (by decide)
  refine ⟨(hv.untouched n hn).presence.trans hpres, ?_⟩
  cases hv.floorMove n hn with
  | same h => exact ⟨h.gate.trans hgate, fun hw => hwait (h.inWait.1 hw), fun hq => hqueue (h.inQueue.1 hq)⟩
  | shut _ _ hwas => exact absurd hgate hwas
  | admitted _ hfrom _ => tauto
  | waits _ hj => exact absurd hj hnot

end Sys2Proof.Machine.PodLines
end

section
/-! The loss of a pod (R26): as a chain of shared operations, and what it leaves of the seat that the pod served. -/

namespace Sys2Proof.Machine.PodLines

section
variable {P : Leave} {r t : Room}

/-- What the loss or the find of a pod asks of a leave for the seat it serves. -/
structure Leave.Serves (P : Leave) (n : Seat) : Prop where
  touch : P.touch n
  trip : P.trip n
  flag : ∀ a b, P.flag n a b
  offset : P.move (.feedbackOffset n)

theorem setLineState_steps (h : Steps P r t) (l : LineNo) (st : LineState) : Steps P r (t.setLineState l st) := by
  unfold Room.setLineState
  exact Steps.ite h ((h.then (.line l (fun x => { x with lstate := st }) fun _ => ⟨rfl, rfl, rfl⟩)).emit _)

theorem followCount_steps (h : Steps P r t) (l : LineNo) : Steps P r (t.followCount l) :=
  Steps.ite h (setLineState_steps h l _)

theorem checkProbe_steps (h : Steps P r t) (l : LineNo) : Steps P r (t.checkProbe l) := by
  refine h.then (.line l _ fun x => ?_)
  unfold Line.probeCheck
  repeat' split
  all_goals exact ⟨rfl, rfl, rfl⟩

/-- The line state, the probe timer and the settling that end a loss or a find (R23, R29). -/
theorem afterPod_steps (h : Steps P r t) (l : LineNo) (hs : t.map.switch = none ∨ P.Free) :
    Steps P r ((t.followCount l).checkProbe l).settle := by
  refine (checkProbe_steps (followCount_steps h l) l).settle ?_
  simpa using hs

theorem losePod_steps (h : Steps P r t) (p : PodPos) (cause : LossCause) (hw : P.Wide) (hp : P.pod p)
    (hs : t.map.switch = none ∨ P.Free) (hserve : ∀ n, seatAt t.map.running p = some n → P.Serves n) :
    Steps P r (t.losePod p cause) := by
  have hgone := (h.then (.pod p Pod.gone hp)).emit (.podLost p cause (seatAt t.map.running p))
  unfold Room.losePod
  dsimp only
  split
  · rename_i n hn
    have hn := hserve n hn
    exact afterPod_steps (hgone.presenceNotice n .absent hw hn.touch hn.trip hn.flag hn.offset) _ (by simpa using hs)
  · exact afterPod_steps hgone _ hs

/-! ## Where the mutes are derived, one seat's flags change no other seat's mutes -/

theorem deriveSeats_one (u : Room) (n : Seat) (l : List Seat) (h : ∀ m, m ≠ n → u.eff m = u.effOf m) :
    l.foldl Room.deriveSeat u = if n ∈ l then u.deriveSeat n else u := by
  have hidle : ∀ (v : Room) (m : Seat), v.eff m = v.effOf m → v.deriveSeat m = v := by
    intro v m hm
    unfold Room.deriveSeat
    rw [if_pos hm]
  have hall : ∀ (v : Room) (l : List Seat), (∀ m, v.eff m = v.effOf m) → l.foldl Room.deriveSeat v = v := by
    intro v l hv
    induction l with
    | nil => rfl
    | cons m l ih => rw [List.foldl_cons, hidle v m (hv m), ih]
  induction l with
  | nil => rfl
  | cons m l ih =>
    rw [List.foldl_cons]
    by_cases hm : m = n
    · subst hm
      rw [if_pos (List.mem_cons_self ..), hall]
      intro k
      rw [u.deriveSeat_eff, (u.deriveSeat_same m).effOf]
      split
      · rfl
      · exact h k (by rintro rfl; simp_all)
    · rw [hidle u m (h m hm), ih]
      simp [Ne.symm hm]

/-- The derivation where one seat alone may have changed is that seat's (R71). -/
theorem derive_one (u : Room) (n : Seat) (h : ∀ m, m ≠ n → u.eff m = u.effOf m)
    (hl : ∀ k, u.mute.links.get k = u.linkEffOf k) : u.derive = u.deriveSeat n := by
  have hlink : ∀ (v : Room) (k : Link), v.mute.links.get k = v.linkEffOf k → v.deriveLink k = v := by
    intro v k hk
    have hset : ({ v with mute := { v.mute with links := v.mute.links.set k (v.linkEffOf k) } } : Room) = v := by
      rw [← hk, Tab.set_get_self]
    unfold Room.deriveLink
    dsimp only
    rw [hset, hk]
    simp [Room.deriveWay]
  have hlinks : ∀ (v : Room) (l : List Link), (∀ k, v.mute.links.get k = v.linkEffOf k) →
      l.foldl Room.deriveLink v = v := by
    intro v l hv
    induction l with
    | nil => rfl
    | cons k l ih => rw [List.foldl_cons, hlink v k (hv k), ih]
  unfold Room.derive
  rw [deriveSeats_one u n allSeats h, if_pos (mem_allSeats n)]
  refine hlinks _ _ fun k => ?_
  rw [u.deriveSeat_links, (u.deriveSeat_same n).linkEffOf]
  exact hl k

/-- The room of a presence notice of a lost pod, its marks and flags set and the mutes not yet derived (R56, R59, R79). -/
def lostMarked (u : Room) (n : Seat) : Room :=
  ((u.floorPresence n .absent).setMuteSeat n fun s =>
    { s with presence := .absent, privacy := true, feedback := false }).clearMarks n

theorem presenceNotice_absent (u : Room) (n : Seat) :
    u.presenceNotice n .absent
      = ((lostMarked u n).derive.setDet n fun d => d.restart false).fbPresence n .absent := rfl

theorem clearMarks_facts (u : Room) (n m : Seat) : ((u.clearMarks n).mseat m).facts = (u.mseat m).facts :=
  facts_at (by simp) m

theorem lostMarked_facts (u : Room) (n : Seat) :
    ((lostMarked u n).mseat n).facts = ⟨true, (u.mseat n).self, false, .absent⟩ := by
  unfold lostMarked
  rw [clearMarks_facts, setMuteSeat_mseat, if_pos rfl]
  have hself := congrArg FlagFacts.self (facts_at (r := u) (t := u.floorPresence n .absent) (by simp) n)
  exact congrArg (fun b => (⟨true, b, false, .absent⟩ : FlagFacts)) hself

/-- Outside the seat that the notice names nothing that the mutes rest on has changed. -/
theorem lostMarked_derived (u : Room) (n : Seat) (h : u.Derived) :
    (∀ m, m ≠ n → (lostMarked u n).eff m = (lostMarked u n).effOf m)
      ∧ ∀ k, (lostMarked u n).mute.links.get k = (lostMarked u n).linkEffOf k := by
  have hfacts : ∀ m, m ≠ n → ((lostMarked u n).mseat m).facts = (u.mseat m).facts := by
    intro m hm
    unfold lostMarked
    rw [clearMarks_facts, setMuteSeat_mseat, if_neg (Ne.symm hm)]
    exact facts_at (r := u) (t := u.floorPresence n .absent) (by simp) m
  have heff : (lostMarked u n).mute.eff = u.mute.eff := by simp [lostMarked]
  have hmap : (lostMarked u n).map = u.map := by simp [lostMarked]
  have htable : (lostMarked u n).mute.table = u.mute.table := by simp [lostMarked]
  have hcovers : ∀ sc m, (lostMarked u n).scopeCovers sc m = u.scopeCovers sc m := by
    intro sc m
    have hchair : (lostMarked u n).isChair m = u.isChair m := by
      unfold Room.isChair Room.entry
      rw [hmap]
    cases sc <;> simp only [Room.scopeCovers, hchair, hmap]
  refine ⟨fun m hm => ?_, fun k => ?_⟩
  · have hf := hfacts m hm
    simp only [MuteSeat.facts, FlagFacts.mk.injEq, Room.mseat] at hf
    rw [Room.eff, heff, show u.mute.eff.get m = _ from h.1 m]
    simp [Room.effOf, Room.claimsOver, htable, hcovers, hf]
  · rw [show (lostMarked u n).mute.links = u.mute.links by simp [lostMarked], h.2 k]
    simp [Room.linkEffOf, Room.linkClaims, htable]

/-- Where the mutes are derived, the notice of a lost pod closes no seat but its own. -/
theorem lost_steps (h : Steps P r t) (n : Seat) (hd : t.Derived) (hmute : P.mute) (hmove : ∀ id, isMute id → P.move id)
    (hc : P.close n) (hn : P.Serves n) : Steps P r (t.presenceNotice n .absent) := by
  have hfloor := h.floorPresence n .absent hn.touch hc (.inl (by decide))
  have hmarked : Steps P r (lostMarked t n) := hfloor.presenceMarked n _ hn.touch hn.flag fun _ => rfl
  obtain ⟨hothers, hlinks⟩ := lostMarked_derived t n hd
  have hprivate := effOf_private (lostMarked t n) n (by rw [lostMarked_facts])
  have hderived : Steps P r (lostMarked t n).derive := by
    rw [derive_one _ n hothers hlinks]
    exact hmarked.deriveSeat n hmute hmove hc (.inl hprivate.1)
  rw [presenceNotice_absent]
  exact (hderived.det n (fun d => d.restart false) (restart_settings _ _) (.inr hn.touch)).fbPresence n .absent ⟨hn.touch, hn.trip⟩ hn.offset

theorem losePod_steps_derived (h : Steps P r t) (p : PodPos) (cause : LossCause) (hd : t.Derived) (hp : P.pod p)
    (hs : t.map.switch = none) (hmute : P.mute) (hmove : ∀ id, isMute id → P.move id)
    (hserve : ∀ n, seatAt t.map.running p = some n → P.close n ∧ P.Serves n) : Steps P r (t.losePod p cause) := by
  have hgone := (h.then (.pod p Pod.gone hp)).emit (.podLost p cause (seatAt t.map.running p))
  unfold Room.losePod
  dsimp only
  split
  · rename_i n hn
    obtain ⟨hc, hn⟩ := hserve n hn
    refine afterPod_steps (lost_steps hgone n ?_ hmute hmove hc hn) _ (.inl (by simpa using hs))
    exact hd.of_same ⟨rfl, rfl, rfl, rfl⟩ rfl rfl
  · exact afterPod_steps hgone _ (.inl hs)

/-- The notice of a lost pod leaves the mutes derived. -/
theorem presenceNotice_derived (u : Room) (n : Seat) : (u.presenceNotice n .absent).Derived := by
  rw [presenceNotice_absent]
  have hd := (lostMarked u n).derive_derived
  generalize (lostMarked u n).derive = v at hd ⊢
  exact hd.of_same ⟨by simp, by simp, by simp, by simp⟩ (by simp) (by simp)

/-- A loss leaves the mutes derived (R71). -/
theorem losePod_derived (u : Room) (p : PodPos) (cause : LossCause) (hs : u.map.switch = none) (hd : u.Derived) :
    (u.losePod p cause).Derived := by
  have hafter : ∀ v : Room, v.Derived → v.map.switch = none →
      ((v.followCount p.line).checkProbe p.line).settle.Derived := by
    intro v hv hsv
    obtain ⟨_, hmute, _, _, _, _, _, _, hrun, _, hgroups, _⟩ :=
      Room.settle_calm_keeps ((v.followCount p.line).checkProbe p.line) (by simpa using hsv)
    refine hv.of_same ⟨?_, ?_, ?_, ?_⟩ ?_ ?_
    · rw [hrun]; simp
    · rw [hgroups]; simp
    · rw [hmute]; simp
    · rw [hmute]; simp
    · rw [hmute]; simp
    · rw [hmute]; simp
  unfold Room.losePod
  dsimp only
  split
  · rename_i n _
    exact hafter _ (presenceNotice_derived _ n) (by simpa using hs)
  · exact hafter _ (hd.of_same ⟨rfl, rfl, rfl, rfl⟩ rfl rfl) hs

end

end Sys2Proof.Machine.PodLines
end

section
/-! The seat that a lost pod served (R26, R50, R56, R59, R79, R109, R166): what the notice of its loss leaves of it, and
that what follows in the command leaves it so. -/

namespace Sys2Proof.Machine.PodLines

variable {r t : Room}

/-- A leave that does not touch a seat, nor moves its feedback offset, nor standby or the claims. -/
def sideLeave (n : Seat) : Leave where
  touch := (· ≠ n)
  trip _ := True
  flag m a b := m ≠ n ∨ b = a
  close _ := True
  pod _ := True
  move id := id ≠ .feedbackOffset n ∧ id ≠ .standby
  mute := True
  claim := False
  rest := False
  swap := False

theorem sideLeave_wide (n : Seat) : (sideLeave n).Wide :=
  ⟨trivial, fun id h => ⟨by rintro rfl; exact h, by rintro rfl; exact h⟩, fun _ => trivial⟩

theorem sideLeave_touch (n : Seat) : ¬ (sideLeave n).touch n := fun h => h rfl

theorem sideLeave_flag (n : Seat) (a b : FlagFacts) (h : (sideLeave n).flag n a b) : b = a := h.resolve_left fun h => h rfl

theorem sideLeave_serves {m n : Seat} (h : m ≠ n) : (sideLeave n).Serves m :=
  ⟨h, trivial, fun _ _ => .inl h, fun e => h (CompId.feedbackOffset.inj e), by simp⟩

/-- A seat that the Arbiter does not hear stays without a spell. -/
theorem Steps.silent {P : Leave} (h : Steps P r t) (n : Seat) (hn : ¬ P.touch n)
    (hr : (r.mseat n).speaking = false ∧ (r.mseat n).spell = false) :
    (t.mseat n).speaking = false ∧ (t.mseat n).spell = false :=
  h.keeps (C := fun u => (u.mseat n).speaking = false ∧ (u.mseat n).spell = false)
    (fun _ _ hu hv => ⟨(hv.untouched n hn).heard.trans hu.1, hv.spell_silent n hu.1 hu.2⟩) hr

theorem Steps.untouched {P : Leave} (h : Steps P r t) (n : Seat) (hn : ¬ P.touch n) : Untouched n r t :=
  h.keeps (C := Untouched n r) (fun _ _ hu hv =>
    have hv := Step.untouched hv n hn
    ⟨hv.1.trans hu.1, hv.2.trans hu.2, hv.3.trans hu.3, hv.4.trans hu.4, hu.5.trans hv.5⟩)
    ⟨rfl, rfl, rfl, rfl, .refl _⟩

/-! ## The notice at the floor -/

/-- The floor as the notice of a loss has closed the seat, before the fills. -/
def floorLost (u : Room) (n : Seat) : Room :=
  (u.setSeat n fun x => { x with presence := .absent, speaking := false }).closeSeat n .absent

theorem floorLost_seat (u : Room) (n : Seat) :
    ((floorLost u n).fseat n).presence = .absent ∧ ((floorLost u n).fseat n).speaking = false
      ∧ ((floorLost u n).fseat n).gate = .closed := by
  have hset := setSeat_fseat u n n fun x => { x with presence := .absent, speaking := false }
  rw [if_pos rfl] at hset
  unfold floorLost
  generalize u.setSeat n _ = v at hset ⊢
  by_cases hclosed : (v.fseat n).gate = .closed
  · rw [closeSeat_idle v n _ hclosed]
    exact ⟨by rw [hset], by rw [hset], hclosed⟩
  · rw [closeSeat_fseat v n n _ hclosed, if_pos rfl, hset]
    exact ⟨rfl, rfl, rfl⟩

theorem floorLost_lists (u : Room) (n : Seat) :
    (OffLists n u → OffLists n (floorLost u n)) ∧ (Bare n u → Bare n (floorLost u n))
      ∧ ((u.fseat n).gate ≠ .closed → closing n (u.fseat n).gate .absent ∈ (floorLost u n).out) := by
  have hset := setSeat_fseat u n n fun x => { x with presence := .absent, speaking := false }
  rw [if_pos rfl] at hset
  unfold floorLost
  have hfloor : ∀ v : Room, v = u.setSeat n (fun x => { x with presence := .absent, speaking := false }) →
      (OffLists n u → OffLists n v) ∧ (Bare n u → Bare n v) := by
    rintro v rfl
    refine ⟨fun h hc => h ?_, fun h hc => ?_⟩
    · rw [hset] at hc
      exact hc
    · rw [hset] at hc ⊢
      exact h hc
  obtain ⟨hoff, hbare⟩ := hfloor _ rfl
  generalize u.setSeat n _ = v at hset hoff hbare ⊢
  have hgate : (v.fseat n).gate = (u.fseat n).gate := by rw [hset]
  have hmove : FloorMove (sideLeave n) n v (v.closeSeat n .absent) := closeSeat_move v n n .absent trivial
  refine ⟨fun h => hmove.offLists (hoff h), fun h => hmove.bare (hbare h), fun h => ?_⟩
  rw [closeSeat_out v n _ (by rwa [hgate]), hgate]
  simp

/-- The fills and the end of the floor event, the derivation and the settling do not touch the seat. -/
theorem floorLost_steps (u : Room) (n : Seat) : Steps (sideLeave n) (floorLost u n) (u.floorPresence n .absent) :=
  (Steps.refl _).floorFill.then .finish

/-! ## The notice at the Arbiter, the detector and the monitor -/

theorem lostMarked_silent (u : Room) (n : Seat) :
    ((lostMarked u n).mseat n).speaking = false ∧ ((lostMarked u n).mseat n).spell = false := by
  unfold lostMarked Room.clearMarks
  generalize (u.floorPresence n .absent).setMuteSeat n _ = v
  have hspeak : ((v.setMuteSeat n fun s => { s with speaking := false, reported := false }).mseat n).speaking = false := by
    rw [setMuteSeat_mseat, if_pos rfl]
  exact ⟨by rw [spellUpdate_speaking, hspeak], spellUpdate_silent _ n hspeak⟩

/-- What a loss leaves of its seat, from a room to a room. -/
structure Lost (n : Seat) (r t : Room) : Prop where
  gone : Gone n (r.mseat n).self t
  shut : OffLists n r → GoneShut n t
  bare : Bare n r → Bare n t
  grows : r.out <+: t.out
  closed : (r.fseat n).gate ≠ .closed → closing n (r.fseat n).gate .absent ∈ t.out
  release : (r.fbSeat n).trips ≠ 0 → .releaseEv n .absent 0 0 ∈ t.out
  offset : (r.fbSeat n).offset < 0 → (t.mix.fbOffset.get n).target = .db 0

/-- The rooms between the derivation and the last notice of a loss (R50, R166). -/
def detLost (u : Room) (n : Seat) : Room := (lostMarked u n).derive.setDet n fun d => d.restart false

def fbLost (u : Room) (n : Seat) : Room := (detLost u n).setFb n fun s => { s.cleared with presence := .absent }

theorem detLost_steps (u : Room) (n : Seat) : Steps (sideLeave n) (lostMarked u n) (lostMarked u n).derive :=
  (Steps.refl _).derive trivial (sideLeave_wide n).move fun _ => trivial

/-- The floor of the last notice's room is that of the derivation. -/
theorem fbLost_floor (u : Room) (n : Seat) :
    (fbLost u n).floor = (lostMarked u n).derive.floor ∧ (lostMarked u n).floor = (u.floorPresence n .absent).floor := by
  refine ⟨?_, by simp [lostMarked]⟩
  unfold fbLost detLost
  generalize (lostMarked u n).derive = v
  rfl

/-- A leave to set what a loss sets. -/
def lostLeave : Leave where
  touch _ := True
  trip _ := True
  flag _ _ _ := True
  close _ := True
  pod _ := False
  move _ := False
  mute := False
  claim := False
  rest := False
  swap := False

theorem floorLost_grows (u : Room) (n : Seat) : u.out <+: (floorLost u n).out :=
  (((Steps.refl (P := lostLeave) u).then (.seat n _ trivial)).closeSeat n .absent
    trivial).grows

theorem marked_grows (v : Room) (n : Seat) (f : MuteSeat → MuteSeat) (hf : ∀ x, (f x).spell = x.spell) :
    v.out <+: ((v.setMuteSeat n f).clearMarks n).out :=
  ((Steps.refl (P := lostLeave) v).presenceMarked n f trivial (fun _ _ => trivial) hf).grows

/-- What the floor has told of a loss stands as the last notices begin. -/
theorem fbLost_out (u : Room) (n : Seat) : (floorLost u n).out <+: (fbLost u n).out := by
  have hmarked : (u.floorPresence n .absent).out <+: (lostMarked u n).out :=
    marked_grows (u.floorPresence n .absent) n _ fun _ => rfl
  have hlast : (fbLost u n).out = (lostMarked u n).derive.out := by
    unfold fbLost detLost
    generalize (lostMarked u n).derive = v
    rfl
  rw [hlast]
  exact ((floorLost_steps u n).grows.trans hmarked).trans (detLost_steps u n).grows

/-- The monitor's record of a seat cleared and ABSENT (R160, R166). -/
theorem gone_trips (x : FbSeat) :
    ({ x.cleared with presence := .absent } : FbSeat).facts = ⟨.absent, 0, none, none, false, none, 0⟩ := rfl

theorem gone_window (x : FbSeat) (k : Nat) :
    (({ x.cleared with presence := .absent } : FbSeat).settled k).consecutive = 0
      ∧ (({ x.cleared with presence := .absent } : FbSeat).settled k).window = none := ⟨rfl, rfl⟩

theorem fbLost_blocks (u : Room) (n : Seat) :
    (fbLost u n).mute = (lostMarked u n).derive.mute
      ∧ (fbLost u n).det.get n = ((lostMarked u n).derive.det.get n).restart false
      ∧ (fbLost u n).fbSeat n
        = ({ ((detLost u n).fbSeat n).cleared with presence := .absent } : FbSeat).settled (detLost u n).fb.settings.window := by
  refine ⟨?_, ?_, ?_⟩
  · unfold fbLost detLost
    generalize (lostMarked u n).derive = v
    rfl
  · unfold fbLost detLost
    generalize (lostMarked u n).derive = v
    exact (Tab.get_modify ..).trans (if_pos rfl)
  · exact (setFb_fbSeat ..).trans (if_pos rfl)

theorem fbLost_gone (u : Room) (n : Seat) : Gone n (u.mseat n).self (fbLost u n) := by
  have hsilent := (detLost_steps u n).silent n (sideLeave_touch n) (lostMarked_silent u n)
  have hun := (detLost_steps u n).untouched n (sideLeave_touch n)
  have hseat := floorLost_seat u n
  have hfloor := (floorLost_steps u n).untouched n (sideLeave_touch n)
  have hmarked : (lostMarked u n).fseat n = (u.floorPresence n .absent).fseat n :=
    congrArg (fun f => f.seats.get n) (fbLost_floor u n).2
  have hfacts : (((lostMarked u n).derive).mseat n).facts = ((lostMarked u n).mseat n).facts :=
    facts_at (lostMarked u n).derive_same.flags n
  have hprivate := effOf_private (lostMarked u n) n (by rw [lostMarked_facts])
  obtain ⟨hmute, hdet, hfb⟩ := fbLost_blocks u n
  exact
    { flags := by rw [Room.mseat, hmute]; exact hfacts.trans (lostMarked_facts u n)
      heard := by rw [Room.mseat, hmute]; exact hsilent.1
      spell := by rw [Room.mseat, hmute]; exact hsilent.2
      eff := by
        rw [Room.eff, hmute, show (lostMarked u n).derive.mute.eff.get n = _ from (lostMarked u n).derive_eff n]
        exact hprivate
      trips := by rw [hfb, settled_facts]; exact gone_trips _
      window := by rw [hfb]; exact gone_window _ _
      presence := by
        rw [Room.fseat, (fbLost_floor u n).1]
        exact hun.presence.trans (by rw [hmarked, hfloor.presence]; exact hseat.1)
      speaking := by
        rw [Room.fseat, (fbLost_floor u n).1]
        exact hun.speaking.trans (by rw [hmarked, hfloor.speaking]; exact hseat.2.1)
      held := by rw [hdet]; rfl
      det := by rw [hdet]; exact ⟨rfl, rfl, rfl, rfl, rfl, rfl, rfl, rfl⟩ }

theorem fbLost_floorKept (u : Room) (n : Seat) :
    (OffLists n u → GoneShut n (fbLost u n)) ∧ (Bare n u → Bare n (fbLost u n)) := by
  obtain ⟨hoff, hbare, _⟩ := floorLost_lists u n
  obtain ⟨hlast, hmarked⟩ := fbLost_floor u n
  obtain ⟨hpres, _, hgate⟩ := floorLost_seat u n
  have hof : ∀ {v w : Room}, w.floor = v.floor → GoneShut n v → GoneShut n w := by
    intro v w h hv
    simpa [GoneShut, Room.fseat, h] using hv
  have hofBare : ∀ {v w : Room}, w.floor = v.floor → Bare n v → Bare n w := by
    intro v w h hv
    simpa [Bare, Room.fseat, h] using hv
  refine ⟨fun h => ?_, fun h => ?_⟩
  · have hstart : GoneShut n (floorLost u n) := ⟨hpres, hgate, hoff h hgate⟩
    have hpresence := (floorLost_steps u n).goneShut n (sideLeave_touch n) hstart
    exact hof hlast ((detLost_steps u n).goneShut n (sideLeave_touch n) (hof hmarked hpresence))
  · have hpresence := (floorLost_steps u n).bare n (sideLeave_touch n) (hbare h)
    exact hofBare hlast ((detLost_steps u n).bare n (sideLeave_touch n) (hofBare hmarked hpresence))

/-- The offset notice and RELEASE that end a loss (R126, R166). -/
def lastNotices (v : Room) (n : Seat) (old : FbSeat) : Room :=
  let w := if old.offset < 0 then v.mixOffset n 0 else v
  if old.tripped then w.emit (.releaseEv n .absent 0 0) else w

theorem fbPresence_absent (v : Room) (n : Seat) :
    v.fbPresence n .absent
      = lastNotices (v.setFb n fun s => { s.cleared with presence := .absent }) n (v.fbSeat n) := by
  unfold Room.fbPresence
  rw [if_neg (by decide)]
  rfl

theorem presenceNotice_eq (u : Room) (n : Seat) :
    u.presenceNotice n .absent = lastNotices (fbLost u n) n ((detLost u n).fbSeat n) := by
  rw [presenceNotice_absent]
  exact fbPresence_absent (detLost u n) n

theorem detLost_trips (u : Room) (n : Seat) : ((detLost u n).fbSeat n).facts = (u.fbSeat n).facts :=
  get_of_map_eq (by simp [detLost, lostMarked]) n

/-- The leave of a seat's own last notices. -/
def ownLeave (n : Seat) : Leave := { sideLeave n with move := fun _ => True }

theorem lastNotices_steps (v : Room) (n : Seat) (old : FbSeat) : Steps (ownLeave n) v (lastNotices v n old) := by
  have hoffset : Steps (ownLeave n) v (v.mixOffset n 0) :=
    (Steps.refl (P := ownLeave n) v).ramp (.feedbackOffset n) (halfDb 0) 50 trivial
  have hfirst := Steps.ite (c := old.offset < 0) hoffset (.refl v)
  exact Steps.ite (hfirst.emit _) hfirst

theorem aimed_target (c : Comp) (g : Gain) (ms : Nat) : (c.aimed g ms).target = g := by
  unfold Comp.aimed
  split
  · assumption
  · rfl

theorem lastNotices_told (v : Room) (n : Seat) (old : FbSeat) :
    (old.trips ≠ 0 → .releaseEv n .absent 0 0 ∈ (lastNotices v n old).out)
      ∧ (old.offset < 0 → ((lastNotices v n old).mix.fbOffset.get n).target = .db 0) := by
  unfold lastNotices
  dsimp only
  refine ⟨fun h => ?_, fun h => ?_⟩
  · have htripped : old.tripped = true := by simpa [FbSeat.tripped] using h
    rw [if_pos htripped]
    simp [Room.emit]
  · have htarget : ((v.mixOffset n 0).mix.comp (.feedbackOffset n)).target = .db 0 := by
      rw [Room.mixOffset, ramp_comp, if_pos rfl, aimed_target]
      rfl
    rw [if_pos h]
    split <;> exact htarget

/-- What the notice of a lost pod leaves of its seat. -/
theorem presenceNotice_lost (u : Room) (n : Seat) : Lost n u (u.presenceNotice n .absent) := by
  have htouch : ¬ (ownLeave n).touch n := sideLeave_touch n
  obtain ⟨hshut, hbare⟩ := fbLost_floorKept u n
  have htrips := congrArg TripFacts.trips (detLost_trips u n)
  have hoffset := congrArg TripFacts.offset (detLost_trips u n)
  have hgone := fbLost_gone u n
  have hout := fbLost_out u n
  rw [presenceNotice_eq]
  generalize fbLost u n = v at hshut hbare hgone hout ⊢
  generalize (detLost u n).fbSeat n = old at htrips hoffset ⊢
  have hsteps := lastNotices_steps v n old
  obtain ⟨hrelease, hdown⟩ := lastNotices_told v n old
  exact
    { gone := hsteps.gone n htouch (sideLeave_flag n) hgone
      shut := fun h => hsteps.goneShut n htouch (hshut h)
      bare := fun h => hsteps.bare n htouch (hbare h)
      grows := (floorLost_grows u n).trans (hout.trans hsteps.grows)
      closed := fun h => (hout.trans hsteps.grows).subset ((floorLost_lists u n).2.2 h)
      release := fun h => hrelease fun h' => h (htrips.symm.trans h')
      offset := fun h => hdown (lt_of_eq_of_lt hoffset h) }

/-! ## A loss, and what follows it -/

/-- A leave that leaves a seat as a loss has left it. -/
structure Leave.Spares (P : Leave) (n : Seat) : Prop where
  touch : ¬ P.touch n
  flag : ∀ a b, P.flag n a b → b = a
  offset : ¬ P.move (.feedbackOffset n)

theorem sideLeave_spares (n : Seat) : (sideLeave n).Spares n :=
  ⟨sideLeave_touch n, sideLeave_flag n, fun h => h.1 rfl⟩

theorem Lost.then {n : Seat} {u : Room} {P : Leave} (h : Lost n r u) (hs : Steps P u t) (hP : P.Spares n) :
    Lost n r t := by
  refine ⟨hs.gone n hP.touch hP.flag h.gone, fun ho => hs.goneShut n hP.touch (h.shut ho),
    fun hb => hs.bare n hP.touch (h.bare hb), h.grows.trans hs.grows, fun hg => hs.grows.subset (h.closed hg),
    fun ht => hs.grows.subset (h.release ht), fun ho => ?_⟩
  have hcomp := hs.comp_kept (.feedbackOffset n) trivial hP.offset
  exact (congrArg Comp.target hcomp).trans (h.offset ho)

theorem losePod_lost (u : Room) (p : PodPos) (cause : LossCause) (n : Seat) (hs : u.map.switch = none)
    (hn : seatAt u.map.running p = some n) : Lost n u (u.losePod p cause) := by
  have hlost := presenceNotice_lost ((u.setPod p Pod.gone).emit (.podLost p cause (some n))) n
  have hafter : Steps (sideLeave n) (((u.setPod p Pod.gone).emit (.podLost p cause (some n))).presenceNotice n .absent)
      (u.losePod p cause) := by
    unfold Room.losePod
    rw [hn]
    exact afterPod_steps (.refl _) _ (.inl (by simpa using hs))
  have hlost := hlost.then hafter (sideLeave_spares n)
  exact ⟨hlost.gone, hlost.shut, hlost.bare, (List.prefix_append ..).trans hlost.grows, hlost.closed, hlost.release, hlost.offset⟩

/-- A seat's loss within a command: nothing before it or after it touches the seat, and where the mutes are derived nothing
before it closes the seat. -/
theorem seatLost_of {n : Seat} {u : Room} (hbefore : Steps (sideLeave n) r u)
    (hderived : r.Derived → Steps { sideLeave n with close := (· ≠ n) } r u) (hlost : Lost n u t) :
    SeatLost r t n t.out := by
  have htouch := sideLeave_touch n
  have hun := hbefore.untouched n htouch
  have hflags : (u.mseat n).facts = (r.mseat n).facts :=
    hbefore.flags n (fun a b => b = a) (fun _ => rfl) (fun _ _ _ h g => g.trans h) (sideLeave_flag n)
  have hgone := hlost.gone
  have hself : (u.mseat n).self = (r.mseat n).self := congrArg FlagFacts.self hflags
  have hoff : OffLists n r → GoneShut n t := fun h => hlost.shut (hbefore.offLists n htouch h)
  have hbare : Bare n r → Bare n t := fun h => hlost.bare (hbefore.bare n htouch h)
  refine ⟨⟨hgone.flags.trans (by rw [hself]), hgone.heard, hgone.spell, hgone.eff.1, hgone.eff.2⟩,
    ⟨hgone.trips, hgone.window.1, hgone.window.2, fun h => hlost.release ?_, fun h => hlost.offset ?_⟩,
    ⟨hgone.presence, hgone.speaking, fun h => ?_⟩, fun h => ?_, fun hd => ?_, ⟨hgone.held, ?_⟩⟩
  · rwa [show (u.fbSeat n).trips = (r.fbSeat n).trips from congrArg TripFacts.trips hun.trips]
  · rwa [show (u.fbSeat n).offset = (r.fbSeat n).offset from congrArg TripFacts.offset hun.trips]
  · exact (hoff (h.elim (fun hg hc => absurd hc hg) fun hl _ => hl)).2.1
  · obtain ⟨_, hgate, hwait, hqueue⟩ := hoff fun hc => absurd hc h
    obtain ⟨htimer, hkept, hopen⟩ := hbare (fun hc => absurd hc h) hgate
    exact ⟨htimer, hkept, hopen, hwait, hqueue⟩
  · have hsteps := hderived hd
    have hclose : ¬ ({ sideLeave n with close := (· ≠ n) } : Leave).close n := fun h => h rfl
    have hlisted : ∀ g, g = .waiting ∨ g = .queued → (r.fseat n).gate = g →
        closing n g .absent ∈ t.out ∨ .dequeuedEv n (listOf g) .admitted ∈ t.out := by
      intro g hg hgate
      rcases hsteps.staysListed n htouch hclose hg (.inl hgate) with h | h
      · have hne : g ≠ .closed := by rcases hg with rfl | rfl <;> decide
        exact .inl (h ▸ hlost.closed (h.trans_ne hne))
      · exact .inr (hlost.grows.subset h)
    refine ⟨fun ho hw hq => ?_, fun hg => hlisted _ (.inl rfl) hg, fun hg => hlisted _ (.inr rfl) hg⟩
    have hne : (r.fseat n).gate ≠ .closed := fun h => by simp [h, GateState.isOpen] at ho
    obtain ⟨hgate, _, _⟩ := hsteps.staysOpen n htouch hclose hne ⟨rfl, hw, hq⟩
    have hclosed := hlost.closed (hgate.trans_ne hne)
    rw [hgate] at hclosed
    cases hwas : (r.fseat n).gate <;> rw [hwas] at ho hclosed <;> simp_all [GateState.isOpen, closing]
  · obtain ⟨d1, d2, d3, d4, d5, d6, d7, d8⟩ := hgone.det
    exact ⟨d1, d2, d3, d4, d5, d6, d7, d8⟩

end Sys2Proof.Machine.PodLines
end

section
/-! A line through the losses of a command (R23, R26, R29): its state and its probe timer, as the pods that are left call
for. -/

namespace Sys2Proof.Machine.PodLines

/-! ## One loss -/

/-- The line state that the pods of a line call for (R23). -/
def Line.due (x : Line) : LineState := if x.lstate = .scanning then .scanning else x.rest

/-- What follows a change of a line's pods: the line state, told where it changes, and the probe timer (R23, R29). -/
structure Followed (l : LineNo) (r t : Room) : Prop where
  expected : (t.line l).expected = (r.line l).expected
  pods : ∀ p, (t.podAt ⟨l, p⟩).present = (r.podAt ⟨l, p⟩).present
  count : (t.line l).count = (r.line l).count
  lstate : (t.line l).lstate = Line.due (r.line l)
  timer : (t.line l).probeTimer
    = if (t.line l).lstate ≠ .scanning ∧ (t.line l).count < (t.line l).expected then
        some ((r.line l).probeTimer.getD 500)
      else none
  told : (t.line l).lstate ≠ (r.line l).lstate → .lineState l (t.line l).lstate ∈ t.out

theorem present_of_facts {a b : Pod} (h : a.facts = b.facts) : a.present = b.present := congrArg PodFacts.present h

/-- The count of a line rests on which of its pods are present. -/
theorem count_eq_length (x : Line) : x.count = ((List.finRange 20).filter fun p => (x.pods.get p).present).length := by
  rw [Line.count, toList_eq_map, List.countP_map, List.countP_eq_length_filter]
  rfl

theorem count_congr {x y : Line} (h : ∀ p, (x.pods.get p).present = (y.pods.get p).present) : x.count = y.count := by
  rw [count_eq_length, count_eq_length]
  simp only [h]

theorem count_le {x y : Line} (h : ∀ p, (x.pods.get p).present = true → (y.pods.get p).present = true) :
    x.count ≤ y.count := by
  rw [count_eq_length, count_eq_length, ← List.countP_eq_length_filter, ← List.countP_eq_length_filter]
  exact List.countP_mono_left fun p _ => h p

/-- Lines that stand alike are alike in what follows. -/
theorem line_of_facts {x y : Line} (h : x.facts = y.facts) :
    x.expected = y.expected ∧ x.count = y.count ∧ x.lstate = y.lstate ∧ x.probeTimer = y.probeTimer := by
  have hpods := pods_of_facts h
  simp only [Line.facts, LineFacts.mk.injEq] at h
  obtain ⟨hstate, _, hexpected, _, _, _, htimer, _, _⟩ := h
  exact ⟨hexpected, count_congr fun p => present_of_facts (hpods p), hstate, htimer⟩

theorem afterPod_followed (r : Room) (l : LineNo) : Followed l r ((r.followCount l).checkProbe l).settle := by
  obtain ⟨hcore, hpods, _⟩ := r.afterPod l l
  have hcount : (((r.followCount l).checkProbe l).settle.line l).count = (r.line l).count :=
    count_congr fun p => present_of_facts (hpods p)
  have hexpected : (((r.followCount l).checkProbe l).settle.line l).expected = (r.line l).expected :=
    congrArg LineCore.expected hcore
  have hstate : ((r.followCount l).line l).lstate = Line.due (r.line l) := by
    unfold Room.followCount Room.setLineState Line.due
    split
    · assumption
    · split
      · assumption
      · exact congrArg Line.lstate (Room.setLine_line ..)
  have htimer : ((r.followCount l).line l).probeTimer = (r.line l).probeTimer := by
    unfold Room.followCount Room.setLineState
    split
    · rfl
    · split
      · rfl
      · exact (congrArg Line.probeTimer (Room.setLine_line r l _)).trans rfl
  have htold : ((r.followCount l).line l).lstate ≠ (r.line l).lstate →
      .lineState l ((r.followCount l).line l).lstate ∈ (r.followCount l).out := by
    intro h
    rw [hstate] at h ⊢
    unfold Room.followCount Room.setLineState
    rw [Line.due] at h ⊢
    split
    · rename_i hscan
      rw [if_pos hscan] at h
      exact absurd hscan.symm h
    · rename_i hscan
      rw [if_neg hscan] at h
      rw [if_neg (Ne.symm h)]
      simp [Room.emit]
  obtain ⟨hfcore, hfpods, _⟩ := r.followCount_line l l
  have hfcount : ((r.followCount l).line l).count = (r.line l).count := by rw [Line.count, hfpods]; rfl
  have hfexpected : ((r.followCount l).line l).expected = (r.line l).expected := congrArg LineCore.expected hfcore
  have hcheck : ((r.followCount l).checkProbe l).line l = ((r.followCount l).line l).probeCheck := Room.setLine_line ..
  obtain ⟨_, _, hslstate, hstimer⟩ :=
    line_of_facts (line_facts (r := (r.followCount l).checkProbe l) (t := ((r.followCount l).checkProbe l).settle)
      (by simp) l)
  rw [hcheck, probeCheck_eq] at hslstate hstimer
  refine ⟨hexpected, fun p => present_of_facts (hpods p), hcount, hslstate.trans hstate, ?_, fun h => ?_⟩
  · rw [hstimer, hslstate, hcount, hexpected]
    dsimp only
    rw [hfcount, hfexpected, htimer]
  · rw [hslstate] at h ⊢
    have hout : (r.followCount l).out <+: ((r.followCount l).checkProbe l).settle.out := by
      simp (maxDischargeDepth := 30) -implicitDefEqProofs
    exact hout.subset (htold h)

/-! ## The losses of a command -/

/-- A line through some losses: either nothing of it has changed, or a pod has been lost and the line has followed. -/
structure LineCourse (l : LineNo) (r t : Room) : Prop where
  expected : (t.line l).expected = (r.line l).expected
  pods : ∀ p, (t.podAt ⟨l, p⟩).present = true → (r.podAt ⟨l, p⟩).present = true
  told : (t.line l).lstate ≠ (r.line l).lstate → .lineState l (t.line l).lstate ∈ t.out
  followed : (∀ p, (t.podAt ⟨l, p⟩).present = (r.podAt ⟨l, p⟩).present) ∧ (t.line l).lstate = (r.line l).lstate
      ∧ (t.line l).probeTimer = (r.line l).probeTimer
    ∨ (∃ p, (r.podAt ⟨l, p⟩).present = true ∧ (t.podAt ⟨l, p⟩).present = false)
      ∧ (t.line l).lstate = (if (r.line l).lstate = .scanning then .scanning else (t.line l).rest)
      ∧ (¬ ((t.line l).lstate ≠ .scanning ∧ (t.line l).count < (t.line l).expected) → (t.line l).probeTimer = none)
      ∧ ((t.line l).lstate ≠ .scanning ∧ (t.line l).count < (t.line l).expected →
        ((r.line l).probeTimer = none ∨ (r.line l).count < (r.line l).expected) →
        (t.line l).probeTimer = some ((r.line l).probeTimer.getD 500))

theorem LineCourse.refl (l : LineNo) (r : Room) : LineCourse l r r :=
  ⟨rfl, fun _ h => h, fun h => absurd rfl h, .inl ⟨fun _ => rfl, rfl, rfl⟩⟩

variable {l : LineNo} {r t u : Room}

/-- What leaves the line's state, timer, settings and pods alone goes on with the course. -/
theorem LineCourse.same (h : LineCourse l r t) (hexpected : (u.line l).expected = (t.line l).expected)
    (hpods : ∀ p, (u.podAt ⟨l, p⟩).present = (t.podAt ⟨l, p⟩).present) (hstate : (u.line l).lstate = (t.line l).lstate)
    (htimer : (u.line l).probeTimer = (t.line l).probeTimer) (hout : t.out <+: u.out) : LineCourse l r u := by
  have hcount : (u.line l).count = (t.line l).count := count_congr hpods
  have hrest : (u.line l).rest = (t.line l).rest := by rw [Line.rest, hcount]; rfl
  refine ⟨hexpected.trans h.expected, fun p hp => h.pods p ((hpods p).symm.trans hp), fun hne => ?_, ?_⟩
  · rw [hstate] at hne ⊢
    exact hout.subset (h.told hne)
  · simp only [hpods, hstate, htimer, hcount, hexpected, hrest]
    exact h.followed

theorem LineCourse.of_facts (h : LineCourse l r t) (hfacts : (u.line l).facts = (t.line l).facts) (hout : t.out <+: u.out) :
    LineCourse l r u := by
  obtain ⟨hexpected, _, hstate, htimer⟩ := line_of_facts hfacts
  exact h.same hexpected (fun p => present_of_facts (pods_of_facts hfacts p)) hstate htimer hout

/-- The scan state of a line outlasts its losses. -/
theorem LineCourse.scanning_iff (h : LineCourse l r t) :
    (t.line l).lstate = .scanning ↔ (r.line l).lstate = .scanning := by
  rcases h.followed with ⟨_, hstate, _⟩ | ⟨_, hstate, _⟩
  · rw [hstate]
  · rw [hstate]
    split
    · simp [*]
    · simp [*, rest_ne_scanning]

theorem LineCourse.count (h : LineCourse l r t) : (t.line l).count ≤ (r.line l).count := count_le h.pods

/-- A pod of the line that is lost, and what follows. -/
theorem LineCourse.follow (h : LineCourse l r t) {v : Room} {p : Pos} (hp : (t.podAt ⟨l, p⟩).present = true)
    (hgone : (v.podAt ⟨l, p⟩).present = false)
    (hothers : ∀ q, q ≠ p → (v.podAt ⟨l, q⟩).present = (t.podAt ⟨l, q⟩).present)
    (hexpected : (v.line l).expected = (t.line l).expected) (hstate : (v.line l).lstate = (t.line l).lstate)
    (htimer : (v.line l).probeTimer = (t.line l).probeTimer) (hout : t.out <+: v.out) (hvu : v.out <+: u.out)
    (hu : Followed l v u) : LineCourse l r u := by
  have hpods : ∀ q, (u.podAt ⟨l, q⟩).present = true → (t.podAt ⟨l, q⟩).present = true := by
    intro q hq
    rw [hu.pods q] at hq
    by_cases hqp : q = p
    · exact hqp ▸ hp
    · rwa [hothers q hqp] at hq
  have hscan : (u.line l).lstate = if (r.line l).lstate = .scanning then .scanning else (u.line l).rest := by
    have hrest : (v.line l).rest = (u.line l).rest := by rw [Line.rest, ← hu.count]; rfl
    rw [hu.lstate, Line.due, hstate, hrest]
    simp only [h.scanning_iff]
  refine ⟨hu.expected.trans (hexpected.trans h.expected), fun q hq => h.pods q (hpods q hq), fun hne => ?_,
    .inr ⟨⟨p, h.pods p hp, by rw [hu.pods p, hgone]⟩, hscan, fun hno => ?_, fun hprobing hr => ?_⟩⟩
  · by_cases hsame : (u.line l).lstate = (v.line l).lstate
    · rw [hsame, hstate] at hne ⊢
      exact (hout.trans hvu).subset (h.told hne)
    · exact hu.told hsame
  · rw [hu.timer, if_neg hno]
  · have hle : (u.line l).count ≤ (t.line l).count := count_le hpods
    have hscan : (t.line l).lstate ≠ .scanning := fun hs => hprobing.1 (by
      rw [hu.lstate, Line.due, hstate, if_pos hs])
    rw [hu.timer, if_pos hprobing, htimer]
    rcases h.followed with ⟨_, _, hsame⟩ | ⟨_, _, hstopped, hruns⟩
    · rw [hsame]
    · by_cases hcount : (t.line l).count < (t.line l).expected
      · rw [hruns ⟨hscan, hcount⟩ hr]
        rfl
      · rw [hstopped (fun hc => hcount hc.2)]
        have hnone : (r.line l).probeTimer = none := by
          refine hr.resolve_right fun hlt => hcount ?_
          rw [h.expected]
          exact lt_of_le_of_lt h.count hlt
        rw [hnone]

/-- A loss takes its line on. -/
theorem LineCourse.lose (h : LineCourse l r t) (p : Pos) (w : LossCause) (hp : (t.podAt ⟨l, p⟩).present = true) :
    LineCourse l r (t.losePod ⟨l, p⟩ w) := by
  have hkey : ∀ v : Room, v.lines.map Line.facts = (t.setPod ⟨l, p⟩ Pod.gone).lines.map Line.facts → t.out <+: v.out →
      LineCourse l r ((v.followCount l).checkProbe l).settle := by
    intro v hv hout
    have hset : ((t.setPod ⟨l, p⟩ Pod.gone).line l).expected = (t.line l).expected
        ∧ ((t.setPod ⟨l, p⟩ Pod.gone).line l).lstate = (t.line l).lstate
        ∧ ((t.setPod ⟨l, p⟩ Pod.gone).line l).probeTimer = (t.line l).probeTimer := by
      simp [Room.line, Room.setPod]
    obtain ⟨hexpected, _, hstate, htimer⟩ := line_of_facts (line_facts hv l)
    have hpod := fun q => present_of_facts (pod_facts hv ⟨l, q⟩)
    refine h.follow (v := v) hp ?_ (fun q hq => ?_) (hexpected.trans hset.1) (hstate.trans hset.2.1)
      (htimer.trans hset.2.2) hout (by simp (maxDischargeDepth := 30) -implicitDefEqProofs) (afterPod_followed v l)
    · rw [hpod, Room.setPod_podAt, if_pos rfl]
      rfl
    · rw [hpod, Room.setPod_podAt, if_neg (by simp [Ne.symm hq])]
  have hemit : t.out <+: ((t.setPod ⟨l, p⟩ Pod.gone).emit (.podLost ⟨l, p⟩ w (seatAt t.map.running ⟨l, p⟩))).out :=
    List.prefix_append _ _
  unfold Room.losePod
  dsimp only
  split
  · exact hkey _ (by simp) (Room.presenceNotice_grows _ _ _ hemit)
  · exact hkey _ (by simp) hemit

theorem LineCourse.loseAll (h : LineCourse l r t) (ps : List Pos) (w : LossCause) : LineCourse l r (t.loseAll l ps w) := by
  unfold Room.loseAll
  induction ps generalizing t with
  | nil => exact h
  | cons p ps ih =>
    rw [List.foldl_cons]
    split
    · exact ih (h.lose p w ‹_›)
    · exact ih h

end Sys2Proof.Machine.PodLines
end

section
/-! A seat through the losses of a command (R26): until its own pod is lost nothing touches it, its pod is lost once, and
nothing that follows brings it back. -/

namespace Sys2Proof.Machine.PodLines

/-! ## A narrower leave is a leave -/

/-- What one leave allows another allows. -/
structure Leave.Within (P Q : Leave) : Prop where
  touch : ∀ n, P.touch n → Q.touch n
  trip : ∀ n, P.trip n → Q.trip n
  flag : ∀ n a b, P.flag n a b → Q.flag n a b
  close : ∀ n, P.close n → Q.close n
  pod : ∀ p, P.pod p → Q.pod p
  move : ∀ id, P.move id → Q.move id
  mute : P.mute → Q.mute
  claim : P.claim → Q.claim
  rest : P.rest → Q.rest
  swap : P.swap → Q.swap

variable {P Q : Leave} {r t u : Room}

theorem Step.within (h : Step P r t) (hPQ : P.Within Q) : Step Q r t := by
  cases h
  case emit e => exact .emit e
  case box b => exact .box b
  case quiet b => exact .quiet b
  case judge => exact .judge
  case move id g ms h => exact .move id g ms (hPQ.move _ h)
  case tone n x => exact .tone n x
  case mixMark m h1 h2 h3 h => exact .mixMark m h1 h2 h3 (h.imp_right hPQ.rest)
  case indicate p f hf => exact .indicate p f hf
  case dusk l b h => exact .dusk l b (hPQ.rest h)
  case pod p f h => exact .pod p f (hPQ.pod _ h)
  case line l f hf => exact .line l f hf
  case muted n b => exact .muted n b
  case seat n f h => exact .seat n f (hPQ.touch _ h)
  case floorRest b h => exact .floorRest b (hPQ.rest h)
  case close n why h => exact .close n why (hPQ.close _ h)
  case opens n g hg h => exact .opens n g hg (h.imp_right fun h => h.imp_right fun h => h.imp_right (hPQ.touch _))
  case wait n h => exact .wait n (h.imp_right (hPQ.touch _))
  case queue n h => exact .queue n (hPQ.touch _ h)
  case finish => exact .finish
  case flag n f h hspeak hspell => exact .flag n f (h.imp_right (hPQ.flag _ _ _)) (hspeak.imp_right (hPQ.touch _)) hspell
  case spell n => exact .spell n
  case eff n h => exact .eff n (hPQ.mute h)
  case linkEff k h => exact .linkEff k (hPQ.mute h)
  case table l stamp h => exact .table l stamp (hPQ.claim h)
  case det n d hset h => exact .det n d hset (h.imp_right (hPQ.touch _))
  case live n b => exact .live n b
  case fb n f h => exact .fb n f ⟨hPQ.touch _ h.1, hPQ.trip _ h.2⟩
  case window n => exact .window n
  case activity => exact .activity
  case call c w i h => exact .call c w i (hPQ.rest h)
  case map m hgroups hwait h => exact .map m hgroups hwait (hPQ.swap h)

theorem Steps.within (h : Steps P r t) (hPQ : P.Within Q) : Steps Q r t :=
  Relation.ReflTransGen.mono (fun _ _ hs => Step.within hs hPQ) _ _ h

/-- A leave that does not touch a seat nor close it. -/
def shutLeave (n : Seat) : Leave := { sideLeave n with close := (· ≠ n) }

theorem shutLeave_within (n : Seat) : (shutLeave n).Within (sideLeave n) :=
  ⟨fun _ h => h, fun _ h => h, fun _ _ _ h => h, fun _ _ => trivial, fun _ h => h, fun _ h => h, id, id, id, id⟩

/-! ## The course of a seat -/

/-- A seat before its pod is lost. -/
structure Before (n : Seat) (r t : Room) : Prop where
  side : Steps (sideLeave n) r t
  shut : r.Derived → Steps (shutLeave n) r t ∧ t.Derived
  pod : ∀ p, seatAt r.map.running p = some n → (t.podAt p).present = (r.podAt p).present

/-- A seat after its pod was lost. -/
structure After (n : Seat) (r t : Room) : Prop where
  lost : ∃ p, seatAt r.map.running p = some n ∧ (r.podAt p).present = true ∧ (t.podAt p).present = false
  marks : ∃ u v, Steps (sideLeave n) r u ∧ (r.Derived → Steps (shutLeave n) r u) ∧ Lost n u v ∧ Steps (sideLeave n) v t

/-- A seat through the losses of a command, the maps as they were and no switch pending. -/
structure Course (n : Seat) (r t : Room) : Prop where
  map : t.map.running = r.map.running
  calm : t.map.switch = none
  stage : Before n r t ∨ After n r t

variable {n : Seat}

theorem Course.refl (hcalm : r.map.switch = none) : Course n r r :=
  ⟨rfl, hcalm, .inl ⟨.refl r, fun hd => ⟨.refl r, hd⟩, fun _ _ => rfl⟩⟩

/-- A position that serves the seat is the only one. -/
theorem seatAt_unique {map : Tab 40 Entry} {p q : PodPos} (hp : seatAt map p = some n) (hq : seatAt map q = some n) :
    p = q :=
  Option.some.inj ((place_of_seatAt hp).symm.trans (place_of_seatAt hq))

/-- What does not touch the seat, nor change which pods are present, nor unsettle the mutes, goes on with the course. -/
theorem Course.side (h : Course n r t) (hs : Steps (shutLeave n) t u) (hd : t.Derived → u.Derived)
    (hpod : ∀ p, (u.podAt p).present = (t.podAt p).present) : Course n r u := by
  have hmap := hs.map_kept id
  have hside := hs.within (shutLeave_within n)
  refine ⟨hmap.running.trans h.map, hmap.switch.trans h.calm, ?_⟩
  rcases h.stage with hb | ha
  · refine .inl ⟨hb.side.trans hside, fun hr => ?_, fun p hp => (hpod p).trans (hb.pod p hp)⟩
    obtain ⟨hsteps, hder⟩ := hb.shut hr
    exact ⟨hsteps.trans hs, hd hder⟩
  · obtain ⟨p, hp, hwas, hnow⟩ := ha.lost
    obtain ⟨v, w, hbefore, hshut, hlost, hafter⟩ := ha.marks
    exact .inr ⟨⟨p, hp, hwas, (hpod p).trans hnow⟩, v, w, hbefore, hshut, hlost, hafter.trans hside⟩

/-- A loss takes the seat on: its own loss marks it, any other passes it by. -/
theorem Course.lose (h : Course n r t) (p : PodPos) (w : LossCause) (hp : (t.podAt p).present = true) :
    Course n r (t.losePod p w) := by
  obtain ⟨_, hpods, _⟩ := t.losePod_lines p w
  have hgone : ((t.losePod p w).podAt p).present = false := present_of_facts ((hpods p).trans (if_pos rfl))
  have hkept : ∀ q, p ≠ q → ((t.losePod p w).podAt q).present = (t.podAt q).present := fun q hq =>
    present_of_facts ((hpods q).trans (if_neg hq))
  by_cases hn : seatAt t.map.running p = some n
  · have hlost := losePod_lost t p w n h.calm hn
    have hwide : Steps { sideLeave n with touch := fun _ => True, flag := fun _ _ _ => True, move := fun _ => True } t
        (t.losePod p w) :=
      losePod_steps (.refl t) p w ⟨trivial, fun _ _ => trivial, fun _ => trivial⟩ trivial (.inl h.calm)
        fun _ _ => ⟨trivial, trivial, fun _ _ => trivial, trivial⟩
    have hmap := hwide.map_kept id
    rw [h.map] at hn
    refine ⟨hmap.running.trans h.map, hmap.switch.trans h.calm, .inr ?_⟩
    rcases h.stage with hb | ha
    · exact ⟨⟨p, hn, (hb.pod p hn).symm.trans hp, hgone⟩, t, _, hb.side, fun hr => (hb.shut hr).1, hlost, .refl _⟩
    · obtain ⟨q, hq, _, hnow⟩ := ha.lost
      rw [seatAt_unique hn hq, hnow] at hp
      cases hp
  · have hside : Steps (sideLeave n) t (t.losePod p w) :=
      losePod_steps (.refl t) p w (sideLeave_wide n) trivial (.inl h.calm) fun m hm =>
        sideLeave_serves (by rintro rfl; exact hn hm)
    have hshut : t.Derived → Steps (shutLeave n) t (t.losePod p w) := fun hd =>
      losePod_steps_derived (.refl t) p w hd trivial h.calm trivial (sideLeave_wide n).move fun m hm => by
        have hne : m ≠ n := by rintro rfl; exact hn hm
        have hserves := sideLeave_serves hne
        exact ⟨hne, ⟨hserves.touch, hserves.trip, hserves.flag, hserves.offset⟩⟩
    have hmap := hside.map_kept id
    refine ⟨hmap.running.trans h.map, hmap.switch.trans h.calm, ?_⟩
    rcases h.stage with hb | ha
    · refine .inl ⟨hb.side.trans hside, fun hr => ?_, fun q hq => ?_⟩
      · obtain ⟨hsteps, hder⟩ := hb.shut hr
        exact ⟨hsteps.trans (hshut hder), losePod_derived t p w h.calm hder⟩
      · refine (hkept q ?_).trans (hb.pod q hq)
        rintro rfl
        exact hn (h.map ▸ hq)
    · obtain ⟨q, hq, hwas, hnow⟩ := ha.lost
      obtain ⟨v, x, hbefore, hsh, hlost, hafter⟩ := ha.marks
      have hne : p ≠ q := by
        rintro rfl
        rw [hnow] at hp
        cases hp
      exact .inr ⟨⟨q, hq, hwas, (hkept q hne).trans hnow⟩, v, x, hbefore, hsh, hlost, hafter.trans hside⟩

theorem Course.loseAll (h : Course n r t) (l : LineNo) (ps : List Pos) (w : LossCause) :
    Course n r (t.loseAll l ps w) := by
  unfold Room.loseAll
  induction ps generalizing t with
  | nil => exact h
  | cons p ps ih =>
    rw [List.foldl_cons]
    split
    · exact ih (h.lose _ w ‹_›)
    · exact ih h

/-- The seat of a lost pod has been lost, and nothing before touched it. -/
theorem Course.lost (h : Course n r t) {p : PodPos} (hp : seatAt r.map.running p = some n)
    (hwas : (r.podAt p).present = true) (hnow : (t.podAt p).present = false) :
    ∃ u, Steps (sideLeave n) r u ∧ (r.Derived → Steps (shutLeave n) r u) ∧ Lost n u t := by
  rcases h.stage with hb | ha
  · rw [hb.pod p hp, hwas] at hnow
    cases hnow
  · obtain ⟨u, v, hbefore, hshut, hlost, hafter⟩ := ha.marks
    exact ⟨u, hbefore, hshut, hlost.then hafter (sideLeave_spares n)⟩

/-- The seat of a lost pod is as a loss leaves it. -/
theorem Course.seatLost (h : Course n r t) {p : PodPos} (hp : seatAt r.map.running p = some n)
    (hwas : (r.podAt p).present = true) (hnow : (t.podAt p).present = false) : SeatLost r t n t.out := by
  obtain ⟨u, hbefore, hshut, hlost⟩ := h.lost hp hwas hnow
  exact seatLost_of hbefore hshut hlost

/-- A seat whose pod was not lost keeps its flags and its trip record. -/
theorem Course.kept (h : Course n r t)
    (hn : ∀ p, (r.podAt p).present = true → (t.podAt p).present = false → seatAt r.map.running p ≠ some n) :
    (t.mseat n).facts = (r.mseat n).facts ∧ (t.fbSeat n).facts = (r.fbSeat n).facts := by
  rcases h.stage with hb | ha
  · exact ⟨hb.side.flags n (fun a b => b = a) (fun _ => rfl) (fun _ _ _ h g => g.trans h) (sideLeave_flag n),
      (hb.side.untouched n (sideLeave_touch n)).trips⟩
  · obtain ⟨p, hp, hwas, hnow⟩ := ha.lost
    exact absurd hp (hn p hwas hnow)

/-- What some losses leave of every seat (R26). -/
theorem lossLeaves_of (h : ∀ n, Course n r t) {lost : PodPos → Prop}
    (hlost : ∀ p, lost p ↔ (r.podAt p).present = true ∧ (t.podAt p).present = false) : LossLeaves r t lost t.out := by
  refine fun n => ⟨fun p hp hn => ?_, fun hn => (h n).kept fun p hwas hnow => hn p ((hlost p).2 ⟨hwas, hnow⟩)⟩
  obtain ⟨hwas, hnow⟩ := (hlost p).1 hp
  exact (h n).seatLost hn hwas hnow

/-! ## What stands of the room through some losses -/

/-- A leave to lose pods. -/
def lossLeave : Leave where
  touch _ := True
  trip _ := True
  flag _ _ _ := True
  close _ := True
  pod _ := True
  move id := id ≠ .standby
  mute := True
  claim := False
  rest := False
  swap := False

theorem lossLeave_wide : lossLeave.Wide :=
  ⟨trivial, fun id h => by rintro rfl; exact h, fun _ => trivial⟩

theorem lossLeave_serves (n : Seat) : lossLeave.Serves n := ⟨trivial, trivial, fun _ _ => trivial, by simp [lossLeave]⟩

/-- What stands of a room after a chain that moves the pods, the flags and the trips alone. -/
theorem standing_of_steps (h : Steps P r t) (hclaim : ¬ P.claim) (hrest : ¬ P.rest) (hswap : ¬ P.swap) :
    t.standing
      = { r.standing with lines := t.standing.lines, flags := t.standing.flags, trips := t.standing.trips } := by
  obtain ⟨s1, s2, s3, s4, s5, s6, s7, s8, s9, s10⟩ := h.settings
  obtain ⟨m1, m2, m3⟩ := h.map_kept hswap
  obtain ⟨d1, d2, d3, d4⟩ := h.rest_kept hrest
  obtain ⟨c1, c2⟩ := h.claims_kept hclaim
  simp only [Room.standing, s1, s2, s3, s4, s5, s6, s7, s8, s9, s10, m1, m2, m3, d1, d2, d3, d4, c1, c2]

theorem loseAll_steps (h : Steps P r t) (l : LineNo) (ps : List Pos) (w : LossCause) (hw : P.Wide)
    (hp : ∀ p ∈ ps, P.pod ⟨l, p⟩) (hs : r.map.switch = none ∧ ¬ P.swap ∨ P.Free)
    (hserve : ∀ n, P.Serves n) : Steps P r (t.loseAll l ps w) := by
  refine h.foldl ps fun p hpm u hu => ?_
  split
  · refine losePod_steps hu _ w hw (hp p hpm) ?_ fun n _ => hserve n
    exact hs.imp_left fun hs => (hu.map_kept hs.2).switch.trans hs.1
  · exact hu

end Sys2Proof.Machine.PodLines
end

section
/-! LINE_SET, LINE_SCAN and LINE_REHEARSE (R26, R27, R29, R39, R40). -/

namespace Sys2Proof.Machine.PodLines

variable {r t : Room} {n : Seat} {l : LineNo}

/-! ## The steps of the three requests beside the losses -/

theorem setLine_podAt (u : Room) (l : LineNo) (f : Line → Line) (hf : ∀ x, (f x).pods = x.pods) (p : PodPos) :
    (u.setLine l f).podAt p = u.podAt p :=
  congrArg (fun x => Tab.get x p.pos) (get_of_map_eq (f := Line.pods) (Tab.map_modify _ _ _ _ (hf _)) p.line)

theorem Course.line (h : Course n r t) (l : LineNo) (f : Line → Line)
    (hf : ∀ x, (f x).pods = x.pods ∧ (f x).dark = x.dark ∧ (f x).audio = x.audio) : Course n r (t.setLine l f) := by
  refine h.side ((Steps.refl t).then (.line l f hf)) (fun hd => hd.of_same ⟨rfl, rfl, rfl, rfl⟩ rfl rfl) fun p => ?_
  rw [setLine_podAt t l f fun x => (hf x).1]

theorem Course.emit (h : Course n r t) (e : Event) : Course n r (t.emit e) :=
  h.side ((Steps.refl t).emit e) (fun hd => hd.of_same ⟨rfl, rfl, rfl, rfl⟩ rfl rfl) fun _ => rfl

theorem Course.lineState (h : Course n r t) (l : LineNo) (st : LineState) : Course n r (t.setLineState l st) := by
  unfold Room.setLineState
  split
  · exact h
  · exact (h.line l (fun x => { x with lstate := st }) fun _ => ⟨rfl, rfl, rfl⟩).emit _

theorem podAt_of_lines {t u : Room} (h : u.lines = t.lines) (p : PodPos) : u.podAt p = t.podAt p :=
  congrArg (fun x : Tab 2 Line => (x.get p.line).pods.get p.pos) h

/-- With no switch pending settling leaves the mutes derived. -/
theorem settle_derived (u : Room) (hs : u.map.switch = none) (hd : u.Derived) : u.settle.Derived := by
  obtain ⟨_, hmute, _, _, _, _, _, _, hrun, _, hgroups, _⟩ := Room.settle_calm_keeps u hs
  exact hd.of_same ⟨hrun, hgroups, by rw [hmute], by rw [hmute]⟩ (by rw [hmute]) (by rw [hmute])

theorem Course.settle (h : Course n r t) : Course n r t.settle := by
  have hlines := (Room.settle_calm_keeps t h.calm).1
  exact h.side ((Steps.refl t).settle_calm h.calm) (settle_derived t h.calm) fun p => congrArg Pod.present (podAt_of_lines hlines p)

theorem probeCheck_parts (x : Line) :
    x.probeCheck.pods = x.pods ∧ x.probeCheck.dark = x.dark ∧ x.probeCheck.audio = x.audio := by
  rw [probeCheck_eq]
  exact ⟨rfl, rfl, rfl⟩

/-! ## Requests that lose pods -/

/-- What a request that loses pods of one line leaves, the line itself apart. -/
structure Losing (l : LineNo) (r t : Room) : Prop where
  seats : ∀ n, Course n r t
  stands : t.standing
    = { r.standing with lines := t.standing.lines, flags := t.standing.flags, trips := t.standing.trips }

theorem stands_then {P : Leave} {u : Room} (h : t.standing
      = { r.standing with lines := t.standing.lines, flags := t.standing.flags, trips := t.standing.trips })
    (hs : Steps P t u) (hclaim : ¬ P.claim) (hrest : ¬ P.rest) (hswap : ¬ P.swap) : u.standing
      = { r.standing with lines := u.standing.lines, flags := u.standing.flags, trips := u.standing.trips } := by
  rw [standing_of_steps hs hclaim hrest hswap, h]

theorem Losing.refl (l : LineNo) (h : r.map.switch = none) : Losing l r r := ⟨fun _ => .refl h, rfl⟩

theorem Losing.line (h : Losing l r t) (f : Line → Line)
    (hf : ∀ x, (f x).pods = x.pods ∧ (f x).dark = x.dark ∧ (f x).audio = x.audio) : Losing l r (t.setLine l f) :=
  ⟨fun n => (h.seats n).line l f hf,
    stands_then h.stands ((Steps.refl (P := lossLeave) t).then (.line l f hf)) id id id⟩

theorem Losing.lineState (h : Losing l r t) (st : LineState) : Losing l r (t.setLineState l st) :=
  ⟨fun n => (h.seats n).lineState l st, stands_then h.stands (setLineState_steps (.refl (P := lossLeave) t) l st) id id id⟩

theorem Losing.loseAll (h : Losing l r t) (ps : List Pos) (w : LossCause) : Losing l r (t.loseAll l ps w) :=
  ⟨fun n => (h.seats n).loseAll l ps w, stands_then h.stands (loseAll_steps (.refl (P := lossLeave) t) l ps w
    lossLeave_wide (fun _ _ => trivial) (.inl ⟨(h.seats 0).calm, id⟩) lossLeave_serves) id id id⟩

/-- The settling that ends the request, its events and the room as it stands. -/
theorem Losing.settle (h : Losing l r t) : Losing l r t.settle :=
  ⟨fun n => (h.seats n).settle,
    stands_then h.stands ((Steps.refl (P := lossLeave) t).settle_calm (h.seats 0).calm) id id id⟩

/-- What the request leaves of every seat and of the room, as it is sent. -/
theorem Losing.sent (h : Losing l r t) {lost : PodPos → Prop}
    (hlost : ∀ p, lost p ↔ (r.podAt p).present = true ∧ (t.podAt p).present = false) :
    LossLeaves r t.settle.sent lost t.settle.out
      ∧ t.settle.sent.standing = { r.standing with
          lines := t.settle.sent.standing.lines, flags := t.settle.sent.standing.flags
          trips := t.settle.sent.standing.trips } := by
  have hlines := (Room.settle_calm_keeps t (h.seats 0).calm).1
  have hleaves : LossLeaves r t.settle lost t.settle.out := lossLeaves_of h.settle.seats fun p => by
    rw [hlost, podAt_of_lines hlines p]
  exact ⟨hleaves, h.settle.stands⟩

/-- A settled line with its settings changed is settled. -/
theorem settled_setLine (h : r.Settled) (l : LineNo) (f : Line → Line) : (r.setLine l f).Settled := h

/-! ## LINE_SET (R39) -/

theorem within_some {lo hi v : Nat} (h1 : lo ≤ v) (h2 : v ≤ hi) : within lo hi v = some v := if_pos ⟨h1, h2⟩

theorem within_none {lo hi v : Nat} (h : v < lo ∨ hi < v) : within lo hi v = none := if_neg (by omega)

theorem lineSet_range (r : Room) (l e m : Byte)
    (h : l.toNat = 0 ∨ 2 < l.toNat ∨ 20 < e.toNat ∨ m.toNat < 2 ∨ 32 < m.toNat) :
    reqLineSet [l, e, m] r = (r, bare .range) := by
  unfold reqLineSet
  dsimp only
  split
  · rename_i hl he hm
    have h1 := numbered_some hl
    simp only [within, Option.ite_none_right_eq_some] at he hm
    omega
  · rfl

theorem lineSet_eq (r : Room) (l : LineNo) {e m : Nat} (he : e ≤ 20) (h2 : 2 ≤ m) (hm : m ≤ 32) :
    reqLineSet [numByte l, byteOf e, byteOf m] r = (r.setLineSettings l ⟨e, m⟩, bare .ok) := by
  unfold reqLineSet
  simp only [numbered_line, byteOf_small (show e < 256 by omega), byteOf_small (show m < 256 by omega),
    within_some (Nat.zero_le e) he, within_some h2 hm]

/-- A line with new settings, its probe timer following (R29, R39). -/
def lineSetUp (e m : Nat) (x : Line) : Line :=
  { x with expected := e, lostLimit := m
           probeTimer := if x.lstate ≠ .scanning ∧ x.count < e then some (x.probeTimer.getD 500) else none }

theorem setLineSettings_eq (r : Room) (l : LineNo) (e m : Nat) :
    r.setLineSettings l ⟨e, m⟩
      = (r.setLine l (lineSetUp e m)).loseAll l
          (allPositions.filter fun p => m ≤ ((r.line l).pods.get p).bad) .slot := by
  unfold Room.setLineSettings Room.checkProbe
  rw [setLine_setLine]
  have hset : (fun x : Line => Line.probeCheck { x with expected := e, lostLimit := m }) = lineSetUp e m :=
    funext fun x => probeCheck_eq _
  rw [hset]
  simp only [Room.setLine_line]
  rfl

theorem mem_allPositions (p : Pos) : p ∈ allPositions := List.mem_finRange p

/-- Where no listed pod is present none is lost. -/
theorem loseAll_none (r : Room) (l : LineNo) (ps : List Pos) (w : LossCause)
    (h : ∀ p ∈ ps, (r.podAt ⟨l, p⟩).present = false) : r.loseAll l ps w = r := by
  unfold Room.loseAll
  induction ps with
  | nil => rfl
  | cons p ps ih =>
    rw [List.foldl_cons, h p (List.mem_cons_self ..)]
    exact ih fun q hq => h q (List.mem_cons_of_mem _ hq)

/-- A pod is present after some losses where it was and was not lost. -/
theorem loseAll_present (r : Room) (l : LineNo) (ps : List Pos) (w : LossCause) (q : PodPos) :
    ((r.loseAll l ps w).podAt q).present = ((r.podAt q).present && !decide (q.line = l ∧ q.pos ∈ ps)) := by
  have h := present_of_facts ((r.loseAll_lines l ps w).2.1 q |>.trans (apply_ite Pod.facts ..).symm)
  rw [h]
  split
  · rename_i hq
    simp [Pod.gone, hq.1, hq.2.1]
  · rename_i hq
    cases hp : (r.podAt q).present
    · rfl
    · simp only [hp, and_true] at hq
      simp [hq]

/-- What the losses of one request leave, as its reply is sent: from the room before it, with the pods that it loses. -/
structure LossesTold (l : LineNo) (w : LossCause) (lost : PodPos → Prop) (r t : Room) : Prop where
  losing : Losing l r t
  present : ∀ q, (t.podAt q).present = true ↔ (r.podAt q).present = true ∧ ¬ (q.line = l ∧ lost q)
  told : ∀ p, (r.podAt ⟨l, p⟩).present = true → lost ⟨l, p⟩ → .podLost ⟨l, p⟩ w (seatAt r.map.running ⟨l, p⟩) ∈ t.out
  others : ∀ k, k ≠ l → (t.line k).facts = (r.line k).facts

/-- The losses follow a change of the line that leaves its pods. -/
theorem lossesTold_loseAll {b : Room} (h : Losing l r b) (hpods : ∀ q, b.podAt q = r.podAt q)
    (hothers : ∀ k, k ≠ l → (b.line k).facts = (r.line k).facts) (ps : List Pos) (w : LossCause) :
    LossesTold l w (fun q => q.pos ∈ ps) r (b.loseAll l ps w) := by
  refine ⟨h.loseAll ps w, fun q => ?_, fun p hp hlost => ?_, fun k hk =>
    ((b.loseAll_lines l ps w).2.2 k hk).trans (hothers k hk)⟩
  · rw [loseAll_present, hpods]
    simp only [Bool.and_eq_true, Bool.not_eq_true', decide_eq_false_iff_not]
  · have hevent := b.loseAll_events l ps w (h.seats 0).calm p hlost (by rwa [hpods])
    rwa [(h.seats 0).map] at hevent

theorem LossesTold.congr {w : LossCause} {lost lost' : PodPos → Prop} (h : LossesTold l w lost r t)
    (he : ∀ p, lost ⟨l, p⟩ ↔ lost' ⟨l, p⟩) : LossesTold l w lost' r t := by
  have hq : ∀ q : PodPos, q.line = l ∧ lost' q ↔ q.line = l ∧ lost q := by
    rintro ⟨k, p⟩
    refine and_congr_right ?_
    rintro rfl
    exact (he p).symm
  exact ⟨h.losing, fun q => by rw [h.present q, hq], fun p hp hl => h.told p hp ((he p).2 hl), h.others⟩

/-- A change of the line's settings, scan or rehearsal afterwards. -/
theorem LossesTold.line {w : LossCause} {lost : PodPos → Prop} (h : LossesTold l w lost r t) (f : Line → Line)
    (hf : ∀ x, (f x).pods = x.pods ∧ (f x).dark = x.dark ∧ (f x).audio = x.audio) :
    LossesTold l w lost r (t.setLine l f) := by
  refine ⟨h.losing.line f hf, fun q => ?_, h.told, fun k hk => ?_⟩
  · rw [setLine_podAt t l f (fun x => (hf x).1)]
    exact h.present q
  · rw [Room.setLine_line_ne t f (Ne.symm hk)]
    exact h.others k hk

/-- The answer of the request (R26): the losses and what they leave. -/
theorem LossesTold.sent {w : LossCause} {lost : PodPos → Prop} (h : LossesTold l w lost r t) :
    (∀ p, (t.settle.sent.podAt ⟨l, p⟩).present = true ↔ (r.podAt ⟨l, p⟩).present = true ∧ ¬ lost ⟨l, p⟩)
      ∧ (∀ p, (r.podAt ⟨l, p⟩).present = true → lost ⟨l, p⟩ →
        .podLost ⟨l, p⟩ w (seatAt r.map.running ⟨l, p⟩) ∈ t.settle.out)
      ∧ LossLeaves r t.settle.sent (fun p => p.line = l ∧ (r.podAt p).present = true ∧ lost p) t.settle.out
      ∧ (∀ k, k ≠ l → (t.settle.sent.line k).facts = (r.line k).facts)
      ∧ t.settle.sent.standing = { r.standing with
          lines := t.settle.sent.standing.lines, flags := t.settle.sent.standing.flags
          trips := t.settle.sent.standing.trips } := by
  have hkeeps := Room.settle_calm_keeps t (h.losing.seats 0).calm
  have hlines := hkeeps.1
  have hout : t.settle.out = t.out := by simp [hkeeps]
  have hline : ∀ k, t.settle.sent.line k = t.line k := fun k => congrArg (fun x => Tab.get x k) hlines
  obtain ⟨hleaves, hstands⟩ := h.losing.sent (lost := fun p => p.line = l ∧ (r.podAt p).present = true ∧ lost p)
    fun p => by
      have hp := h.present p
      rw [← Bool.not_eq_true, hp]
      tauto
  refine ⟨fun p => ?_, fun p hp hl => by rw [hout]; exact h.told p hp hl, hleaves, fun k hk => ?_, hstands⟩
  · have hp := h.present ⟨l, p⟩
    rw [show t.settle.sent.podAt ⟨l, p⟩ = t.podAt ⟨l, p⟩ from podAt_of_lines hlines _, hp]
    simp
  · rw [hline]
    exact h.others k hk

theorem lineSet_told (r : Room) (l : LineNo) (e m : Nat) (hcalm : r.map.switch = none) :
    LossesTold l .slot (fun q => m ≤ (r.podAt q).bad) r (r.setLineSettings l ⟨e, m⟩) := by
  have hb : Losing l r (r.setLine l (lineSetUp e m)) :=
    (Losing.refl l hcalm).line (lineSetUp e m) fun _ => ⟨rfl, rfl, rfl⟩
  have h := lossesTold_loseAll hb (setLine_podAt r l _ fun _ => rfl)
    (fun k hk => congrArg Line.facts (Room.setLine_line_ne r _ (Ne.symm hk)))
    (allPositions.filter fun p => m ≤ ((r.line l).pods.get p).bad) .slot
  rw [← setLineSettings_eq] at h
  refine h.congr fun p => ?_
  simp only [allPositions, List.mem_filter, List.mem_finRange, true_and, decide_eq_true_eq]
  exact Iff.rfl

/-- The probe timer of a line that is set up anew and then loses pods (R29; log 77). -/
theorem lineSetUp_checked (e m : Nat) (x : Line) :
    (lineSetUp e m x).probeTimer = none ∨ (lineSetUp e m x).count < (lineSetUp e m x).expected := by
  show (if x.lstate ≠ .scanning ∧ x.count < e then some (x.probeTimer.getD 500) else none) = none ∨ x.count < e
  split
  · exact .inr (by tauto)
  · exact .inl rfl

theorem lineSetUp_timer (e m left : Nat) (x : Line) :
    (if x.lstate ≠ .scanning ∧ left < e then some ((lineSetUp e m x).probeTimer.getD 500) else none)
      = if x.lstate ≠ .scanning ∧ left < e then
          (if x.count < e then some (x.probeTimer.getD 500) else some 500)
        else none := by
  refine if_ctx_congr Iff.rfl (fun hc => ?_) fun _ => rfl
  simp only [lineSetUp, ne_eq, hc.1, not_false_eq_true, true_and]
  split <;> rfl

/-- The line of some losses, one at least. -/
theorem LineCourse.lossy (h : LineCourse l r t) {p : Pos} (hwas : (r.podAt ⟨l, p⟩).present = true)
    (hnow : (t.podAt ⟨l, p⟩).present = false) (hr : (r.line l).probeTimer = none ∨ (r.line l).count < (r.line l).expected) :
    (t.line l).lstate
        = (if (r.line l).lstate = .scanning then .scanning else if (t.line l).count = 0 then .down else .up)
      ∧ (t.line l).probeTimer
        = if (r.line l).lstate ≠ .scanning ∧ (t.line l).count < (r.line l).expected then
            some ((r.line l).probeTimer.getD 500)
          else none := by
  rcases h.followed with ⟨hsame, _, _⟩ | ⟨_, hstate, hstop, hrun⟩
  · rw [hsame p, hwas] at hnow
    cases hnow
  · refine ⟨hstate, ?_⟩
    simp only [ne_eq, h.scanning_iff, h.expected] at hstop hrun
    split
    · rename_i hc
      exact hrun hc hr
    · rename_i hc
      exact hstop hc

theorem lineSet_line (r : Room) (l : LineNo) (e m : Nat) (hcalm : r.map.switch = none) :
    ((r.setLineSettings l ⟨e, m⟩).settle.sent.line l).core = (lineSetUp e m (r.line l)).core
      ∧ LineCourse l (r.setLine l (lineSetUp e m)) (r.setLineSettings l ⟨e, m⟩).settle := by
  have hcalm' : (r.setLineSettings l ⟨e, m⟩).map.switch = none :=
    ((lineSet_told r l e m hcalm).losing.seats 0).calm
  have hkeeps := Room.settle_calm_keeps _ hcalm'
  have hline : (r.setLineSettings l ⟨e, m⟩).settle.line l = (r.setLineSettings l ⟨e, m⟩).line l :=
    congrArg (fun x => Tab.get x l) hkeeps.1
  refine ⟨?_, ?_⟩
  · rw [show (r.setLineSettings l ⟨e, m⟩).settle.sent.line l = (r.setLineSettings l ⟨e, m⟩).line l from hline,
      setLineSettings_eq, (Room.loseAll_lines _ _ _ _).1, Room.setLine_line]
  · have hcourse := (LineCourse.refl l (r.setLine l (lineSetUp e m))).loseAll
      (allPositions.filter fun p => m ≤ ((r.line l).pods.get p).bad) .slot
    rw [← setLineSettings_eq] at hcourse
    exact hcourse.of_facts (congrArg Line.facts hline) (by simp [hkeeps])

/-- Settles O26: the settings and the probe timer first, then the losses by their course through each seat and through
the line. -/
theorem lineSetTakesSettings : Obligations.LineSetTakesSettings := by
  unfold Obligations.LineSetTakesSettings
  refine ⟨fun s tag l e m hs h => request_refused hs .lineSet tag _ reqLineSet (fun _ => rfl) (lineSet_range _ _ _ _ h),
    fun s tag l e m ⟨hs, hcalm⟩ he h2 hm => ?_⟩
  have hsettled : s.room.Settled := hs.2.2.2.2.2.2
  have hact := State.request_replied s hs .lineSet tag _ reqLineSet (fun _ => rfl) (lineSet_eq s.room l he h2 hm)
  have heq := setLineSettings_eq s.room l e m
  dsimp only
  refine ⟨fun hkept => ?_, _, _, congrArg _ hact, ?_⟩
  · have hnone : s.room.setLineSettings l ⟨e, m⟩ = s.room.setLine l (lineSetUp e m) := by
      rw [heq]
      refine loseAll_none _ _ _ _ fun p hp => ?_
      have hbad : m ≤ (s.room.podAt ⟨l, p⟩).bad := of_decide_eq_true (List.mem_filter.1 hp).2
      rw [setLine_podAt _ l (lineSetUp e m) fun _ => rfl]
      by_contra hne
      exact absurd (hkept p (Bool.eq_true_of_not_eq_false hne)) (by omega)
    have hsame := settled_setLine hsettled l (lineSetUp e m)
    rw [hnone, Room.settle_settled _ hsame, Room.sent_settled _ hsame, hsame.1] at hact
    exact congrArg _ hact
  · obtain ⟨hpresent, htold, hleaves, hothers, hstands⟩ := (lineSet_told s.room l e m hcalm).sent
    obtain ⟨hcore, hcourse⟩ := lineSet_line s.room l e m hcalm
    have hp : ∀ p : Pos, ((s.room.setLineSettings l ⟨e, m⟩).settle.sent.podAt ⟨l, p⟩).present
        = ((s.room.podAt ⟨l, p⟩).present && decide ((s.room.podAt ⟨l, p⟩).bad < m)) := fun p => by
      rw [Bool.eq_iff_iff, hpresent p]
      simp
    refine ⟨congrArg LineCore.expected hcore, congrArg LineCore.lostLimit hcore, hp, htold, hleaves,
      fun ⟨p, hwas, hlost⟩ => ?_, hothers, hstands⟩
    have hcount := (count_eq_length ((s.room.setLineSettings l ⟨e, m⟩).settle.line l)).trans
      (congrArg (fun f => ((List.finRange 20).filter f).length) (funext hp))
    have hset := Room.setLine_line s.room l (lineSetUp e m)
    have hchecked := lineSetUp_checked e m (s.room.line l)
    rw [← hset] at hchecked
    obtain ⟨hstate, htimer⟩ := hcourse.lossy (p := p) (by rwa [setLine_podAt _ l (lineSetUp e m) fun _ => rfl])
      ((hp p).trans hlost) hchecked
    have htold := hcourse.told
    rw [hset] at hstate htimer htold
    rw [hcount] at hstate htimer
    exact ⟨hstate, htold, htimer.trans (lineSetUp_timer e m _ (s.room.line l))⟩

end Sys2Proof.Machine.PodLines
end

section
/-! LINE_SCAN and LINE_REHEARSE (R27, R40). -/

namespace Sys2Proof.Machine.PodLines

variable {r t : Room} {l : LineNo} {w : LossCause} {lost : PodPos → Prop}

/-! ## LINE_SCAN (R27) -/

/-- A line with its rehearsal and its probe ended. -/
def lineCleared (x : Line) : Line := { x with rehearsal := none, probe := none, probeTimer := none }

/-- The line as a scan begins, before its pods are lost. -/
def scanBegun (r : Room) (l : LineNo) : Room := (r.setLine l lineCleared).setLineState l .scanning

/-- A line with its first scan step under way. -/
def scanFirst (x : Line) : Line := { x with scan := some ⟨0, 20⟩ }

theorem startScan_eq (r : Room) (l : LineNo) :
    r.startScan l = ((scanBegun r l).loseAll l allPositions .scan).setLine l scanFirst := rfl

/-- A line as the reply of a calm request is sent. -/
theorem sent_line (t : Room) (h : t.map.switch = none) (k : LineNo) : t.settle.sent.line k = t.line k :=
  congrArg (fun x => Tab.get x k) (Room.settle_calm_keeps t h).1

theorem setLineState_lines (u : Room) (l : LineNo) (st : LineState) :
    (u.setLineState l st).line l = { u.line l with lstate := st } := by
  unfold Room.setLineState
  split
  · rename_i h
    rw [← h]
  · exact Room.setLine_line u l _

theorem setLineState_told (u : Room) (l : LineNo) (st : LineState) (h : (u.line l).lstate ≠ st) :
    .lineState l st ∈ (u.setLineState l st).out := by
  unfold Room.setLineState
  rw [if_neg h]
  simp [Room.emit]

theorem setLineState_podAt (u : Room) (l : LineNo) (st : LineState) (p : PodPos) :
    (u.setLineState l st).podAt p = u.podAt p := by
  unfold Room.setLineState
  split
  · rfl
  · exact setLine_podAt u l (fun x => { x with lstate := st }) (fun _ => rfl) p

theorem setLineState_line_ne (u : Room) (st : LineState) {k : LineNo} (h : l ≠ k) :
    (u.setLineState l st).line k = u.line k := by
  unfold Room.setLineState
  split
  · rfl
  · exact Room.setLine_line_ne u _ h

theorem scanBegun_losing (r : Room) (l : LineNo) (hcalm : r.map.switch = none) : Losing l r (scanBegun r l) :=
  ((Losing.refl l hcalm).line lineCleared fun _ => ⟨rfl, rfl, rfl⟩).lineState _

theorem scan_told (r : Room) (l : LineNo) (hcalm : r.map.switch = none) :
    LossesTold l .scan (fun _ => True) r (r.startScan l) := by
  have h := lossesTold_loseAll (scanBegun_losing r l hcalm)
    (fun q => (setLineState_podAt _ l _ q).trans (setLine_podAt r l lineCleared (fun _ => rfl) q))
    (fun k hk => congrArg Line.facts ((setLineState_line_ne _ _ (Ne.symm hk)).trans
      (Room.setLine_line_ne r _ (Ne.symm hk))))
    allPositions .scan
  rw [startScan_eq]
  exact (h.congr fun p => iff_true_intro (mem_allPositions p)).line scanFirst fun _ => ⟨rfl, rfl, rfl⟩

theorem scan_line (r : Room) (l : LineNo) (h : (r.line l).lstate ≠ .scanning) :
    ((r.startScan l).line l).lstate = .scanning ∧ ((r.startScan l).line l).scan = some ⟨0, 20⟩
      ∧ ((r.startScan l).line l).probe = none ∧ ((r.startScan l).line l).probeTimer = none
      ∧ ((r.startScan l).line l).rehearsal = none ∧ .lineState l .scanning ∈ (r.startScan l).out := by
  have hbegun : (scanBegun r l).line l = { lineCleared (r.line l) with lstate := .scanning } :=
    (setLineState_lines _ l _).trans (congrArg (fun x : Line => { x with lstate := .scanning }) (Room.setLine_line r l _))
  have hcourse := (LineCourse.refl l (scanBegun r l)).loseAll allPositions .scan
  have hcore := ((scanBegun r l).loseAll_lines l allPositions .scan).1 l
  have hstate : ((Room.loseAll (scanBegun r l) l allPositions .scan).line l).lstate = .scanning :=
    hcourse.scanning_iff.2 (by rw [hbegun])
  have htimer : ((Room.loseAll (scanBegun r l) l allPositions .scan).line l).probeTimer = none := by
    rcases hcourse.followed with ⟨_, _, hsame⟩ | ⟨_, _, hstop, _⟩
    · exact hsame.trans (congrArg Line.probeTimer hbegun)
    · exact hstop fun hc => hc.1 hstate
  have hout : .lineState l .scanning ∈ (scanBegun r l).out := by
    refine setLineState_told _ l _ ?_
    rw [Room.setLine_line]
    exact h
  have hgrows := Room.loseAll_grows (scanBegun r l) l allPositions .scan List.prefix_rfl
  rw [hbegun] at hcore
  rw [startScan_eq, Room.setLine_line]
  generalize Room.loseAll (scanBegun r l) l allPositions .scan = t at *
  exact ⟨hstate, rfl, congrArg LineCore.probe hcore, htimer, congrArg LineCore.rehearsal hcore, hgrows.subset hout⟩

/-! ## LINE_REHEARSE (R40) -/

theorem rehearseModeOf_none {mode : Byte} (h : 1 < mode.toNat) : rehearseModeOf mode = none := by
  unfold rehearseModeOf
  split
  · omega
  · omega
  · rfl

theorem rehearse_range (r : Room) (l p mode : Byte) (ms : Pair)
    (h : l.toNat = 0 ∨ 2 < l.toNat ∨ p.toNat = 0 ∨ 20 < p.toNat ∨ 1 < mode.toNat ∨ ms.toNat < 10 ∨ 10000 < ms.toNat) :
    reqLineRehearse [l, p, mode, ms.extractLsb' 8 8, ms.extractLsb' 0 8] r = (r, bare .range) := by
  unfold reqLineRehearse
  simp only [pairOf_pair]
  split
  · rename_i hl hp hm hms
    have h1 := numbered_some hl
    have h2 := numbered_some hp
    have h3 : mode.toNat ≤ 1 := by
      by_contra hlt
      rw [rehearseModeOf_none (by omega)] at hm
      cases hm
    simp only [within, Option.ite_none_right_eq_some] at hms
    omega
  · rfl

/-- LINE_REHEARSE with its fields in range. -/
theorem rehearse_eq (r : Room) (l : LineNo) (p : Pos) {mode : Byte} {x : RehearseMode} (hmode : rehearseModeOf mode = some x)
    {ms : Pair} (h1 : 10 ≤ ms.toNat) (h2 : ms.toNat ≤ 10000) :
    reqLineRehearse [numByte l, numByte p, mode, ms.extractLsb' 8 8, ms.extractLsb' 0 8] r
      = if (r.line l).lstate = .scanning ∨ (r.line l).rehearsal.isSome = true then (r, bare .busy)
        else (r.startRehearsal l ⟨x, p, ms.toNat⟩, bare .ok) := by
  unfold reqLineRehearse
  simp only [pairOf_pair, numbered_line, numbered_pos, hmode, within_some h1 h2, Bool.or_eq_true, decide_eq_true_eq]

theorem rehearseModeOf_le {mode : Byte} (h : mode.toNat ≤ 1) : ∃ x, rehearseModeOf mode = some x := by
  have hcases : mode.toNat = 0 ∨ mode.toNat = 1 := by omega
  rcases hcases with h | h
  · exact ⟨.drop, by simp [rehearseModeOf, h]⟩
  · exact ⟨.brk, by simp [rehearseModeOf, h]⟩

/-- A line whose rehearsal has begun, before a BREAK's losses. -/
def rehearsing (x : Rehearsal) (y : Line) : Line := { y with rehearsal := some x }

theorem break_told (r : Room) (l : LineNo) (p : Pos) (ms : Nat) (hcalm : r.map.switch = none) :
    LossesTold l .brk (fun q => p.val ≤ q.pos.val) r (r.startRehearsal l ⟨.brk, p, ms⟩) := by
  have hb : Losing l r (r.setLine l (rehearsing ⟨.brk, p, ms⟩)) :=
    (Losing.refl l hcalm).line _ fun _ => ⟨rfl, rfl, rfl⟩
  have h := lossesTold_loseAll hb (setLine_podAt r l _ fun _ => rfl)
    (fun k hk => congrArg Line.facts (Room.setLine_line_ne r _ (Ne.symm hk)))
    (allPositions.filter fun q => p.val ≤ q.val) .brk
  refine LossesTold.congr (t := r.startRehearsal l ⟨.brk, p, ms⟩) h fun q => ?_
  simp only [allPositions, List.mem_filter, List.mem_finRange, true_and, decide_eq_true_eq]

theorem break_line (r : Room) (l : LineNo) (x : Rehearsal) : ((r.startRehearsal l x).line l).rehearsal = some x := by
  have hset := congrArg Line.rehearsal (Room.setLine_line r l (rehearsing x))
  unfold Room.startRehearsal
  dsimp only
  split
  · exact hset
  · exact (congrArg LineCore.rehearsal ((Room.loseAll_lines ..).1 l)).trans hset

/-- Settles O27: a scan and a BREAK lose their pods by the course of LINE_SET's losses. -/
theorem lineScanAndRehearseStart : Obligations.LineScanAndRehearseStart := by
  unfold Obligations.LineScanAndRehearseStart
  refine ⟨fun s tag l ⟨hs, hcalm⟩ => ⟨fun b hb => ?_, fun hscan => ?_, fun hscan => ?_⟩,
    fun s tag l p ms ⟨hs, hcalm⟩ h1 h2 => ⟨fun hbusy mode hmode => ?_, fun hscan hrehearsal => ⟨?_, ?_⟩⟩,
    fun s tag l p mode ms hs h => ?_⟩
  · exact request_refused hs .lineScan tag _ reqLineScan (fun _ => rfl) (by simp [reqLineScan, numbered_none hb])
  · exact request_refused hs .lineScan tag _ reqLineScan (fun _ => rfl) (by simp [reqLineScan, hscan])
  · have hreq : reqLineScan [numByte l] s.room = (s.room.startScan l, bare .ok) := by simp [reqLineScan, hscan]
    have hact := State.request_replied s hs .lineScan tag _ reqLineScan (fun _ => rfl) hreq
    have htold := scan_told s.room l hcalm
    obtain ⟨hstate, hfield, hprobe, htimer, hrehearsal, hevent⟩ := scan_line s.room l hscan
    have hline := sent_line _ (htold.losing.seats 0).calm l
    have hout := (Room.settle_calm_keeps _ (htold.losing.seats 0).calm).2.2.2.2.2.2.2.1
    obtain ⟨hpresent, hlost, hleaves, hothers, hstands⟩ := htold.sent
    refine ⟨_, _, congrArg _ hact, ?_, ?_, ?_, ?_, ?_, by rw [hout]; exact hevent, fun p => ?_,
      fun p hp => hlost p hp trivial, by simpa only [and_true] using hleaves, hothers, hstands⟩
    · rw [hline, hstate]
    · rw [hline, hfield]
    · rw [hline, hprobe]
    · rw [hline, htimer]
    · rw [hline, hrehearsal]
    · have hp := hpresent p
      simpa using hp
  · obtain ⟨x, hx⟩ := rehearseModeOf_le hmode
    refine request_refused hs .lineRehearse tag _ reqLineRehearse (fun _ => rfl) ?_
    exact (rehearse_eq s.room l p hx h1 h2).trans (if_pos hbusy)
  · have hnot : ¬ ((s.room.line l).lstate = .scanning ∨ (s.room.line l).rehearsal.isSome = true) := by
      simp [hscan, hrehearsal]
    have hreq := (rehearse_eq s.room l p (mode := 0) (x := .drop) rfl h1 h2).trans (if_neg hnot)
    have hact := State.request_replied s hs .lineRehearse tag _ reqLineRehearse (fun _ => rfl) hreq
    have hsame : (s.room.setLine l (rehearsing ⟨.drop, p, ms.toNat⟩)).Settled := settled_setLine hs.2.2.2.2.2.2 l _
    have hdrop : s.room.startRehearsal l ⟨.drop, p, ms.toNat⟩ = s.room.setLine l (rehearsing ⟨.drop, p, ms.toNat⟩) := rfl
    rw [hdrop, Room.settle_settled _ hsame, Room.sent_settled _ hsame, hsame.1] at hact
    exact congrArg _ hact
  · have hnot : ¬ ((s.room.line l).lstate = .scanning ∨ (s.room.line l).rehearsal.isSome = true) := by
      simp [hscan, hrehearsal]
    have hreq := (rehearse_eq s.room l p (mode := 1) (x := .brk) rfl h1 h2).trans (if_neg hnot)
    have hact := State.request_replied s hs .lineRehearse tag _ reqLineRehearse (fun _ => rfl) hreq
    have htold := break_told s.room l p ms.toNat hcalm
    have hline := sent_line _ (htold.losing.seats 0).calm l
    obtain ⟨hpresent, hlost, hleaves, hothers, hstands⟩ := htold.sent
    refine ⟨_, _, congrArg _ hact, ?_, fun q => ?_, hlost, hleaves, hothers, hstands⟩
    · rw [hline, break_line]
    · rw [Bool.eq_iff_iff, hpresent q]
      simp
  · exact request_refused hs .lineRehearse tag _ reqLineRehearse (fun _ => rfl) (rehearse_range _ _ _ _ _ h)

end Sys2Proof.Machine.PodLines
end

section
/-! Standby (R34, R38, R87, R110, R123, R128, R129, R153 to R155): the room that wakes and the room that enters standby, one
notice after the other. -/

namespace Sys2Proof.Machine.PodLines

variable {P : Leave} {r t u : Room}

/-! ## The standby timer -/

theorem admitSeat_link (u : Room) (n : Seat) (g : GateState) : (u.admitSeat n g).link = u.activity.link := by
  have hact : ∀ v : Room, v.link = u.link → v.activity.link = u.activity.link := by
    intro v hv
    unfold Room.activity
    rw [hv]
    split
    · rfl
    · exact hv
  rw [admitSeat_eq, admittedShown]
  dsimp only
  refine hact _ ?_
  split <;> simp [admitted]

/-- The standby timer starts afresh or runs on where the call stands (R153). -/
theorem Step.timer (h : Step P r t) (hrest : ¬ P.rest) :
    t.link.timer = r.link.timer ∨ r.link.call = .idle ∧ t.link.timer = delayTimer r.link.delay := by
  have hact : ∀ v : Room, v.link = r.activity.link →
      v.link.timer = r.link.timer ∨ r.link.call = .idle ∧ v.link.timer = delayTimer r.link.delay := by
    intro v hv
    rw [hv]
    unfold Room.activity
    split
    · exact .inr ⟨‹_›, rfl⟩
    · exact .inl rfl
  cases h
  case opens n g _ _ => exact hact _ (admitSeat_link r n g)
  case activity => exact hact _ rfl
  case call h => exact absurd h hrest
  all_goals exact .inl (by simp)

/-- While the call is IDLE the timer stands at the whole delay. -/
def Timed (r : Room) : Prop := r.link.call = .idle → r.link.timer = delayTimer r.link.delay

theorem Steps.timed (h : Steps P r t) (hrest : ¬ P.rest) (hr : Timed r) : Timed t :=
  h.keeps (C := Timed) (fun u v hu hv hcall => by
    have hkept := (Step.rest_kept hv hrest).call
    have hdelay := (Step.settings hv).delay
    rw [hdelay]
    rw [hkept] at hcall
    rcases hv.timer hrest with h | h
    · rw [h]
      exact hu hcall
    · exact h.2) hr

/-! ## The notice at the pod lines (R38) -/

theorem freshView_eq (u : Room) (n : Seat) : u.freshView n = u.viewOf n := by
  unfold Room.freshView Room.viewOf
  congr 1
  rw [Bool.eq_iff_iff]
  simp only [Room.isChair, Room.hasChairClaim, Room.entry, Bool.and_eq_true, List.any_eq_true, decide_eq_true_eq,
    and_assoc]
  exact and_congr_left fun _ => decide_eq_true_iff

/-- What the standby notice leaves at a position: a blink ended, and the indications OFF on entry; on exit a present pod
that serves a seat has its view read afresh and shows what it calls for. -/
structure Dusked (b : Bool) (p : PodPos) (u : Room) : Prop where
  blink : (u.podAt p).blink = none
  shut : b = true → u.Shows p ∧ (u.podAt p).ring = .off ∧ (u.podAt p).talk = .off ∧ (u.podAt p).room = .off
  lit : b = false → (u.podAt p).present = true →
    u.Shows p ∧ ∀ n, seatAt u.map.running p = some n → (u.podAt p).view = u.viewOf n

/-- What a position's indications rest on. -/
structure SameSight (p : PodPos) (r t : Room) : Prop where
  pod : t.podAt p = r.podAt p
  dark : (t.line p.line).dark = (r.line p.line).dark
  map : t.map.running = r.map.running
  floor : t.floor = r.floor
  mute : t.mute = r.mute

theorem SameSight.viewOf {p : PodPos} (h : SameSight p r t) (n : Seat) : t.viewOf n = r.viewOf n := by
  simp only [Room.viewOf, Room.fseat, Room.eff, Room.mseat, h.floor, h.mute, h.map]

theorem SameSight.shows {p : PodPos} (h : SameSight p r t) (hr : r.Shows p) : t.Shows p :=
  shows_congr (by rw [h.map]) h.pod h.dark hr

theorem Dusked.same {b : Bool} {p : PodPos} (h : SameSight p r t) (hr : Dusked b p r) : Dusked b p t := by
  refine ⟨by rw [h.pod]; exact hr.blink, fun hb => ?_, fun hb hp => ?_⟩
  · obtain ⟨hshows, hoff⟩ := hr.shut hb
    rw [h.pod]
    exact ⟨h.shows hshows, hoff⟩
  · rw [h.pod] at hp ⊢
    obtain ⟨hshows, hview⟩ := hr.lit hb hp
    refine ⟨h.shows hshows, fun n hn => (hview n ?_).trans (h.viewOf n).symm⟩
    rwa [h.map] at hn

theorem standbyPod_ne (u : Room) (b : Bool) {p q : PodPos} (h : p ≠ q) : (u.standbyPod b p).podAt q = u.podAt q := by
  have hpod : ∀ (v : Room) (f : Pod → Pod), (v.setPod p f).podAt q = v.podAt q := fun v f => by
    rw [Room.setPod_podAt, if_neg h]
  unfold Room.standbyPod Room.refresh Room.compose
  dsimp only
  repeat' split
  all_goals simp only [hpod]

theorem standbyPod_line (u : Room) (b : Bool) (p : PodPos) (l : LineNo) :
    ((u.standbyPod b p).line l).dark = (u.line l).dark := get_of_map_eq (by simp) l

theorem standbyPod_dusked (u : Room) (b : Bool) (p : PodPos) (hdark : (u.line p.line).dark = b) :
    Dusked b p (u.standbyPod b p) := by
  have hblink : ((u.setPod p fun pod => { pod with blink := none }).podAt p).blink = none := by
    rw [Room.setPod_podAt, if_pos rfl]
  cases b with
  | true =>
    have hoff : ∀ x : Pod, (x.composed false).ring = .off ∧ (x.composed false).talk = .off
        ∧ (x.composed false).room = .off := fun x => ⟨rfl, rfl, rfl⟩
    have hset : ((u.setPod p fun pod => { pod with blink := none }).line p.line).dark = true := by
      rw [setPod_dark, hdark]
    refine ⟨?_, fun _ => ⟨compose_shows _ p, ?_⟩, fun h => by cases h⟩
    · show ((Room.compose _ p).podAt p).blink = none
      rw [compose_podAt, if_pos rfl, (composed_keeps _ _).2.2, hblink]
    · show ((Room.compose _ p).podAt p).ring = .off ∧ ((Room.compose _ p).podAt p).talk = .off
        ∧ ((Room.compose _ p).podAt p).room = .off
      rw [compose_podAt, if_pos rfl, hset]
      simp only [Bool.not_true, Bool.and_false, Bool.false_and]
      exact hoff _
  | false =>
    have hmap : (u.setPod p fun pod => { pod with blink := none }).map = u.map := rfl
    have hview : ∀ n, (u.setPod p fun pod => { pod with blink := none }).freshView n = u.viewOf n := fun n =>
      freshView_eq u n
    unfold Room.standbyPod
    simp only [Bool.false_eq_true, if_false]
    generalize (u.setPod p fun pod => { pod with blink := none }) = v at hblink hmap hview
    split
    · unfold Room.refresh
      split
      · rename_i n hn
        refine ⟨?_, fun h => by (cases h), fun _ _ => ⟨compose_shows _ p, fun m hm => ?_⟩⟩
        · rw [compose_podAt, if_pos rfl, (composed_keeps _ _).2.2, Room.setPod_podAt, if_pos rfl]
          exact hblink
        · have hmn : m = n := Option.some.inj (hm.symm.trans (by simpa using hn))
          subst hmn
          rw [compose_podAt, if_pos rfl, (composed_keeps _ _).2.1, Room.setPod_podAt, if_pos rfl]
          exact (freshView_eq v m).trans (by simp [Room.viewOf, Room.fseat, Room.eff, Room.mseat])
      · rename_i hn
        refine ⟨?_, fun h => by (cases h), fun _ _ => ⟨compose_shows _ p, fun m hm => ?_⟩⟩
        · rw [compose_podAt, if_pos rfl, (composed_keeps _ _).2.2]
          exact hblink
        · simp [hn] at hm
    · rename_i hp
      exact ⟨hblink, fun h => by (cases h), fun _ hpres => absurd hpres hp⟩

theorem lineStandby_dark (u : Room) (l k : LineNo) (b : Bool) :
    ((u.lineStandby l b).line k).dark = if k = l then b else (u.line k).dark := by
  have hset : ((u.setDark l b).line k).dark = if k = l then b else (u.line k).dark := by
    by_cases hk : k = l
    · subst hk
      simp [Room.setDark, Room.line]
    · simp [Room.setDark, Room.line, Ne.symm hk, hk]
  rw [← hset]
  exact get_of_map_eq (foldl_keeps (π := fun v : Room => v.lines.map Line.dark) _ (fun v p => by simp) allPositions _) k

theorem lineStandby_ne (u : Room) (l : LineNo) (b : Bool) {q : PodPos} (h : q.line ≠ l) :
    (u.lineStandby l b).podAt q = u.podAt q := by
  have hset : (u.setDark l b).podAt q = u.podAt q := by
    simp [Room.setDark, Room.podAt, Ne.symm h]
  rw [← hset]
  exact foldl_keeps (π := fun v : Room => v.podAt q) _ (fun v p => standbyPod_ne v b (by rintro rfl; exact h rfl))
    allPositions _

theorem lineStandby_dusked (u : Room) (l : LineNo) (b : Bool) (p : Pos) : Dusked b ⟨l, p⟩ (u.lineStandby l b) := by
  have hkey : ∀ (ps : List Pos) (v : Room), (v.line l).dark = b → p ∈ ps ∨ Dusked b ⟨l, p⟩ v →
      Dusked b ⟨l, p⟩ (ps.foldl (fun r q => r.standbyPod b ⟨l, q⟩) v) := by
    intro ps
    induction ps with
    | nil =>
      intro v _ h
      exact h.resolve_left (by simp)
    | cons q ps ih =>
      intro v hdark h
      rw [List.foldl_cons]
      refine ih _ ((standbyPod_line v b _ l).trans hdark) ?_
      by_cases hq : q = p
      · subst hq
        exact .inr (standbyPod_dusked v b ⟨l, q⟩ hdark)
      · rcases h with h | h
        · exact .inl ((List.mem_cons.1 h).resolve_left (Ne.symm hq))
        · refine .inr (h.same ⟨standbyPod_ne v b (by simp [hq]), standbyPod_line v b _ _, ?_, ?_, ?_⟩) <;> simp
  refine hkey allPositions _ ?_ (.inl (mem_allPositions p))
  simp [Room.setDark, Room.line]

theorem line_cases (l : LineNo) : l = 0 ∨ l = 1 := by
  revert l
  decide

/-- Both lines enter or leave standby. -/
theorem lines_dusked (u : Room) (b : Bool) (p : PodPos) : Dusked b p ((u.lineStandby 0 b).lineStandby 1 b) := by
  obtain ⟨l, p⟩ := p
  rcases line_cases l with rfl | rfl
  · refine (lineStandby_dusked u 0 b p).same ⟨lineStandby_ne _ 1 b (by simp), ?_, by simp, by simp, by simp⟩
    rw [lineStandby_dark, if_neg (by simp)]
  · exact lineStandby_dusked _ 1 b p

theorem lines_dark (u : Room) (b : Bool) : ((u.lineStandby 0 b).lineStandby 1 b).lines.map Line.dark = Tab.fill 2 b := by
  apply Tab.ext_get
  intro k
  rw [Tab.get_map, Tab.get_fill]
  show (((u.lineStandby 0 b).lineStandby 1 b).line k).dark = b
  rw [lineStandby_dark, lineStandby_dark]
  rcases line_cases k with rfl | rfl
  · rfl
  · rfl

end Sys2Proof.Machine.PodLines
end

section
/-! CALL_SET, CALL_WAKE and STANDBY_TIMER_EXPIRY (R87, R93, R110, R123, R128, R129, R153 to R157). -/

namespace Sys2Proof.Machine.PodLines

variable {P : Leave} {r t u : Room}

/-! ## The floor wakes (R93, R110) -/

/-- In OPEN mode a seat that becomes admissible is opened, and no other seat changes. -/
theorem becomeAdmissible_opened (u : Room) (hmode : u.floor.settings.mode = .opened) (m n : Seat) :
    ((u.becomeAdmissible m).fseat n).presence = (u.fseat n).presence
      ∧ ((u.becomeAdmissible m).fseat n).muted = (u.fseat n).muted
      ∧ ((u.becomeAdmissible m).fseat n).gate
        = if m = n ∧ (u.fseat n).gate = .closed ∧ u.floor.admissible n = true then .opened else (u.fseat n).gate := by
  unfold Room.becomeAdmissible
  rw [hmode]
  by_cases hjoins : Joins u m
  · obtain ⟨hadm, hgate⟩ := hjoins
    have hnot : ¬ (!u.floor.admissible m || (u.fseat m).gate ≠ .closed) = true := by simp [hadm, hgate]
    rw [if_neg hnot, admitSeat_fseat]
    by_cases hmn : m = n
    · subst hmn
      rw [if_pos rfl, if_pos ⟨rfl, hgate, hadm⟩]
      exact ⟨rfl, rfl, rfl⟩
    · rw [if_neg hmn, if_neg fun h => hmn h.1]
      exact ⟨rfl, rfl, rfl⟩
  · have hsome : (!u.floor.admissible m || (u.fseat m).gate ≠ .closed) = true := by
      simp only [Joins, not_and] at hjoins
      cases hadm : u.floor.admissible m
      · simp
      · simp [hjoins hadm]
    rw [if_pos hsome, if_neg]
    · exact ⟨rfl, rfl, rfl⟩
    · rintro ⟨rfl, hgate, hadm⟩
      exact hjoins ⟨hadm, hgate⟩

theorem admissible_iff (u : Room) (n : Seat) (hrest : u.floor.standby = false) :
    u.floor.admissible n = true ↔ (u.fseat n).presence = .present ∧ (u.fseat n).muted = false := by
  simp [Floor.admissible, hrest, Room.fseat]

/-- The gate of a seat in OPEN mode once some seats have become admissible. -/
theorem admissibleAll_opened (l : List Seat) (u : Room) (hmode : u.floor.settings.mode = .opened)
    (hrest : u.floor.standby = false) (n : Seat) :
    ((l.foldl Room.becomeAdmissible u).fseat n).gate
      = if n ∈ l ∧ (u.fseat n).gate = .closed ∧ (u.fseat n).presence = .present ∧ (u.fseat n).muted = false then .opened
        else (u.fseat n).gate := by
  induction l generalizing u with
  | nil => simp
  | cons m l ih =>
    obtain ⟨hpres, hmuted, hgate⟩ := becomeAdmissible_opened u hmode m n
    have hmode' : (u.becomeAdmissible m).floor.settings.mode = .opened := by simp [hmode]
    have hrest' : (u.becomeAdmissible m).floor.standby = false := by simp [hrest]
    rw [List.foldl_cons, ih _ hmode' hrest', hpres, hmuted, hgate]
    simp only [admissible_iff u n hrest, List.mem_cons]
    by_cases hc : (u.fseat n).gate = .closed ∧ (u.fseat n).presence = .present ∧ (u.fseat n).muted = false
    · by_cases hm : m = n
      · simp [hm, hc]
      · simp [hm, Ne.symm hm, hc]
    · by_cases hm : m = n
      · subst hm
        simp only [hc, and_false, if_false]
      · simp [hm, Ne.symm hm]

/-- The floor out of standby or in it, its notices to follow. -/
def floorStands (b : Bool) (u : Room) : Room := { u with floor := { u.floor with standby := b } }

theorem floorWake_eq (u : Room) :
    u.floorWake = (allSeats.foldl Room.becomeAdmissible (floorStands false u)).floorFill.floorFinish := rfl

theorem floorRest_eq (u : Room) :
    u.floorRest = ((floorStands true u).closeAll allSeats .standby).floorFill.floorFinish := rfl

/-- The floor as it wakes, in OPEN mode. -/
theorem floorWake_opened (u : Room) (hmode : u.floor.settings.mode = .opened) (n : Seat)
    (hgate : (u.fseat n).gate = .closed) :
    ((u.floorWake).fseat n).gate
      = if (u.fseat n).presence = .present ∧ (u.fseat n).muted = false then .opened else .closed := by
  have hall := admissibleAll_opened allSeats (floorStands false u) hmode rfl n
  have hkeeps := Room.admissibleAll_keeps (floorStands false u) allSeats
  have hvmode := (congrArg FloorSettings.mode hkeeps.2.2.2.2.2.1).trans hmode
  rw [floorWake_eq]
  generalize allSeats.foldl Room.becomeAdmissible (floorStands false u) = v at hall hvmode
  have hfill : v.floorFill = v := by
    unfold Room.floorFill
    rw [hvmode]
    split <;> rfl
  have hseat : v.floorFinish.fseat n = v.fseat n := congrArg (fun x => Tab.get x n) (floorFinish_floor v).1
  have hsame : (floorStands false u).fseat n = u.fseat n := rfl
  rw [hfill, hseat, hall, hsame]
  simp only [mem_allSeats, hgate, true_and]

/-! ## The floor at rest (R87, R110, R123) -/

/-- Some seats closed: each is CLOSED, its component with it, and nothing else moves. -/
theorem closeAll_seat (l : List Seat) (u : Room) (why : Reason) (n : Seat) :
    ((u.closeAll l why).fseat n).gate = (if n ∈ l then .closed else (u.fseat n).gate)
      ∧ (u.closeAll l why).mix.comp (.gate n)
        = if n ∈ l ∧ (u.fseat n).gate.isOpen = true then
            (u.mix.comp (.gate n)).aimed .off u.floor.settings.release
          else u.mix.comp (.gate n) := by
  unfold Room.closeAll
  induction l generalizing u with
  | nil => simp
  | cons m l ih =>
    rw [List.foldl_cons]
    obtain ⟨hgate, hcomp⟩ := ih (u.closeSeat m why)
    have hone := closeSeat_comp u m why (.gate n)
    have hset : (u.closeSeat m why).floor.settings = u.floor.settings := by simp
    have hseat : ((u.closeSeat m why).fseat n).gate = if m = n then .closed else (u.fseat n).gate := by
      by_cases hclosed : (u.fseat m).gate = .closed
      · rw [closeSeat_idle u m why hclosed]
        split
        · rename_i hm
          rw [← hm, hclosed]
        · rfl
      · rw [closeSeat_fseat u m n why hclosed]
        split <;> rfl
    rw [hgate, hcomp, hseat, hone, hset]
    by_cases hm : m = n
    · subst hm
      simp [GateState.isOpen]
    · have hm' : ¬ n = m := Ne.symm hm
      simp [hm, hm']

theorem move_countIn (u : Room) (id : CompId) (g : Gain) (ms : Nat) : (u.move id g ms).mix.countIn = u.mix.countIn := by
  unfold Room.move
  dsimp only
  split
  · rfl
  · cases id <;> rfl

theorem ramp_countIn (u : Room) (id : CompId) (g : Gain) (ms : Nat) : (u.ramp id g ms).mix.countIn = u.mix.countIn := by
  rw [show (u.ramp id g ms).mix = (u.move id g ms).mix from (Room.judge_keeps _).2.2.2.2.1, move_countIn]

/-- What closing seats leaves of the rest of the floor and of the mix. -/
theorem closeAll_rest (l : List Seat) (u : Room) (why : Reason) :
    (u.closeAll l why).floor.lastCount = u.floor.lastCount ∧ (u.closeAll l why).mix.countIn = u.mix.countIn
      ∧ (u.closeAll l why).mix.openCount = u.mix.openCount := by
  have hone : ∀ (v : Room) (n : Seat), (v.closeSeat n why).floor.lastCount = v.floor.lastCount
      ∧ (v.closeSeat n why).mix.countIn = v.mix.countIn ∧ (v.closeSeat n why).mix.openCount = v.mix.openCount := by
    intro v n
    refine ⟨?_, ?_, ?_⟩
    · by_cases hclosed : (v.fseat n).gate = .closed
      · rw [closeSeat_idle v n why hclosed]
      · rw [closeSeat_floor v n why hclosed]
        rfl
    · unfold Room.closeSeat
      dsimp only
      split
      · rfl
      · split <;> split <;> simp [Room.mixGate]
    · have hcomp := closeSeat_comp v n why .openCount
      rwa [if_neg (by simp)] at hcomp
  unfold Room.closeAll
  have hfold := foldl_keeps (π := fun v : Room => (v.floor.lastCount, v.mix.countIn, v.mix.openCount))
    (fun (v : Room) n => v.closeSeat n why) (fun v n => by
      obtain ⟨h1, h2, h3⟩ := hone v n
      rw [h1, h2, h3]) l u
  simpa only [Prod.mk.injEq] using hfold

/-- The end of a floor event sends an open count that has changed (R87, R128). -/
theorem floorFinish_count (u : Room) :
    u.floorFinish.floor.lastCount = u.floor.count
      ∧ if u.floor.count = u.floor.lastCount then
          u.floorFinish.mix.countIn = u.mix.countIn ∧ u.floorFinish.mix.openCount = u.mix.openCount
        else u.floorFinish.mix.countIn = u.floor.count
          ∧ u.floorFinish.mix.openCount = u.mix.openCount.aimed (.db (openCountLoss u.floor.count)) 50 := by
  have hquiet : ∀ (v : Room) (q : Bool), let w := if q = v.floor.quietSaid then v
      else { v with floor := { v.floor with quietSaid := q }, box := v.box ++ [q] }
      w.floor.lastCount = v.floor.lastCount ∧ w.mix = v.mix := by
    intro v q
    dsimp only
    split <;> exact ⟨rfl, rfl⟩
  unfold Room.floorFinish
  dsimp only
  by_cases hcount : u.floor.count = u.floor.lastCount
  · simp only [if_pos hcount]
    obtain ⟨hlast, hmix⟩ := hquiet u u.quietNow
    rw [hmix, hlast]
    exact ⟨hcount.symm, rfl, rfl⟩
  · simp only [if_neg hcount]
    generalize hv : Room.mixCount _ u.floor.count = v
    obtain ⟨hlast, hmix⟩ := hquiet v v.quietNow
    rw [hmix, hlast, ← hv]
    refine ⟨by simp, ?_, ?_⟩
    · rw [Room.mixCount, ramp_countIn]
    · have hcomp := mixCount_comp { u with floor := { u.floor with lastCount := u.floor.count } } u.floor.count .openCount
      exact hcomp.trans (if_pos rfl)

/-- What the standby entry notice leaves of the seats, from the room before it. -/
structure Rested (r t : Room) : Prop where
  shut : ∀ n, (t.fseat n).gate = .closed
  gates : ∀ n, (r.fseat n).gate.isOpen = true → GateReachesMix r t n false
  count : CountReachesMix r t

theorem floorRest_rested (u : Room) : Rested u u.floorRest := by
  have hseats := fun n => closeAll_seat allSeats (floorStands true u) .standby n
  obtain ⟨hlast, hcount, hopen⟩ := closeAll_rest allSeats (floorStands true u) .standby
  have hrest : ((floorStands true u).closeAll allSeats .standby).floor.standby = true := by simp [floorStands]
  rw [floorRest_eq]
  generalize (floorStands true u).closeAll allSeats .standby = v at *
  have hfill : v.floorFill = v := if_pos hrest
  rw [hfill]
  have hfloor := (floorFinish_floor v).1
  have hfseat : ∀ n, v.floorFinish.fseat n = v.fseat n := fun n => congrArg (fun x => Tab.get x n) hfloor
  refine ⟨fun n => ?_, fun n hn => ?_, ?_⟩
  · rw [hfseat, (hseats n).1, if_pos (mem_allSeats n)]
  · have hcomp := (hseats n).2
    rw [if_pos ⟨mem_allSeats n, hn⟩] at hcomp
    exact (floorFinish_comp v (.gate n) (by simp)).trans hcomp
  · obtain ⟨hsent, hmix⟩ := floorFinish_count v
    have hsame : v.floor.count = allSeats.countP fun n => (v.floorFinish.fseat n).gate.isOpen := by
      simp only [hfseat]
      rfl
    rw [hlast, hcount, hopen, hsame] at hmix
    rw [hsame] at hsent
    exact ⟨hsent, hmix⟩

/-! ## The mix at rest (R129, R134) -/

theorem fadeTones_comp (u : Room) (j : CompId) (hj : ∀ n, j ≠ .envelope n) : u.fadeTones.mix.comp j = u.mix.comp j := by
  unfold Room.fadeTones
  refine foldl_keeps (π := fun v : Room => v.mix.comp j) Room.fadeTone (fun v n => ?_) allSeats u
  unfold Room.fadeTone
  split
  · rw [move_comp, if_neg (Ne.symm (hj n))]
  · rfl

theorem fadeTones_countIn (u : Room) : u.fadeTones.mix.countIn = u.mix.countIn := by
  unfold Room.fadeTones
  refine foldl_keeps (π := fun v : Room => v.mix.countIn) Room.fadeTone (fun v n => ?_) allSeats u
  unfold Room.fadeTone
  split
  · exact move_countIn ..
  · rfl

theorem mixRest_comp (u : Room) (j : CompId) (hj : ∀ n, j ≠ .envelope n) :
    u.mixRest.mix.comp j
      = if .standby = j then (u.mix.comp j).aimed .off u.mix.settings.muteRamp else u.mix.comp j := by
  unfold Room.mixRest
  rw [judge_comp, fadeTones_comp _ j hj, move_comp]
  cases j <;> rfl

theorem mixRest_countIn (u : Room) : u.mixRest.mix.countIn = u.mix.countIn := by
  unfold Room.mixRest
  rw [(Room.judge_keeps _).2.2.2.2.1, fadeTones_countIn, move_countIn]

theorem mixRest_standby (u : Room) : u.mixRest.mix.standby = true := by
  unfold Room.mixRest
  simp

theorem mixWake_standby (u : Room) : u.mixWake.mix.standby = false := by
  unfold Room.mixWake
  simp

theorem mixWake_comp (u : Room) :
    u.mixWake.mix.standbyComp = u.mix.standbyComp.aimed (.db 0) u.mix.settings.muteRamp :=
  (ramp_comp { u with mix := { u.mix with standby := false } } .standby .standby (.db 0) u.muteRamp).trans (if_pos rfl)

/-! ## The room wakes (R155) -/

/-- What stands of a room whose standby alone has turned. -/
theorem standing_turned (b : Bool) (c : CallSt) (hmap : t.map.running = r.map.running ∧ t.map.staged = r.map.staged
      ∧ t.map.groups = r.map.groups ∧ t.map.switch = r.map.switch ∧ t.map.waitLimit = r.map.waitLimit)
    (hlines : t.lines.map Line.facts = r.lines.map Line.facts) (hdark : t.lines.map Line.dark = Tab.fill 2 b)
    (hdet : t.det.map Detector.settings = r.det.map Detector.settings) (hmute : t.mute = r.mute)
    (hfloor : t.floor.settings = r.floor.settings ∧ t.floor.standby = b)
    (hmix : t.mix.settings = r.mix.settings ∧ t.mix.standby = b)
    (hlink : t.link.links = r.link.links ∧ t.link.call = c ∧ t.link.delay = r.link.delay) (hfb : t.fb = r.fb)
    (hstore : t.store = r.store) :
    t.standing = { r.standing with call := c, floorStandby := b, mixStandby := b, dark := Tab.fill 2 b } := by
  obtain ⟨m1, m2, m3, m4, m5⟩ := hmap
  simp only [Room.standing, m1, m2, m3, m4, m5, hlines, hdark, hdet, hmute, hfloor, hmix, hlink, hfb, hstore]

/-- A leave to wake the floor. -/
def wakeLeave : Leave where
  touch _ := False
  trip _ := False
  flag _ _ _ := False
  close _ := True
  pod _ := False
  move _ := False
  mute := False
  claim := False
  rest := False
  swap := False

theorem floorWake_steps (u : Room) : Steps wakeLeave (floorStands false u) u.floorWake := by
  rw [floorWake_eq]
  exact ((Steps.refl _).foldl allSeats fun n _ _ g => g.becomeAdmissible n fun _ => trivial).floorFill.then .finish

/-- What the room is as it wakes (R34, R38, R110, R129, R153, R155). -/
structure Woken (r t : Room) (new : CallSt) : Prop where
  stands : t.standing = { r.standing with call := new, floorStandby := false, mixStandby := false, dark := Tab.fill 2 false }
  timer : new = .idle → t.link.timer = delayTimer r.link.delay
  mix : StandbyReachesMix r t true
  pods : ∀ p, (t.podAt p).facts = (r.podAt p).facts ∧ Dusked false p t
  opened : r.floor.settings.mode = .opened → ∀ n, (r.fseat n).gate = .closed →
    (t.fseat n).gate = if (r.fseat n).presence = .present ∧ (r.fseat n).muted = false then .opened else .closed

theorem Woken.call {new : CallSt} (h : Woken r t new) : t.link.call = new := congrArg Standing.call h.stands

theorem wake_eq (u : Room) (new : CallSt) (cause : CallCause) (i : Nat) :
    u.wake new cause i = (((u.setCall new cause i).floorWake.mixWake).lineStandby 0 false).lineStandby 1 false := rfl

theorem wake_woken (u : Room) (new : CallSt) (cause : CallCause) (i : Nat) : Woken u (u.wake new cause i) new := by
  have hkeeps := u.wake_keeps new cause i
  have hfacts : (u.wake new cause i).lines.map Line.facts = u.lines.map Line.facts := by simp
  have hsteps := floorWake_steps (u.setCall new cause i)
  have hrest : (u.setCall new cause i).floorWake.floor.standby = false := hsteps.rest_kept id |>.floor
  have hcall : (u.setCall new cause i).floorWake.link.call = new := by
    rw [(hsteps.rest_kept id).call]
    rfl
  have htimed : Timed (u.setCall new cause i).floorWake := hsteps.timed id (by
    intro hnew
    exact if_pos hnew)
  have hcomp : (u.setCall new cause i).floorWake.mix.standbyComp = u.mix.standbyComp :=
    hsteps.comp_kept .standby trivial id
  have hset : (u.setCall new cause i).floorWake.mix.settings = u.mix.settings := by simp
  have hopened := floorWake_opened (u.setCall new cause i)
  refine ⟨?_, fun hnew => ?_, ⟨?_, ?_⟩, fun p => ⟨pod_facts hfacts p, ?_⟩, fun hmode n hn => ?_⟩
  · refine standing_turned false new ⟨by simp, by simp, by simp, by simp, by simp⟩ hfacts ?_ (by simp) (by simp)
      ⟨by simp, ?_⟩ ⟨by simp, ?_⟩ ⟨by simp, ?_, by simp⟩ (by simp) (by simp)
    · rw [wake_eq, lines_dark]
    · rw [wake_eq]
      simpa using hrest
    · rw [wake_eq]
      simpa using mixWake_standby _
    · rw [wake_eq]
      simpa using hcall
  · have hdelay : (u.setCall new cause i).floorWake.link.delay = u.link.delay := by simp
    have htimer := htimed (hcall.trans hnew)
    rw [hdelay] at htimer
    rw [wake_eq]
    simpa using htimer
  · rw [wake_eq]
    simpa using mixWake_standby _
  · have hwake := mixWake_comp (u.setCall new cause i).floorWake
    rw [hcomp, hset] at hwake
    rw [wake_eq]
    simpa [heldUp] using hwake
  · rw [wake_eq]
    exact lines_dusked _ false p
  · have hgate := hopened hmode n hn
    have hseat : (u.wake new cause i).fseat n = (u.setCall new cause i).floorWake.fseat n := by simp [wake_eq, Room.fseat]
    rw [hseat]
    exact hgate

theorem wake_told (u : Room) (new : CallSt) (cause : CallCause) (i : Nat) :
    u.out ++ [.callStateEv i new u.link.call cause] <+: (u.wake new cause i).out := by
  have hcall : u.out ++ [.callStateEv i new u.link.call cause] <+: (u.setCall new cause i).out := List.prefix_rfl
  rw [wake_eq]
  generalize u.setCall new cause i = v at hcall
  have hfloor : v.out <+: v.floorWake.out := by simp (maxDischargeDepth := 30) -implicitDefEqProofs
  simpa using hcall.trans hfloor

/-! ## The room enters standby (R154) -/

theorem enterStandby_eq (u : Room) :
    u.enterStandby
      = (((u.setCall .standby .delay 0).floorRest.mixRest).lineStandby 0 true).lineStandby 1 true := rfl

/-- What the room is in standby (R38, R87, R110, R123, R128, R129, R154). -/
structure AtRest (r t : Room) : Prop where
  stands : t.standing = { r.standing with call := .standby, floorStandby := true, mixStandby := true, dark := Tab.fill 2 true }
  timer : t.link.timer = none
  mix : StandbyReachesMix r t false
  floor : Rested r t
  pods : ∀ p, (t.podAt p).facts = (r.podAt p).facts ∧ Dusked true p t

theorem rested_later {v w : Room} (h : Rested u v) (hfloor : w.floor = v.floor)
    (hgate : ∀ n, w.mix.comp (.gate n) = v.mix.comp (.gate n)) (hcount : w.mix.countIn = v.mix.countIn)
    (hopen : w.mix.comp .openCount = v.mix.comp .openCount) : Rested u w := by
  have hopen : w.mix.openCount = v.mix.openCount := hopen
  have hseat : ∀ n, w.fseat n = v.fseat n := fun n => by rw [Room.fseat, hfloor]; rfl
  obtain ⟨hshut, hgates, hsent, hsame⟩ := h
  refine ⟨fun n => by rw [hseat]; exact hshut n, fun n hn => (hgate n).trans (hgates n hn), ?_, ?_⟩
  · simp only [hseat, hfloor]
    exact hsent
  · simp only [hseat, hcount, hopen]
    exact hsame

theorem floorRest_standby (u : Room) : u.floorRest.floor.standby = true := by
  rw [floorRest_eq]
  simp [floorStands]

/-- A leave to rest the floor. -/
theorem floorRest_steps (u : Room) : Steps wakeLeave (floorStands true u) u.floorRest := by
  rw [floorRest_eq]
  exact ((Steps.refl _).closeAll allSeats .standby fun _ => trivial).floorFill.then .finish

theorem floorRest_link (u : Room) : u.floorRest.link = u.link := by
  have hrest : ((floorStands true u).closeAll allSeats .standby).floor.standby = true := by simp [floorStands]
  rw [floorRest_eq, show ∀ v : Room, v.floor.standby = true → v.floorFill = v from fun v h => if_pos h]
  · simp [floorStands]
  · exact hrest

theorem enterStandby_rest (u : Room) : AtRest u u.enterStandby := by
  have hfacts : u.enterStandby.lines.map Line.facts = u.lines.map Line.facts := by simp
  have hset : (u.setCall .standby .delay 0).floorRest.mix.settings = u.mix.settings := by simp
  have hcomp : (u.setCall .standby .delay 0).floorRest.mix.standbyComp = u.mix.standbyComp :=
    (floorRest_steps _).comp_kept .standby trivial id
  have hlink := floorRest_link (u.setCall .standby .delay 0)
  have hcallSet : (u.setCall .standby .delay 0).link.call = .standby ∧ (u.setCall .standby .delay 0).link.timer = none :=
    ⟨rfl, rfl⟩
  have hrested : Rested u (u.setCall .standby .delay 0).floorRest := by
    obtain ⟨hshut, hgates, hcount⟩ := floorRest_rested (u.setCall .standby .delay 0)
    exact ⟨hshut, hgates, hcount⟩
  refine ⟨?_, ?_, ⟨?_, ?_⟩, ?_, fun p => ⟨pod_facts hfacts p, ?_⟩⟩
  · refine standing_turned true .standby ⟨by simp, by simp, by simp, by simp, by simp⟩ hfacts ?_ (by simp) (by simp)
      ⟨by simp, ?_⟩ ⟨by simp, ?_⟩ ⟨by simp, ?_, by simp⟩ (by simp) (by simp)
    · rw [enterStandby_eq, lines_dark]
    · rw [enterStandby_eq]
      simpa using floorRest_standby _
    · rw [enterStandby_eq]
      simpa using mixRest_standby _
    · rw [enterStandby_eq]
      simpa [hlink] using hcallSet.1
  · rw [enterStandby_eq]
    simpa [hlink] using hcallSet.2
  · rw [enterStandby_eq]
    simpa using mixRest_standby _
  · have hrest := mixRest_comp (u.setCall .standby .delay 0).floorRest .standby fun n => by simp
    rw [if_pos rfl, hset] at hrest
    have hrest : (u.setCall .standby .delay 0).floorRest.mixRest.mix.standbyComp = _ := hrest
    rw [show Mix.comp (u.setCall .standby .delay 0).floorRest.mix .standby = u.mix.standbyComp from hcomp] at hrest
    rw [enterStandby_eq]
    simpa [heldUp] using hrest
  · rw [enterStandby_eq]
    refine rested_later hrested (by simp) (fun n => ?_) ?_ ?_
    · have hgate := mixRest_comp (u.setCall .standby .delay 0).floorRest (.gate n) fun m => by simp
      rw [if_neg (by simp)] at hgate
      simpa using hgate
    · simpa using mixRest_countIn (u.setCall .standby .delay 0).floorRest
    · have hopen := mixRest_comp (u.setCall .standby .delay 0).floorRest .openCount fun m => by simp
      rw [if_neg (by simp)] at hopen
      simpa using hopen
  · rw [enterStandby_eq]
    exact lines_dusked _ true p

theorem enterStandby_told (u : Room) :
    u.out ++ [.callStateEv 0 .standby u.link.call .delay] <+: u.enterStandby.out := by
  have hcall : u.out ++ [.callStateEv 0 .standby u.link.call .delay] <+: (u.setCall .standby .delay 0).out := List.prefix_rfl
  rw [enterStandby_eq]
  generalize u.setCall .standby .delay 0 = v at hcall
  have hfloor : v.out <+: v.floorRest.out := by simp (maxDischargeDepth := 30) -implicitDefEqProofs
  simpa using hcall.trans hfloor

/-! ## The three commands -/

/-- With no switch pending what settling leaves of a record, a view and the standing part is what stood. -/
theorem settle_sight (u : Room) (h : u.map.switch = none) (p : PodPos) : SameSight p u u.settle.sent := by
  obtain ⟨hlines, hmute, hfloor, _, _, _, _, _, hrun, _⟩ := Room.settle_calm_keeps u h
  exact ⟨podAt_of_lines hlines p, congrArg (fun x => (Tab.get x p.line).dark) hlines, hrun, hfloor, hmute⟩

/-- What settling leaves as it stands, with no switch pending. -/
theorem settle_standing (u : Room) (h : u.map.switch = none) : u.settle.sent.standing = u.standing := by
  obtain ⟨k1, k2, k3, k4, k5, k6, k7, _, k9, k10, k11, k12, k13, k14⟩ := Room.settle_calm_keeps u h
  simp only [Room.standing, Room.sent, k1, k2, k3, k4, k5, k6, k7, k9, k10, k11, k12, k13, k14]

/-- Events that begin with one. -/
theorem eq_cons_of_prefix {e : Event} {l : List Event} (h : [e] <+: l) : ∃ es, l = e :: es := by
  obtain ⟨es, rfl⟩ := h
  exact ⟨es, rfl⟩

theorem callSet_eq (r : Room) (delay : Byte) (h : delay.toNat ≤ 120) :
    reqCallSet [delay] r = (r.setDelay delay.toNat, okWith [r.link.call.byte]) := by
  unfold reqCallSet
  simp only [within_some (Nat.zero_le _) h]

theorem seconds_eq (u : LinkUnit) : u.seconds = (u.timer.getD 0 + 999) / 1000 := rfl

theorem seconds_delay (d : Nat) : ((delayTimer d).getD 0 + 999) / 1000 = d * 60 := by
  unfold delayTimer
  split
  · simp [*]
  · simp only [Option.getD_some]
    omega

/-- Settles O52: the notices of waking and of standby one after the other, by `wake_woken` and `enterStandby_rest`. -/
theorem callSetWakeAndStandby : Obligations.CallSetWakeAndStandby := by
  unfold Obligations.CallSetWakeAndStandby
  refine ⟨fun s tag ⟨hs, hcalm⟩ => ⟨fun delay hd => ?_, fun delay hd => ?_, fun hcall => ?_, fun hcall => ?_, fun hcall => ?_⟩,
    fun s ⟨⟨hheld, hsettled⟩, hcalm⟩ => ⟨fun hnone => ?_, fun hsome hcall => ?_⟩⟩
  · have hact := State.request_replied s hs .callSet tag _ reqCallSet (fun _ => rfl) (callSet_eq s.room delay hd)
    have hsame : (s.room.setDelay delay.toNat).Settled := hs.2.2.2.2.2.2
    rw [Room.settle_settled _ hsame, Room.sent_settled _ hsame, hsame.1] at hact
    exact congrArg _ hact
  · exact request_refused hs .callSet tag _ reqCallSet (fun _ => rfl)
      (by simp [reqCallSet, within_none (lo := 0) (Or.inr hd)])
  · have hwake : s.room.callWake = { s.room with link := { s.room.link with timer := delayTimer s.room.link.delay } } := by
      simp [Room.callWake, Room.activity, hcall]
    have hreq : reqCallWake [] s.room = (s.room.callWake, okWith (0 :: bytes2 (s.room.link.delay * 60))) := by
      simp only [reqCallWake]
      rw [hwake, seconds_eq, seconds_delay]
      simp only [hcall]
      rfl
    have hact := State.request_replied s hs .callWake tag _ reqCallWake (fun _ => rfl) hreq
    have hsame : (s.room.callWake).Settled := by
      rw [hwake]
      exact hs.2.2.2.2.2.2
    rw [Room.settle_settled _ hsame, Room.sent_settled _ hsame, hsame.1] at hact
    exact ⟨_, congrArg _ hact, hwake⟩
  · have hwake : s.room.callWake = s.room := by simp [Room.callWake, Room.activity, hcall]
    refine request_reads hs .callWake tag _ reqCallWake (fun _ => rfl) (data := 1 :: bytes2 s.room.link.seconds) ?_ rfl
    simp only [reqCallWake]
    rw [hwake, hcall]
    rfl
  · have hwake : s.room.callWake = s.room.wake .idle .request 0 := by simp [Room.callWake, hcall]
    have hwoken := wake_woken s.room .idle .request 0
    have htold := wake_told s.room .idle .request 0
    have hlink : (s.room.wake .idle .request 0).link.call = .idle := hwoken.call
    have hreq : reqCallWake [] s.room
        = (s.room.wake .idle .request 0, okWith (0 :: bytes2 (s.room.link.delay * 60))) := by
      simp only [reqCallWake]
      rw [hwake, seconds_eq, hwoken.timer rfl, seconds_delay, hlink]
      rfl
    have hact := State.request_replied s hs .callWake tag _ reqCallWake (fun _ => rfl) hreq
    have hswitch : (s.room.wake .idle .request 0).map.switch = none := by simpa using hcalm
    rw [hs.2.2.2.2.2.2.1, hcall, List.nil_append] at htold
    generalize s.room.wake .idle .request 0 = u at hact hwoken htold hswitch
    obtain ⟨hlines, hmute, hfloor, hmix, hlinks, _, _, hout, _⟩ := Room.settle_calm_keeps u hswitch
    obtain ⟨es, hes⟩ := eq_cons_of_prefix htold
    rw [hout, hes] at hact
    refine ⟨es, _, congrArg _ hact, (settle_standing u hswitch).trans hwoken.stands, ?_, ?_, fun p => ?_,
      fun p n hp hn => ?_, fun hmode n hn => ?_⟩
    · exact (congrArg LinkUnit.timer hlinks).trans (hwoken.timer rfl)
    · obtain ⟨hstandby, hcomp⟩ := hwoken.mix
      exact ⟨(congrArg Mix.standby hmix).trans hstandby, (congrArg Mix.standbyComp hmix).trans hcomp⟩
    · obtain ⟨hfacts, hdusk⟩ := hwoken.pods p
      have hsight := settle_sight u hswitch p
      exact ⟨(congrArg Pod.facts hsight.pod).trans hfacts, (hdusk.same hsight).blink⟩
    · obtain ⟨hfacts, hdusk⟩ := hwoken.pods p
      have hsight := settle_sight u hswitch p
      have hrun : u.map.running = s.room.map.running := congrArg Standing.running hwoken.stands
      have hpres : (u.settle.sent.podAt p).present = true := by
        rw [hsight.pod]
        exact (present_of_facts hfacts).trans hp
      obtain ⟨hshows, hview⟩ := (hdusk.same hsight).lit rfl hpres
      refine ⟨hview n ?_, hshows⟩
      rw [hsight.map, hrun]
      exact hn
    · have hseat : u.settle.sent.fseat n = u.fseat n := congrArg (fun f : Floor => f.seats.get n) hfloor
      rw [hseat]
      exact hwoken.opened hmode n hn
  · have hsame : s.room.standbyExpiry = s.room := by simp [Room.standbyExpiry, hnone]
    exact congrArg _ (act_of_settled (f := Room.standbyExpiry) hheld hsame hsettled)
  · have hexpiry : s.room.standbyExpiry = s.room.enterStandby := by simp [Room.standbyExpiry, hsome, hcall]
    have hact := State.act_awake s hheld Room.standbyExpiry
    rw [hexpiry] at hact
    have hrest := enterStandby_rest s.room
    have htold := enterStandby_told s.room
    have hswitch : s.room.enterStandby.map.switch = none := by simpa using hcalm
    rw [hsettled.1, hcall, List.nil_append] at htold
    generalize s.room.enterStandby = u at hact hrest htold hswitch
    obtain ⟨hlines, hmute, hfloor, hmix, hlinks, _, _, hout, _⟩ := Room.settle_calm_keeps u hswitch
    obtain ⟨es, hes⟩ := eq_cons_of_prefix htold
    rw [hout, hes] at hact
    have hrested : Rested s.room u.settle.sent :=
      rested_later hrest.floor hfloor (fun n => congrArg (fun m : Mix => m.comp (.gate n)) hmix) (congrArg Mix.countIn hmix)
        (congrArg (fun m : Mix => m.comp .openCount) hmix)
    refine ⟨es, _, congrArg _ hact, (congrArg LinkUnit.timer hlinks).trans hrest.timer, ?_,
      fun n => ⟨hrested.shut n, hrested.gates n⟩, hrested.count, fun p => ?_, (settle_standing u hswitch).trans hrest.stands⟩
    · obtain ⟨hstandby, hcomp⟩ := hrest.mix
      exact ⟨(congrArg Mix.standby hmix).trans hstandby, (congrArg Mix.standbyComp hmix).trans hcomp⟩
    · obtain ⟨hfacts, hdusk⟩ := hrest.pods p
      have hsight := settle_sight u hswitch p
      have hdusk := hdusk.same hsight
      exact ⟨(congrArg Pod.facts hsight.pod).trans hfacts, hdusk.blink, hdusk.shut rfl⟩

end Sys2Proof.Machine.PodLines
end

section
/-! The parts of an upstream frame as chains (R24, R25, R28 to R34, R43): presses, privacy switches, samples, answers and
slot checks. -/

namespace Sys2Proof.Machine.PodLines

/-! ## Presses -/

/-- What the presses of a seat ask of a leave. -/
structure Leave.Presses (P : Leave) (n : Seat) : Prop where
  touch : P.touch n
  flag : ∀ a b : FlagFacts, b.privacy = a.privacy → b.feedback = a.feedback → b.presence = a.presence → P.flag n a b

/-- What the privacy switch of a seat asks of a leave. -/
def Leave.Switches (P : Leave) (n : Seat) : Prop :=
  ∀ a b : FlagFacts, b.self = a.self → b.feedback = a.feedback → b.presence = a.presence → P.flag n a b

section
variable {P : Leave} {r t u : Room}

theorem Steps.flagged (h : Steps P r t) (n : Seat) (f : MuteSeat → MuteSeat)
    (hflag : P.flag n (t.mseat n).facts (f (t.mseat n)).facts) (hspeak : ∀ x, (f x).speaking = x.speaking)
    (hspell : ∀ x, (f x).spell = x.spell) : Steps P r (t.setMuteSeat n f) :=
  h.then (.flag n f (.inr hflag) (.inl (hspeak _)) (hspell _))

theorem Steps.deriveWide (h : Steps P r t) (hw : P.Wide) : Steps P r t.derive := h.derive hw.mute hw.move hw.close

theorem Steps.micPress (h : Steps P r t) (n : Seat) (hw : P.Wide) (hn : P.Presses n) : Steps P r (t.micPress n) := by
  have hset := (h.flagged n (fun s => { s with self := !(t.mseat n).self }) (hn.flag _ _ rfl rfl rfl) (fun _ => rfl)
    fun _ => rfl).deriveWide hw
  exact Steps.ite (hset.heldPress n .mic) hset

/-- A seat's self flag cleared and the mutes derived (R58). -/
def released (u : Room) (n : Seat) : Room := (u.selfCleared n).derive

theorem talkRelease_eq (u : Room) (n : Seat) :
    u.talkRelease n = if ((released u n).eff n).micMuted then
      ((released u n).heldPress n .talk, some ((released u n).eff n).micCause) else (released u n, none) := rfl

theorem Steps.released (h : Steps P r t) (n : Seat) (hw : P.Wide) (hn : P.Presses n) : Steps P r (released t n) :=
  (h.flagged n (fun s => { s with self := false }) (hn.flag _ _ rfl rfl rfl) (fun _ => rfl) fun _ => rfl).deriveWide hw

theorem Steps.talkRelease (h : Steps P r t) (n : Seat) (hw : P.Wide) (hn : P.Presses n) :
    Steps P r (t.talkRelease n).1 := by
  have hset := h.released n hw hn
  rw [talkRelease_eq]
  generalize PodLines.released t n = u at hset ⊢
  split
  · exact hset.heldPress n .talk
  · exact hset

theorem Steps.askedFree (h : Steps P r t) (n : Seat) (b : Bool) (hn : P.touch n) : Steps P r (t.askedFree n b) :=
  Steps.ite (h.then (.opens n .granted rfl (.inr (.inr (.inr hn))))) (h.then (.queue n hn))

theorem Steps.talkAsk (h : Steps P r t) (n : Seat) (hw : P.Wide) (hn : P.Presses n) : Steps P r (t.talkAsk n) := by
  have hrelease := h.talkRelease n hw hn
  unfold Room.talkAsk
  dsimp only
  split
  · exact h.emit _
  · split
    · rename_i hheld
      rwa [hheld] at hrelease
    · rename_i hfree
      rw [hfree] at hrelease
      exact hrelease.askedFree n _ hn.touch

theorem Steps.talkPress (h : Steps P r t) (n : Seat) (hw : P.Wide) (hn : P.Presses n) : Steps P r (t.talkPress n) := by
  apply Steps.floorEvent
  split
  · split
    · exact h.closeSeat n _ (hw.close n)
    · exact h.closeSeat n _ (hw.close n)
    · exact h.talkAsk n hw hn
  · exact h.talkRelease n hw hn

theorem Steps.roomPress (h : Steps P r t) (n : Seat) (hw : P.Wide) (hclaim : P.claim) : Steps P r (t.roomPress n) := by
  unfold Room.roomPress
  split
  · exact ((h.goneAll _ _ hclaim).deriveWide hw).tell n _
  · split
    · exact ((h.then (.table _ _ hclaim)).deriveWide hw).tell n _
    · exact (h.refuseLamp n).emit _

theorem Steps.nextPress (h : Steps P r t) (n : Seat) : Steps P r (t.nextPress n) := by
  unfold Room.nextPress
  split
  · exact h
  · apply Steps.floorEvent
    split
    · exact (h.emit _).refuseLamp n
    · rename_i m hm
      split
      · exact h.then (.opens m .granted rfl (.inr (.inl (List.mem_of_find?_eq_some hm))))
      · exact (h.emit _).refuseLamp n

theorem Steps.clearFloor (h : Steps P r t) (hclose : ∀ m, P.close m) : Steps P r t.clearFloor := by
  unfold Room.clearFloor
  split
  · exact h
  · split
    · exact h
    · apply Steps.floorEvent
      exact h.foldl allSeats fun m _ _ g => Steps.ite g (g.closeSeat m _ (hclose m))
    · apply Steps.floorEvent
      unfold Room.clearRequests
      dsimp only
      exact (h.foldl allSeats fun m _ _ g => Steps.ite (g.closeSeat m _ (hclose m)) g).closeAll _ _ hclose

theorem Steps.chairPress (h : Steps P r t) (p : PodPos) (n : Seat) (b : Button) (act : Room → Room)
    (hact : Steps P r (act t)) : Steps P r (t.chairPress p n b act) := by
  unfold Room.chairPress
  split
  · exact h
  · exact Steps.ite hact (h.emit _)

theorem Steps.deliver (h : Steps P r t) (p : PodPos) (n : Seat) (b : Button) (hw : P.Wide) (hn : P.Presses n)
    (hclaim : P.claim) : Steps P r (t.deliver p n b) := by
  cases b
  · exact h.micPress n hw hn
  · exact h.talkPress n hw hn
  · exact h.chairPress p n _ (fun r => r.roomPress n) (h.roomPress n hw hclaim)
  · exact h.chairPress p n _ (fun r => r.nextPress n) (h.nextPress n)
  · exact h.chairPress p n _ _ (h.clearFloor hw.close)

/-- Waking is within a leave to rest (R155). -/
theorem Steps.wake (h : Steps P r t) (c : CallSt) (w : CallCause) (i : Nat) (hclose : ∀ m, P.close m) (hrest : P.rest)
    (hmove : P.move .standby) : Steps P r (t.wake c w i) := by
  have hfloor : Steps P r (t.setCall c w i).floorWake := by
    have hstands : Steps P r (floorStands false (t.setCall c w i)) := (h.then (.call c w i hrest)).then (.floorRest false hrest)
    rw [floorWake_eq]
    exact (hstands.foldl allSeats fun n _ _ g => g.becomeAdmissible n hclose).floorFill.then .finish
  rw [wake_eq]
  generalize (t.setCall c w i).floorWake = v at hfloor
  have hmix : Steps P r v.mixWake :=
    Steps.ramp (hfloor.then (.mixMark { v.mix with standby := false } (fun id => by cases id <;> rfl) rfl rfl (.inr hrest)))
      .standby _ _ hmove
  exact (hmix.then (.dusk 0 false hrest)).then (.dusk 1 false hrest)

/-- What a command asks of a leave where a press may wake the room: it may not where the room is not in standby. -/
def Leave.Wakes (P : Leave) (r : Room) : Prop := r.link.call ≠ .standby ∧ ¬ P.rest ∨ P.rest ∧ P.move .standby

theorem Steps.wakePress (h : Steps P r t) (n : Seat) (hclose : ∀ m, P.close m) (hwake : P.Wakes r) :
    Steps P r (t.wakePress n) := by
  unfold Room.wakePress
  rcases hwake with ⟨hcall, hrest⟩ | ⟨hrest, hmove⟩
  · rw [if_neg (by rwa [(h.rest_kept hrest).call])]
    exact h.then .activity
  · exact Steps.ite (h.wake _ _ _ hclose hrest hmove) (h.then .activity)

/-- What a command asks of a leave where its parts settle: no switch pending, and none to come, or a swap within it. -/
def Leave.Settles (P : Leave) (r : Room) : Prop := r.map.switch = none ∧ ¬ P.swap ∨ P.Free

theorem Steps.settled (h : Steps P r t) (hs : P.Settles r) : Steps P r t.settle :=
  h.settle (hs.imp_left fun hs => (h.map_kept hs.2).switch.trans hs.1)

theorem Steps.press (h : Steps P r t) (p : PodPos) (b : Button) (hw : P.Wide)
    (hn : ∀ n, seatAt t.map.running p = some n → P.Presses n) (hclaim : P.claim) (hwake : P.Wakes r) (hs : P.Settles r) :
    Steps P r (t.press p b) := by
  unfold Room.press
  split
  · exact h
  · rename_i n hseat
    refine Steps.settled ?_ hs
    exact Steps.ite (h.wakePress n hw.close hwake) ((h.then .activity).deliver p n b hw (hn n hseat) hclaim)

/-! ## Status records -/

theorem Steps.privacyReport (h : Steps P r t) (n : Seat) (on : Bool) (hw : P.Wide) (hn : P.Switches n) :
    Steps P r (t.privacyReport n on) := by
  unfold Room.privacyReport
  exact Steps.ite ((h.flagged n (fun s => { s with privacy := on }) (hn _ _ rfl rfl rfl) (fun _ => rfl) fun _ => rfl).deriveWide hw) h

theorem Steps.hearPrivacy (h : Steps P r t) (p : PodPos) (on : Bool) (hw : P.Wide) (hp : P.pod p)
    (hn : ∀ n, seatAt t.map.running p = some n → P.Switches n) (hs : P.Settles r) : Steps P r (t.hearPrivacy p on) := by
  have hset := h.then (.pod p (fun pod => { pod with privacy := on }) hp)
  unfold Room.hearPrivacy
  split
  · exact h
  · dsimp only
    split
    · rename_i n hseat
      exact (hset.privacyReport n on hw (hn n hseat)).settled hs
    · exact hset

/-- The map that a chain leaves, where no swap is in it, or a free leave. -/
theorem Steps.seatAt (h : Steps P r t) (hs : P.Settles r) (p : PodPos) {n : Seat} {C : Prop}
    (hn : seatAt t.map.running p = some n) (hkept : seatAt r.map.running p = some n → C) (hfree : P.Free → C) : C := by
  rcases hs with ⟨_, hswap⟩ | hf
  · exact hkept (by rwa [(h.map_kept hswap).running] at hn)
  · exact hfree hf

theorem Leave.Free.presses (hf : P.Free) (n : Seat) : P.Presses n := ⟨hf.touch n, fun _ _ _ _ _ => hf.flag _ _ _⟩

theorem Leave.Free.switches (hf : P.Free) (n : Seat) : P.Switches n := fun _ _ _ _ _ => hf.flag _ _ _

/-- What the presses at a position ask of a leave. -/
def Leave.PressedAt (P : Leave) (r : Room) (p : PodPos) : Prop :=
  P.claim ∧ P.Wakes r ∧ ∀ n, Machine.seatAt r.map.running p = some n → P.Presses n

theorem Steps.pressAll (h : Steps P r t) (p : PodPos) (bs : List Button) (hw : P.Wide)
    (hpress : bs = [] ∨ P.PressedAt r p) (hs : P.Settles r) : Steps P r (bs.foldl (fun r b => r.press p b) t) := by
  refine h.foldl bs fun b hb u hu => ?_
  obtain ⟨hclaim, hwake, hn⟩ := hpress.resolve_left (List.ne_nil_of_mem hb)
  exact hu.press p b hw (fun n hseat => hu.seatAt hs p hseat (hn n) fun hf => hf.presses n) hclaim hwake hs

theorem Steps.hearStatus (h : Steps P r t) (p : PodPos) (st : StatusRecord) (hw : P.Wide) (hp : P.pod p)
    (hn : ∀ n, Machine.seatAt r.map.running p = some n → P.Switches n)
    (hpress : pressesOf st = [] ∨ P.PressedAt r p) (hs : P.Settles r) : Steps P r (t.hearStatus p st) := by
  refine Steps.ite h ?_
  refine Steps.pressAll (h.hearPrivacy p st.privacy hw hp (fun n hseat => ?_) hs) p _ hw hpress hs
  exact h.seatAt hs p hseat (hn n) fun hf => hf.switches n

/-! ## Samples -/

theorem Steps.audio (h : Steps P r t) (n : Seat) (hn : (t.det.get n).held = true ∨ P.touch n ∧ ∀ m, P.close m)
    (hs : P.Settles r) : Steps P r (t.audio n) := by
  have hheard := (h.then (.window n)).hearLoud n
  have hheld : ((t.hearWindow n).hearLoud n).det.get n = (t.det.get n).hearBus ((t.hearWindow n).mix.silentBus n)
      (energyOf ((t.hearWindow n).busFrame (.loud n))) := by
    simp only [Room.hearLoud, Room.setDet, Tab.get_modify, if_true]
    rfl
  refine Steps.settled (hheard.runFrame n _ (hn.imp_left fun hheld' => ?_)) hs
  rw [hheld]
  exact hheld'

theorem Steps.audioOf (h : Steps P r t) (found : PodPos → Bool) (n : Seat)
    (hn : (t.det.get n).held = true ∨ P.touch n ∧ ∀ m, P.close m) (hs : P.Settles r) : Steps P r (t.audioOf found n) := by
  unfold Room.audioOf
  split
  · exact Steps.ite (h.hearLoud n) (h.audio n hn hs)
  · exact h.audio n hn hs

/-! ## Answers (R28 to R30) -/

theorem Steps.findPod (h : Steps P r t) (p : PodPos) (kind : PodKind) (privacy : Bool) (hw : P.Wide) (hp : P.pod p)
    (hserve : ∀ n, Machine.seatAt t.map.running p = some n → P.Serves n) (hs : P.Settles r) :
    Steps P r (t.findPod p kind privacy) := by
  have hfound := (h.then (.pod p (fun pod => { pod with
    present := true, kind := kind, privacy := privacy, bad := 0 }) hp)).emit
      (.podFound p kind privacy (Machine.seatAt t.map.running p))
  have hafter : ∀ u, Steps P r u →
      Steps P r (((u.refresh p).followCount p.line).checkProbe p.line).settle := fun u hu =>
    (checkProbe_steps (followCount_steps (hu.refresh p) p.line) p.line).settled hs
  unfold Room.findPod
  dsimp only
  split
  · rename_i n hn
    have hn := hserve n hn
    exact hafter _ ((hfound.presenceNotice n .present hw hn.touch hn.trip hn.flag hn.offset).privacyReport n _ hw
      fun _ _ _ _ _ => hn.flag _ _)
  · exact hafter _ hfound

theorem Steps.endScan (h : Steps P r t) (l : LineNo) : Steps P r (t.endScan l) :=
  checkProbe_steps ((setLineState_steps (h.then (.line l (fun x => { x with scan := none }) fun _ => ⟨rfl, rfl, rfl⟩)) l
    _).emit _) l

theorem Steps.scanAnswer (h : Steps P r t) (p : PodPos) (a : EnumAnswer) (hw : P.Wide) (hp : P.pod p)
    (hserve : ∀ n, Machine.seatAt t.map.running p = some n → P.Serves n) (hs : P.Settles r) :
    Steps P r (t.scanAnswer p a) := by
  have hfound := h.findPod p a.kind a.privacy hw hp hserve hs
  unfold Room.scanAnswer
  dsimp only
  split
  · exact hfound.then (.line p.line (fun x => { x with scan := some _ }) fun _ => ⟨rfl, rfl, rfl⟩)
  · exact hfound.endScan p.line

/-! ## Slot checks (R24, R25) -/

theorem Steps.checkSlot (h : Steps P r t) (l : LineNo) (good : Bool) (p : Pos) (hw : P.Wide) (hp : P.pod ⟨l, p⟩)
    (hserve : ∀ n, Machine.seatAt r.map.running ⟨l, p⟩ = some n → P.Serves n) (hfree : ∀ n, P.Free → P.Serves n)
    (hs : P.Settles r) : Steps P r (t.checkSlot l good p) := by
  unfold Room.checkSlot
  split
  · exact h
  · refine Steps.ite (h.then (.pod _ (fun pod => { pod with bad := 0 }) hp)) ?_
    have hbad := h.then (.pod ⟨l, p⟩ (fun pod => { pod with bad := pod.bad + 1 }) hp)
    refine Steps.ite (losePod_steps hbad _ _ hw hp ?_ fun n hn => ?_) hbad
    · exact hs.imp_left fun hs => (hbad.map_kept hs.2).switch.trans hs.1
    · exact hbad.seatAt hs _ hn (hserve n) (hfree n)

end

end Sys2Proof.Machine.PodLines
end

section
/-! The lines through an upstream frame (R22, R24, R25, R28 to R31): the checks first, then the answer, and what the samples
and the status records leave. -/

namespace Sys2Proof.Machine.PodLines

variable {r t u : Room} {l : LineNo}

/-! ## Samples and status records -/

theorem audioOf_lineFacts (u : Room) (found : PodPos → Bool) (n : Seat) :
    (u.audioOf found n).lines.map Line.facts = u.lines.map Line.facts := by
  have haudio : (u.audio n).lines.map Line.facts = u.lines.map Line.facts := by simp [Room.audio]
  unfold Room.audioOf
  split
  · split
    · simp
    · exact haudio
  · exact haudio

/-- What stands of a record once its slot's status is heard (R31). -/
def heardPod (on : Bool) (x : PodFacts) : PodFacts := if x.present = true then { x with privacy := on } else x

theorem hearPrivacy_lines (u : Room) (p : PodPos) (on : Bool) :
    (u.hearPrivacy p on).lines.map Line.facts = (u.setPod p fun pod => { pod with privacy := on }).lines.map Line.facts := by
  unfold Room.hearPrivacy
  split
  · rename_i hsame
    refine (Tab.map_modify _ _ _ _ ?_).symm
    simp only [Line.facts, LineFacts.mk.injEq, true_and, and_true]
    refine Tab.map_modify _ _ _ _ ?_
    simp only [Pod.facts, PodFacts.mk.injEq, true_and, and_true]
    exact hsame.symm
  · dsimp only
    split <;> simp [Room.privacyReport_keeps]

theorem hearStatus_pods (u : Room) (p : PodPos) (st : StatusRecord) (q : PodPos) :
    ((u.hearStatus p st).podAt q).facts
      = if p = q then heardPod st.privacy (u.podAt q).facts else (u.podAt q).facts := by
  unfold Room.hearStatus
  cases hp : (u.podAt p).present with
  | false =>
    simp only [Bool.not_false, if_true]
    split
    · rename_i hpq
      subst hpq
      simp [heardPod, Pod.facts, hp]
    · rfl
  | true =>
    simp only [Bool.not_true, Bool.false_eq_true, if_false]
    have hpress := (Room.presses_keeps (u.hearPrivacy p st.privacy) (pressesOf st) p).2.2.2.1
    rw [pod_facts (hpress.trans (hearPrivacy_lines u p st.privacy)) q, Room.setPod_podAt]
    split
    · rename_i hpq
      subst hpq
      simp [heardPod, Pod.facts, hp]
    · rfl

/-- A line but for its pods, as it stands. -/
structure SameLine (x y : Line) : Prop where
  core : y.core = x.core
  lstate : y.lstate = x.lstate
  timer : y.probeTimer = x.probeTimer

theorem SameLine.trans {x y z : Line} (h : SameLine x y) (g : SameLine y z) : SameLine x z :=
  ⟨g.core.trans h.core, g.lstate.trans h.lstate, g.timer.trans h.timer⟩

theorem SameLine.of_facts {x y : Line} (h : y.facts = x.facts) : SameLine x y :=
  ⟨core_of_facts h, (line_of_facts h).2.2.1, (line_of_facts h).2.2.2⟩

theorem setPod_sameLine (u : Room) (p : PodPos) (f : Pod → Pod) (k : LineNo) :
    SameLine (u.line k) ((u.setPod p f).line k) := by
  by_cases hk : p.line = k
  · subst hk
    simp only [Room.line, Room.setPod, Tab.get_modify, if_true]
    exact ⟨rfl, rfl, rfl⟩
  · rw [Room.setPod_line_ne u p f hk]
    exact ⟨rfl, rfl, rfl⟩

theorem hearStatus_sameLine (u : Room) (p : PodPos) (st : StatusRecord) (k : LineNo) :
    SameLine (u.line k) ((u.hearStatus p st).line k) ∧ (p.line ≠ k → ((u.hearStatus p st).line k).facts = (u.line k).facts) := by
  unfold Room.hearStatus
  split
  · exact ⟨⟨rfl, rfl, rfl⟩, fun _ => rfl⟩
  · have hpress := (Room.presses_keeps (u.hearPrivacy p st.privacy) (pressesOf st) p).2.2.2.1
    have hfacts := line_facts (hpress.trans (hearPrivacy_lines u p st.privacy)) k
    refine ⟨(setPod_sameLine u p _ k).trans (.of_facts hfacts), fun hk => hfacts.trans ?_⟩
    rw [Room.setPod_line_ne u p _ hk]

/-- The parts of a frame after its answer: the samples of its seats, then its status records. -/
def lateFrame (v : Room) (l : LineNo) (f : UpFrame) (found : PodPos → Bool) (ks : List Pos) : Room :=
  ks.foldl (fun r p => r.hearStatus ⟨l, p⟩ (f.slots.get p).status)
    ((v.seatsOn l).foldl (fun r n => r.audioOf found n) v)

theorem upstream_eq (r : Room) (l : LineNo) (f : UpFrame) :
    r.upstream l f = lateFrame ((r.hearFrame l f).takeAnswer l f.answer) l f
      (((r.hearFrame l f).takeAnswer l f.answer).foundSince (r.hearFrame l f)) (r.keptSlots l f) := rfl

/-- What the samples and the status records leave of the lines. -/
structure LateLines (l : LineNo) (f : UpFrame) (ks : List Pos) (v w : Room) : Prop where
  same : ∀ k, SameLine (v.line k) (w.line k)
  others : ∀ k, l ≠ k → (w.line k).facts = (v.line k).facts
  pods : ∀ p, (w.podAt ⟨l, p⟩).facts
    = if p ∈ ks then heardPod (f.slots.get p).status.privacy (v.podAt ⟨l, p⟩).facts else (v.podAt ⟨l, p⟩).facts

theorem heardPod_idem (on : Bool) (x : PodFacts) : heardPod on (heardPod on x) = heardPod on x := by
  unfold heardPod
  split <;> simp_all

theorem statuses_lines (v : Room) (l : LineNo) (f : UpFrame) (ks : List Pos) :
    LateLines l f ks v (ks.foldl (fun r p => r.hearStatus ⟨l, p⟩ (f.slots.get p).status) v) := by
  induction ks generalizing v with
  | nil => exact ⟨fun _ => ⟨rfl, rfl, rfl⟩, fun _ _ => rfl, fun p => by simp⟩
  | cons q ks ih =>
    rw [List.foldl_cons]
    have hq := hearStatus_sameLine v ⟨l, q⟩ (f.slots.get q).status
    have hpods := hearStatus_pods v ⟨l, q⟩ (f.slots.get q).status
    obtain ⟨hsame, hothers, hrest⟩ := ih (v.hearStatus ⟨l, q⟩ (f.slots.get q).status)
    refine ⟨fun k => (hq k).1.trans (hsame k), fun k hk => (hothers k hk).trans ((hq k).2 hk), fun p => ?_⟩
    rw [hrest p, hpods]
    by_cases hp : q = p
    · subst hp
      simp only [if_true, List.mem_cons, true_or, heardPod_idem, ite_self]
    · have hne : (⟨l, q⟩ : PodPos) ≠ ⟨l, p⟩ := by simp [hp]
      simp only [hne, if_false, List.mem_cons, Ne.symm hp, false_or]

theorem late_lines (v : Room) (l : LineNo) (f : UpFrame) (found : PodPos → Bool) (ks : List Pos) :
    LateLines l f ks v (lateFrame v l f found ks) := by
  have haudio : ((v.seatsOn l).foldl (fun r n => r.audioOf found n) v).lines.map Line.facts = v.lines.map Line.facts :=
    foldl_keeps (π := fun w : Room => w.lines.map Line.facts) _ (fun w n => audioOf_lineFacts w found n) _ v
  obtain ⟨hsame, hothers, hpods⟩ := statuses_lines ((v.seatsOn l).foldl (fun r n => r.audioOf found n) v) l f ks
  refine ⟨fun k => (SameLine.of_facts (line_facts haudio k)).trans (hsame k),
    fun k hk => (hothers k hk).trans (line_facts haudio k), fun p => ?_⟩
  rw [lateFrame, hpods p, pod_facts haudio]

/-! ## The checks of a frame (R24, R25) -/

/-- The terminator report that a frame leaves (R22, R25). -/
def termAfter (x : Line) (f : UpFrame) : Nat := if f.term.passes = true then min 20 f.term.value else x.termReported

/-- The terminator that a frame's losses go by (R25, R40). -/
def reachAfter (x : Line) (f : UpFrame) : Nat :=
  match x.rehearsal with
  | some ⟨.brk, p, _⟩ => min (termAfter x f) p.val
  | _ => termAfter x f

/-- The bad count of a record as its slot is checked (R24). -/
def badAfter (x : Line) (f : UpFrame) (p : Pos) : Nat := if x.goodSlot f p = true then 0 else (x.pods.get p).bad + 1

/-- A pod that the checks of a frame leave (R24, R25). -/
def keptAfter (x : Line) (f : UpFrame) (p : Pos) : Bool :=
  (x.pods.get p).present && (x.goodSlot f p || decide (badAfter x f p < x.lostLimit)) && decide (p.val + 1 ≤ reachAfter x f)

/-- The room as the slots of a frame are checked, its terminator report to follow. -/
def slotsChecked (r : Room) (l : LineNo) (f : UpFrame) : Room :=
  (allPositions.filter fun p => ((r.line l).pods.get p).present).foldl
    (fun r' p => r'.checkSlot l (((r.line l).goodSlots f).contains p) p) r

theorem checkFrame_eq (r : Room) (l : LineNo) (f : UpFrame) :
    r.checkFrame l f = ((slotsChecked r l f).setLine l fun x => x.hearTerm f.term).loseBeyond l := rfl

theorem goodSlots_contains (x : Line) (f : UpFrame) (p : Pos) :
    (x.goodSlots f).contains p = ((x.pods.get p).present && x.goodSlot f p) := by
  rw [Bool.eq_iff_iff]
  simp [Line.goodSlots, allPositions]

theorem slotsChecked_lines (r : Room) (l : LineNo) (f : UpFrame) :
    (∀ k, ((slotsChecked r l f).line k).core = (r.line k).core)
    ∧ (∀ p, ((slotsChecked r l f).podAt ⟨l, p⟩).facts
      = if (r.podAt ⟨l, p⟩).present = true then
          checkedPod ((r.line l).goodSlot f p) (r.line l).lostLimit (r.podAt ⟨l, p⟩).facts
        else (r.podAt ⟨l, p⟩).facts)
    ∧ (∀ k, l ≠ k → ((slotsChecked r l f).line k).facts = (r.line k).facts) := by
  obtain ⟨hcore, hpods, hothers⟩ := r.checkSlots_lines l (fun p => ((r.line l).goodSlots f).contains p)
    (allPositions.filter fun p => ((r.line l).pods.get p).present) ((List.nodup_finRange 20).filter _)
  refine ⟨hcore, fun p => (hpods ⟨l, p⟩).trans ?_, hothers⟩
  have hmem : (p ∈ allPositions.filter fun p => ((r.line l).pods.get p).present) ↔ (r.podAt ⟨l, p⟩).present = true := by
    simp only [allPositions, List.mem_filter, List.mem_finRange, true_and]
    exact Iff.rfl
  simp only [hmem, true_and, and_self]
  refine if_ctx_congr Iff.rfl (fun hp => ?_) fun _ => rfl
  rw [goodSlots_contains, show ((r.line l).pods.get p).present = true from hp, Bool.true_and]

theorem hearTerm_reach (x : Line) (f : UpFrame) : (x.hearTerm f.term).effTerm = reachAfter x f := by
  have hterm : (x.hearTerm f.term).termReported = termAfter x f := by
    unfold Line.hearTerm termAfter
    split <;> rfl
  have hrehearsal : (x.hearTerm f.term).rehearsal = x.rehearsal := by
    unfold Line.hearTerm
    split <;> rfl
  rw [effTerm_eq, hterm, hrehearsal]
  rfl

theorem hearTerm_parts (x : Line) (tm : TermReport) :
    (x.hearTerm tm).pods = x.pods ∧ (x.hearTerm tm).dark = x.dark ∧ (x.hearTerm tm).audio = x.audio := by
  unfold Line.hearTerm
  split <;> exact ⟨rfl, rfl, rfl⟩

/-- A record that the checks of a frame leave (R24, R25). -/
def framedPod (x : Line) (f : UpFrame) (p : Pos) : PodFacts :=
  let y := (x.pods.get p).facts
  if (x.pods.get p).present = true then
    if keptAfter x f p = true then ⟨true, y.kind, y.privacy, badAfter x f p⟩ else ⟨false, y.kind, true, 0⟩
  else y

theorem checkFrame_lines (r : Room) (l : LineNo) (f : UpFrame) :
    ((r.checkFrame l f).line l).core = { (r.line l).core with termReported := termAfter (r.line l) f }
    ∧ (∀ p, ((r.checkFrame l f).podAt ⟨l, p⟩).facts = framedPod (r.line l) f p)
    ∧ (∀ k, k ≠ l → ((r.checkFrame l f).line k).facts = (r.line k).facts) := by
  obtain ⟨hcore, hpods, hothers⟩ := slotsChecked_lines r l f
  have hset : ∀ p, ((slotsChecked r l f).setLine l fun x => x.hearTerm f.term).podAt p = (slotsChecked r l f).podAt p :=
    setLine_podAt _ l _ fun x => (hearTerm_parts x f.term).1
  have hline := Room.setLine_line (slotsChecked r l f) l fun x => x.hearTerm f.term
  have hhear : (((slotsChecked r l f).line l).hearTerm f.term).core
      = { ((slotsChecked r l f).line l).core with termReported := termAfter ((slotsChecked r l f).line l) f } := by
    unfold Line.hearTerm termAfter
    split <;> rfl
  have hterm : termAfter ((slotsChecked r l f).line l) f = termAfter (r.line l) f := by
    unfold termAfter
    rw [show ((slotsChecked r l f).line l).termReported = (r.line l).termReported from
      congrArg LineCore.termReported (hcore l)]
  have hreach : reachAfter ((slotsChecked r l f).line l) f = reachAfter (r.line l) f := by
    unfold reachAfter
    rw [hterm, show ((slotsChecked r l f).line l).rehearsal = (r.line l).rehearsal from
      congrArg LineCore.rehearsal (hcore l)]
  rw [checkFrame_eq]
  unfold Room.loseBeyond
  rw [hline, hearTerm_reach, hreach]
  obtain ⟨lcore, lpods, lothers⟩ := ((slotsChecked r l f).setLine l fun x => x.hearTerm f.term).loseAll_lines l
    (allPositions.filter fun p => reachAfter (r.line l) f < numberOf p) .brk
  refine ⟨?_, fun p => ?_, fun k hk => ?_⟩
  · rw [lcore l, hline, hhear, hcore l, hterm]
  · rw [lpods ⟨l, p⟩, hset, hpods p]
    have hmem : (p ∈ allPositions.filter fun p => reachAfter (r.line l) f < numberOf p)
        ↔ ¬ p.val + 1 ≤ reachAfter (r.line l) f := by
      simp [allPositions, numberOf]
    have hpres := congrArg PodFacts.present (hpods p)
    have hkind := congrArg PodFacts.kind (hpods p)
    have hpod : (r.line l).pods.get p = r.podAt ⟨l, p⟩ := rfl
    simp only [true_and, hmem, Pod.gone_facts, framedPod, keptAfter, badAfter, hpod]
    rw [show ((slotsChecked r l f).podAt ⟨l, p⟩).present = _ from hpres,
      show ((slotsChecked r l f).podAt ⟨l, p⟩).kind = _ from hkind]
    cases hp : (r.podAt ⟨l, p⟩).present with
    | false => simp [Pod.facts, hp]
    | true =>
      by_cases hreach : p.val + 1 ≤ reachAfter (r.line l) f
      · by_cases hgood : (r.line l).goodSlot f p = true
        · simp [checkedPod, hgood, hreach]
        · by_cases hbad : (r.podAt ⟨l, p⟩).bad + 1 < (r.line l).lostLimit
          · simp [checkedPod, hgood, hbad, hreach, Pod.facts]
          · simp [checkedPod, hgood, hbad, hreach, Pod.facts]
      · by_cases hgood : (r.line l).goodSlot f p = true
        · simp [checkedPod, hgood, hreach, Pod.facts]
        · by_cases hbad : (r.podAt ⟨l, p⟩).bad + 1 < (r.line l).lostLimit
          · simp [checkedPod, hgood, hbad, hreach, Pod.facts]
          · simp [checkedPod, hgood, hbad, hreach, Pod.facts]
  · rw [lothers k hk, Room.setLine_line_ne _ _ (Ne.symm hk), hothers k (Ne.symm hk)]

end Sys2Proof.Machine.PodLines
end

section
/-! A pod that is found (R30): its record and what it shows, and the seat that it serves, from the answer to the end of the
frame. -/

namespace Sys2Proof.Machine.PodLines

variable {P : Leave} {r t u : Room}

/-! ## A record through a chain that does not set its facts -/

theorem Step.pod_kept (h : Step P r t) (p : PodPos) (hp : ¬ P.pod p) : (t.podAt p).facts = (r.podAt p).facts := by
  rcases h.sight with ⟨_, hlines | ⟨q, f, hf, hlines⟩⟩ | ⟨l, b, _, rfl⟩ | ⟨q, f, hq, rfl⟩ | ⟨l, f, hf, rfl⟩ | ⟨m, _, rfl⟩
  · rw [podAt_of_lines hlines]
  · rw [podAt_of_lines (t := (r.setPod q f).compose q) hlines, compose_podAt]
    split
    · rename_i hq
      subst hq
      rw [(composed_keeps _ _).1, Room.setPod_podAt, if_pos rfl, hf]
    · rename_i hq
      rw [Room.setPod_podAt, if_neg hq]
  · exact pod_facts (by simp) p
  · rw [Room.setPod_podAt, if_neg]
    rintro rfl
    exact hp hq
  · rw [setLine_podAt r l f fun x => (hf x).1]
  · rfl

theorem Steps.pod_kept (h : Steps P r t) (p : PodPos) (hp : ¬ P.pod p) : (t.podAt p).facts = (r.podAt p).facts :=
  h.keeps (C := fun u => (u.podAt p).facts = (r.podAt p).facts) (fun _ _ hu hv => (hv.pod_kept p hp).trans hu) rfl

/-- A present pod shows what its view calls for, through waking and standby too (R38). -/
theorem Step.shows_present (h : Step P r t) (p : PodPos) (hp : ¬ P.pod p) (hswap : ¬ P.swap)
    (hpres : (r.podAt p).present = true) (hr : r.Shows p) : t.Shows p := by
  rcases h.sight with ⟨hmap, hlines | ⟨q, f, _, hlines⟩⟩ | ⟨l, b, _, rfl⟩ | ⟨q, f, hq, rfl⟩ | ⟨l, f, hf, rfl⟩ | ⟨m, hm, _⟩
  · exact shows_congr hmap (by simp [Room.podAt, hlines]) (by simp [Room.line, hlines]) hr
  · refine shows_congr (hmap.trans (by simp)) ?_ ?_ (indicate_shows r q p f hr) <;>
      simp only [Room.podAt, Room.line, hlines]
  · by_cases hl : p.line = l
    · subst hl
      have hdusk := lineStandby_dusked r p.line b p.pos
      cases b with
      | true => exact (hdusk.shut rfl).1
      | false =>
        have hnow := present_of_facts (pod_facts (r := r) (t := r.lineStandby p.line false) (by simp) p)
        exact (hdusk.lit rfl (hnow.trans hpres)).1
    · refine shows_congr (by simp) (lineStandby_ne r l b hl) ?_ hr
      rw [lineStandby_dark, if_neg hl]
  · have hne : q ≠ p := by rintro rfl; exact hp hq
    exact shows_congr (r := r) rfl (by rw [Room.setPod_podAt, if_neg hne]) (setPod_dark r q f _) hr
  · exact shows_congr (r := r) rfl (setLine_podAt r l f (fun x => (hf x).1) p)
      (get_of_map_eq (f := Line.dark) (Tab.map_modify _ _ _ _ (hf _).2.1) p.line) hr
  · exact absurd hm hswap

theorem Steps.shows_present (h : Steps P r t) (p : PodPos) (hp : ¬ P.pod p) (hswap : ¬ P.swap)
    (hpres : (r.podAt p).present = true) (hr : r.Shows p) : (t.podAt p).present = true ∧ t.Shows p :=
  h.keeps (C := fun u => (u.podAt p).present = true ∧ u.Shows p) (fun _ _ hu hv =>
    ⟨(present_of_facts (hv.pod_kept p hp)).trans hu.1, hv.shows_present p hp hswap hu.1 hu.2⟩) ⟨hpres, hr⟩

theorem refresh_shows (u : Room) (p : PodPos) : (u.refresh p).Shows p := by
  unfold Room.refresh
  split <;> exact compose_shows _ p

/-! ## What stands of a room through a frame -/

/-- The settings and the maps as they were. -/
structure Held (r t : Room) : Prop where
  set : SetKept r t
  map : MapKept r t

theorem Steps.held (h : Steps P r t) (hswap : ¬ P.swap) : Held r t := ⟨h.settings, h.map_kept hswap⟩

theorem Held.trans (h : Held r t) (g : Held t u) : Held r u :=
  ⟨⟨g.set.1.trans h.set.1, g.set.2.trans h.set.2, g.set.3.trans h.set.3, g.set.4.trans h.set.4, g.set.5.trans h.set.5,
    g.set.6.trans h.set.6, g.set.7.trans h.set.7, g.set.8.trans h.set.8, g.set.9.trans h.set.9, g.set.10.trans h.set.10⟩,
    ⟨g.map.1.trans h.map.1, g.map.2.trans h.map.2, g.map.3.trans h.map.3⟩⟩

theorem Held.stands (h : Held r t) : t.standing = { r.standing with
    lines := t.standing.lines, dark := t.standing.dark, flags := t.standing.flags, table := t.standing.table
    stamp := t.standing.stamp, trips := t.standing.trips, call := t.standing.call
    floorStandby := t.standing.floorStandby, mixStandby := t.standing.mixStandby } := by
  obtain ⟨s1, s2, s3, s4, s5, s6, s7, s8, s9, s10⟩ := h.set
  obtain ⟨m1, m2, m3⟩ := h.map
  simp only [Room.standing, s1, s2, s3, s4, s5, s6, s7, s8, s9, s10, m1, m2, m3]

/-- A leave to do all that a frame does with no switch pending. -/
def frameLeave : Leave where
  touch _ := True
  trip _ := True
  flag _ _ _ := True
  close _ := True
  pod _ := True
  move _ := True
  mute := True
  claim := True
  rest := True
  swap := False

theorem frameLeave_wide : frameLeave.Wide := ⟨trivial, fun _ _ => trivial, fun _ => trivial⟩

theorem frameLeave_serves (n : Seat) : frameLeave.Serves n := ⟨trivial, trivial, fun _ _ => trivial, trivial⟩

/-! ## The checks of a frame as a chain -/

theorem slotsChecked_steps (r : Room) (l : LineNo) (f : UpFrame) (hw : P.Wide) (hp : ∀ p, P.pod ⟨l, p⟩)
    (hserve : ∀ n, P.Serves n) (hs : P.Settles r) : Steps P r (slotsChecked r l f) :=
  (Steps.refl r).foldl _ fun p _ _ hu => hu.checkSlot l _ p hw (hp p) (fun n _ => hserve n) (fun n _ => hserve n) hs

theorem checkFrame_steps (r : Room) (l : LineNo) (f : UpFrame) (hw : P.Wide) (hp : ∀ p, P.pod ⟨l, p⟩)
    (hserve : ∀ n, P.Serves n) (hs : P.Settles r) : Steps P r (r.checkFrame l f) := by
  rw [checkFrame_eq]
  unfold Room.loseBeyond
  exact loseAll_steps ((slotsChecked_steps r l f hw hp hserve hs).then (.line l _ fun x => hearTerm_parts x f.term)) l _ _
    hw (fun p _ => hp p) hs hserve

/-- The samples of a frame, and its program inputs (R24; log 15). -/
def heardOf (u : Room) (l : LineNo) (f : UpFrame) (ks : List Pos) : Room :=
  (u.setLine l fun x => x.hearAudio f ks).hearProgram f.program

theorem hearFrame_eq (r : Room) (l : LineNo) (f : UpFrame) :
    r.hearFrame l f = heardOf (r.checkFrame l f) l f (r.keptSlots l f) := rfl

theorem heardOf_lineFacts (u : Room) (l : LineNo) (f : UpFrame) (ks : List Pos) :
    (heardOf u l f ks).lines.map Line.facts = u.lines.map Line.facts := Tab.map_modify _ _ _ _ rfl

theorem heardOf_held (u : Room) (l : LineNo) (f : UpFrame) (ks : List Pos) : Held u (heardOf u l f ks) :=
  ⟨⟨rfl, rfl, rfl, rfl, rfl, rfl, rfl, rfl, rfl, rfl⟩, ⟨rfl, rfl, rfl⟩⟩

theorem hearFrame_held (r : Room) (l : LineNo) (f : UpFrame) (hcalm : r.map.switch = none) : Held r (r.hearFrame l f) := by
  have hsteps : Steps frameLeave r (r.checkFrame l f) :=
    checkFrame_steps r l f frameLeave_wide (fun _ => trivial) frameLeave_serves (.inl ⟨hcalm, id⟩)
  exact (hsteps.held id).trans (heardOf_held ..)

theorem hearFrame_lines (r : Room) (l : LineNo) (f : UpFrame) :
    ((r.hearFrame l f).line l).core = { (r.line l).core with termReported := termAfter (r.line l) f }
    ∧ (∀ p, ((r.hearFrame l f).podAt ⟨l, p⟩).facts = framedPod (r.line l) f p)
    ∧ (∀ k, k ≠ l → ((r.hearFrame l f).line k).facts = (r.line k).facts) := by
  obtain ⟨hcore, hpods, hothers⟩ := checkFrame_lines r l f
  have hfacts := heardOf_lineFacts (r.checkFrame l f) l f (r.keptSlots l f)
  rw [hearFrame_eq]
  exact ⟨(core_of_facts (line_facts hfacts l)).trans hcore, fun p => (pod_facts hfacts _).trans (hpods p),
    fun k hk => (line_facts hfacts k).trans (hothers k hk)⟩

/-- A position that was not present is none of those whose status is heard. -/
theorem keptSlots_present (r : Room) (l : LineNo) (f : UpFrame) {p : Pos} (h : p ∈ r.keptSlots l f) :
    (r.podAt ⟨l, p⟩).present = true := by
  have hgood := (List.mem_filter.1 h).1
  simp only [Line.goodSlots, List.mem_filter, Bool.and_eq_true] at hgood
  exact hgood.2.1

/-- What follows the answer, as a chain, with no switch pending. -/
theorem late_steps (v : Room) (l : LineNo) (f : UpFrame) (found : PodPos → Bool) (ks : List Pos) (hw : P.Wide)
    (haudio : ∀ n ∈ v.seatsOn l, ∀ u, Steps P v u → Steps P v (u.audioOf found n)) (hp : ∀ p ∈ ks, P.pod ⟨l, p⟩)
    (hn : ∀ p ∈ ks, ∀ n, Machine.seatAt v.map.running ⟨l, p⟩ = some n → P.Switches n)
    (hpress : ∀ p ∈ ks, pressesOf (f.slots.get p).status = [] ∨ P.PressedAt v ⟨l, p⟩) (hs : P.Settles v) : Steps P v (lateFrame v l f found ks) := by
  have hheard := (Steps.refl v).foldl (f := fun r n => r.audioOf found n) (v.seatsOn l) haudio
  exact hheard.foldl ks fun p hpk u hu =>
    hu.hearStatus ⟨l, p⟩ (f.slots.get p).status hw (hp p hpk) (hn p hpk) (hpress p hpk) hs

end Sys2Proof.Machine.PodLines
end

section
/-! UPSTREAM_FRAME with an answer (R28 to R30). -/

namespace Sys2Proof.Machine.PodLines

variable {P : Leave} {r t u : Room} {n : Seat}

/-! ## The seat of a pod that is found (R30, R31, R50, R56, R59, R109) -/

/-- The seat of a found pod: PRESENT at the floor, at the Arbiter and at the monitor, its privacy flag as the answer says,
its detector seeding with no level measured. -/
structure FoundSeat (n : Seat) (on : Bool) (t : Room) : Prop where
  floor : (t.fseat n).presence = .present
  mute : (t.mseat n).facts.presence = .present
  privacy : (t.mseat n).facts.privacy = on
  monitor : (t.fbSeat n).facts.presence = .present
  held : (t.det.get n).held = false
  seed : (t.det.get n).seed = some 100
  seedLow : (t.det.get n).seedLow = none

/-- What does not touch the seat nor set its flags leaves it so. -/
theorem FoundSeat.then {on : Bool} (h : FoundSeat n on t) (hs : Steps P t u) (hn : ¬ P.touch n)
    (hflag : ∀ a b, P.flag n a b → b = a) : FoundSeat n on u := by
  have hun := hs.untouched n hn
  have hflags := hs.flags n (fun a b => b = a) (fun _ => rfl) (fun _ _ _ h g => g.trans h) hflag
  exact ⟨hun.presence.trans h.floor, hflags ▸ h.mute, hflags ▸ h.privacy, hun.trips ▸ h.monitor, hun.det.held.trans h.held,
    hun.det.seed.trans h.seed, hun.det.seedLow.trans h.seedLow⟩

/-- A seat marked PRESENT at the floor, its admission to follow. -/
def floorFound (u : Room) (n : Seat) : Room := u.setSeat n fun x => { x with presence := .present, speaking := false }

theorem floorPresence_present (u : Room) (n : Seat) :
    u.floorPresence n .present = ((floorFound u n).becomeAdmissible n).floorFill.floorFinish := rfl

theorem floorPresence_found (u : Room) (n : Seat) : ((u.floorPresence n .present).fseat n).presence = .present := by
  have hsteps : Steps (sideLeave n) (floorFound u n) (u.floorPresence n .present) := by
    rw [floorPresence_present]
    exact ((Steps.refl _).becomeAdmissible n fun _ => trivial).floorFill.then .finish
  rw [(hsteps.untouched n (sideLeave_touch n)).presence, floorFound, setSeat_fseat, if_pos rfl]

theorem sideLeave_derive (u : Room) (n : Seat) : Steps (sideLeave n) u u.derive := (Steps.refl u).deriveWide (sideLeave_wide n)

/-- The marks of a presence notice of a found pod (R56, R79), before the mutes are derived. -/
theorem mutePresence_found (u : Room) (n : Seat) :
    ((u.mutePresence n .present).fseat n).presence = (u.fseat n).presence
      ∧ ((u.mutePresence n .present).mseat n).facts.presence = .present := by
  have hmark : ∀ (f : MuteSeat → MuteSeat), (∀ x, (f x).presence = .present) →
      (((u.setMuteSeat n f).clearMarks n).derive.fseat n).presence = (u.fseat n).presence
        ∧ ((((u.setMuteSeat n f).clearMarks n).derive).mseat n).facts.presence = .present := by
    intro f hf
    have hfloor : ((u.setMuteSeat n f).clearMarks n).floor = u.floor := by simp
    have hpresence : (((u.setMuteSeat n f).clearMarks n).mseat n).facts.presence = .present := by
      rw [clearMarks_facts, setMuteSeat_mseat, if_pos rfl]
      exact hf _
    generalize (u.setMuteSeat n f).clearMarks n = v at hfloor hpresence
    refine ⟨?_, ?_⟩
    · rw [((sideLeave_derive v n).untouched n (sideLeave_touch n)).presence, Room.fseat, hfloor]
      rfl
    · exact (congrArg FlagFacts.presence (facts_at v.derive_same.flags n)).trans hpresence
  exact hmark _ fun x => by simp

theorem restart_found (d : Detector) :
    (d.restart true).held = false ∧ (d.restart true).seed = some 100 ∧ (d.restart true).seedLow = none := ⟨rfl, rfl, rfl⟩

/-- The last notices of a found pod leave its seat found. -/
theorem lastFound (u : Room) (n : Seat) (on : Bool) (hfloor : (u.fseat n).presence = .present)
    (hmute : (u.mseat n).facts.presence = .present) :
    FoundSeat n on (((u.setDet n fun d => d.restart true).fbPresence n .present).privacyReport n on) := by
  have hfb : (u.setDet n fun d => d.restart true).fbPresence n .present
      = (u.setDet n fun d => d.restart true).setFb n fun s => { s with presence := .present } := by
    unfold Room.fbPresence
    rw [if_pos rfl]
  have hmonitor : (((u.setDet n fun d => d.restart true).setFb n fun s =>
      { s with presence := .present }).fbSeat n).facts.presence = .present := by
    rw [setFb_fbSeat, if_pos rfl, settled_facts]
    rfl
  have hdet : ((u.setDet n fun d => d.restart true).setFb n fun s => { s with presence := .present }).det.get n
      = (u.det.get n).restart true := by
    simp [Room.setFb, Room.setDet]
  obtain ⟨hheld, hseed, hlow⟩ := restart_found (u.det.get n)
  rw [← hdet] at hheld hseed hlow
  have hfloor : ((((u.setDet n fun d => d.restart true).setFb n fun s => { s with presence := .present })).fseat n).presence
      = .present := hfloor
  have hmute : ((((u.setDet n fun d => d.restart true).setFb n fun s => { s with presence := .present })).mseat n).presence
      = .present := hmute
  rw [hfb]
  generalize (u.setDet n fun d => d.restart true).setFb n _ = v at hmonitor hheld hseed hlow hfloor hmute
  unfold Room.privacyReport
  rw [if_pos hmute]
  have hset : FoundSeat n on (v.setMuteSeat n fun s => { s with privacy := on }) := by
    have hseat := setMuteSeat_mseat v n n fun s => { s with privacy := on }
    rw [if_pos rfl] at hseat
    exact ⟨hfloor, by rw [hseat]; exact hmute, by rw [hseat]; rfl, hmonitor, hheld, hseed, hlow⟩
  exact hset.then (sideLeave_derive _ n) (sideLeave_touch n) (sideLeave_flag n)

theorem presenceNotice_present (u : Room) (n : Seat) :
    u.presenceNotice n .present
      = (((u.floorPresence n .present).mutePresence n .present).setDet n fun d => d.restart true).fbPresence n .present :=
  rfl

theorem presenceNotice_found (u : Room) (n : Seat) (on : Bool) :
    FoundSeat n on ((u.presenceNotice n .present).privacyReport n on) := by
  have hfloor := floorPresence_found u n
  rw [presenceNotice_present]
  generalize u.floorPresence n .present = v at hfloor
  obtain ⟨hkept, hmute⟩ := mutePresence_found v n
  exact lastFound _ n on (hkept.trans hfloor) hmute

/-! ## The find (R30) -/

/-- The record of a found pod as the answer gives it, its notices to follow. -/
def podFoundAt (u : Room) (p : PodPos) (a : EnumAnswer) : Room :=
  (u.setPod p fun pod => { pod with present := true, kind := a.kind, privacy := a.privacy, bad := 0 }).emit
    (.podFound p a.kind a.privacy (seatAt u.map.running p))

/-- The notices of a find, before its record is read afresh. -/
def foundTold (u : Room) (p : PodPos) (a : EnumAnswer) : Room :=
  match seatAt u.map.running p with
  | some n => ((podFoundAt u p a).presenceNotice n .present).privacyReport n a.privacy
  | none => podFoundAt u p a

theorem findPod_eq (u : Room) (p : PodPos) (a : EnumAnswer) :
    u.findPod p a.kind a.privacy
      = ((((foundTold u p a).refresh p).followCount p.line).checkProbe p.line).settle := by
  unfold Room.findPod foundTold podFoundAt
  rfl

/-- A leave to find a pod: the seat that it serves, and the records of the line. -/
theorem foundTold_steps (u : Room) (p : PodPos) (a : EnumAnswer) : Steps frameLeave u (foundTold u p a) := by
  have hfound : Steps frameLeave u (podFoundAt u p a) := ((Steps.refl u).then (.pod p _ trivial)).emit _
  unfold foundTold
  split
  · exact (hfound.presenceNotice _ .present frameLeave_wide trivial trivial (fun _ _ => trivial) trivial).privacyReport _ _
      frameLeave_wide fun _ _ _ _ _ => trivial
  · exact hfound

/-- What a find leaves: its event, its record, what that shows, and its seat. -/
structure Found (p : PodPos) (a : EnumAnswer) (seat : Option Seat) (t : Room) : Prop where
  told : .podFound p a.kind a.privacy seat ∈ t.out
  pod : (t.podAt p).facts = ⟨true, a.kind, a.privacy, 0⟩
  shows : t.Shows p
  seat : ∀ n, seat = some n → FoundSeat n a.privacy t

/-- What does not set the record, nor touch its seat nor set its flags, leaves it so. -/
theorem Found.then {p : PodPos} {a : EnumAnswer} {seat : Option Seat} (h : Found p a seat t) (hs : Steps P t u)
    (hp : ¬ P.pod p) (hswap : ¬ P.swap) (hn : ∀ n, seat = some n → ¬ P.touch n ∧ ∀ a b, P.flag n a b → b = a) :
    Found p a seat u := by
  have hpres : (t.podAt p).present = true := congrArg PodFacts.present h.pod
  exact ⟨hs.grows.subset h.told, (hs.pod_kept p hp).trans h.pod, (hs.shows_present p hp hswap hpres h.shows).2,
    fun n hseat => (h.seat n hseat).then hs (hn n hseat).1 (hn n hseat).2⟩

/-- A leave that leaves a record, its seat and the switch alone. -/
def besideLeave (p : PodPos) (seat : Option Seat) : Leave where
  touch n := seat ≠ some n
  trip _ := True
  flag n a b := seat ≠ some n ∨ b = a
  close _ := True
  pod q := q ≠ p
  move _ := True
  mute := True
  claim := True
  rest := True
  swap := False

theorem besideLeave_wide (p : PodPos) (seat : Option Seat) : (besideLeave p seat).Wide :=
  ⟨trivial, fun _ _ => trivial, fun _ => trivial⟩

theorem besideLeave_found {p : PodPos} {seat : Option Seat} (n : Seat) (h : seat = some n) :
    ¬ (besideLeave p seat).touch n ∧ ∀ a b, (besideLeave p seat).flag n a b → b = a :=
  ⟨fun hn => hn h, fun _ _ hf => hf.resolve_left fun hn => hn h⟩

theorem Found.beside {p : PodPos} {a : EnumAnswer} {seat : Option Seat} (h : Found p a seat t)
    (hs : Steps (besideLeave p seat) t u) : Found p a seat u :=
  h.then hs (fun hp => hp rfl) id besideLeave_found

theorem findPod_found (u : Room) (p : PodPos) (a : EnumAnswer) (hcalm : u.map.switch = none) :
    Found p a (seatAt u.map.running p) (u.findPod p a.kind a.privacy) := by
  have hsteps := foundTold_steps u p a
  have hfacts := (u.findPod_lines p a.kind a.privacy).2.1 p
  rw [if_pos rfl] at hfacts
  have htold : .podFound p a.kind a.privacy (seatAt u.map.running p) ∈ (foundTold u p a).out := by
    have hout : (podFoundAt u p a).out <+: (foundTold u p a).out := by
      unfold foundTold
      split
      · exact (((Steps.refl (P := frameLeave) (podFoundAt u p a)).presenceNotice _ .present frameLeave_wide trivial trivial
          (fun _ _ => trivial) trivial).privacyReport _ _ frameLeave_wide fun _ _ _ _ _ => trivial).grows
      · exact List.prefix_rfl
    refine hout.subset ?_
    simp [podFoundAt, Room.emit]
  have hseat : ∀ n, seatAt u.map.running p = some n → FoundSeat n a.privacy (foundTold u p a) := by
    intro n hn
    unfold foundTold
    rw [hn]
    exact presenceNotice_found _ n a.privacy
  have hswitch : (foundTold u p a).map.switch = none := (hsteps.map_kept id).switch.trans hcalm
  have hpresent : ((foundTold u p a).podAt p).facts = ⟨true, a.kind, a.privacy, 0⟩ := by
    have hpod : (foundTold u p a).lines.map Line.facts = (podFoundAt u p a).lines.map Line.facts := by
      unfold foundTold
      split <;> simp
    rw [pod_facts hpod, podFoundAt]
    show ((u.setPod p _).podAt p).facts = _
    rw [Room.setPod_podAt, if_pos rfl]
    rfl
  rw [findPod_eq]
  generalize foundTold u p a = v at htold hseat hswitch hpresent
  have hrefresh : Steps (besideLeave p (seatAt u.map.running p)) v (v.refresh p) := (Steps.refl v).refresh p
  have hafter : Steps (besideLeave p (seatAt u.map.running p)) (v.refresh p)
      (((v.refresh p).followCount p.line).checkProbe p.line).settle :=
    afterPod_steps (.refl _) p.line (.inl (by simpa using hswitch))
  have hfound : Found p a (seatAt u.map.running p) (v.refresh p) :=
    ⟨hrefresh.grows.subset htold, (hrefresh.pod_kept p fun hp => hp rfl).trans hpresent, refresh_shows v p,
      fun n hn => (hseat n hn).then hrefresh (besideLeave_found n hn).1 (besideLeave_found n hn).2⟩
  exact hfound.beside hafter

end Sys2Proof.Machine.PodLines
end

section
/-! UPSTREAM_FRAME with an answer: the line that the answer leaves, and the statement (R28 to R30). -/

namespace Sys2Proof.Machine.PodLines

variable {P : Leave} {r t u : Room}

/-! ## The line of a pod that is found -/

/-- What a find leaves of its line but for its pods (R23, R29). -/
structure FoundLine (p : PodPos) (u t : Room) : Prop where
  core : (t.line p.line).core = (u.line p.line).core
  lstate : (t.line p.line).lstate = if (u.line p.line).lstate = .scanning then .scanning else .up
  timer : (t.line p.line).probeTimer
    = if (u.line p.line).lstate ≠ .scanning ∧ (t.line p.line).count < (u.line p.line).expected then
        some ((u.line p.line).probeTimer.getD 500)
      else none
  some_present : (t.line p.line).count ≠ 0

theorem count_ne_zero {x : Line} {p : Pos} (h : (x.pods.get p).present = true) : x.count ≠ 0 := by
  rw [count_eq_length]
  intro h0
  have hmem : p ∈ (List.finRange 20).filter fun p => (x.pods.get p).present := List.mem_filter.2 ⟨List.mem_finRange p, h⟩
  rw [List.length_eq_zero_iff.1 h0] at hmem
  cases hmem

/-- A line that has followed the find of its pod. -/
theorem foundLine_of {p : PodPos} {a : EnumAnswer} {w : Room}
    (hw : w.lines.map Line.facts = (podFoundAt u p a).lines.map Line.facts) (hf : Followed p.line w t)
    (hcore : (t.line p.line).core = (u.line p.line).core) (hpresent : (t.podAt p).present = true) : FoundLine p u t := by
  have hcount : (t.line p.line).count ≠ 0 := count_ne_zero hpresent
  have hexpected : (t.line p.line).expected = (u.line p.line).expected := congrArg LineCore.expected hcore
  obtain ⟨_, _, hstate, htimer⟩ := line_of_facts (line_facts hw p.line)
  have hset := setPod_sameLine u p (fun pod => { pod with
    present := true, kind := a.kind, privacy := a.privacy, bad := 0 }) p.line
  have hstate : (w.line p.line).lstate = (u.line p.line).lstate := hstate.trans hset.lstate
  have htimer : (w.line p.line).probeTimer = (u.line p.line).probeTimer := htimer.trans hset.timer
  have hrest : (w.line p.line).rest = .up := by
    unfold Line.rest
    rw [if_neg]
    rwa [← hf.count]
  have hlstate : (t.line p.line).lstate = if (u.line p.line).lstate = .scanning then .scanning else .up := by
    rw [hf.lstate, Line.due, hstate, hrest]
  refine ⟨hcore, hlstate, ?_, hcount⟩
  rw [hf.timer, htimer, hexpected, hlstate]
  refine if_congr (and_congr_left fun _ => ?_) rfl rfl
  split <;> simp_all

theorem findPod_line (u : Room) (p : PodPos) (a : EnumAnswer) : FoundLine p u (u.findPod p a.kind a.privacy) := by
  obtain ⟨hcore, hpods, _⟩ := u.findPod_lines p a.kind a.privacy
  have hpod := hpods p
  rw [if_pos rfl] at hpod
  have htold : (foundTold u p a).lines.map Line.facts = (podFoundAt u p a).lines.map Line.facts := by
    unfold foundTold
    split <;> simp
  rw [findPod_eq] at hcore hpod ⊢
  generalize foundTold u p a = w at htold hcore hpod ⊢
  have hrefresh : (w.refresh p).lines.map Line.facts = w.lines.map Line.facts := by simp
  generalize w.refresh p = v at hrefresh hcore hpod ⊢
  exact foundLine_of (hrefresh.trans htold) (afterPod_followed v p.line) (hcore p.line) (congrArg PodFacts.present hpod)

/-! ## The end of a scan, whatever the line's state (R28) -/

theorem endScan_line (u : Room) (l : LineNo) :
    (u.endScan l).line l = Line.probeCheck { u.line l with scan := none, lstate := (u.line l).rest } := by
  have hbare : (u.setLine l fun x => { x with scan := none }).line l = { u.line l with scan := none } :=
    Room.setLine_line u l _
  have hstate := setLineState_lines (u.setLine l fun x => { x with scan := none }) l (u.line l).rest
  rw [hbare] at hstate
  have hrest : Line.rest { u.line l with scan := none } = (u.line l).rest := rfl
  unfold Room.endScan Room.checkProbe
  dsimp only
  rw [Room.setLine_line, hbare, hrest]
  exact congrArg Line.probeCheck hstate

theorem endScan_told (u : Room) (l : LineNo) :
    .scanDone l (u.line l).count ∈ (u.endScan l).out
      ∧ ((u.line l).lstate ≠ (u.line l).rest → .lineState l (u.line l).rest ∈ (u.endScan l).out) := by
  have hbare : (u.setLine l fun x => { x with scan := none }).line l = { u.line l with scan := none } :=
    Room.setLine_line u l _
  have hstate := setLineState_lines (u.setLine l fun x => { x with scan := none }) l (u.line l).rest
  rw [hbare] at hstate
  have hrest : Line.rest { u.line l with scan := none } = (u.line l).rest := rfl
  have htold := setLineState_told (u.setLine l fun x => { x with scan := none }) l (u.line l).rest
  rw [hbare] at htold
  unfold Room.endScan Room.checkProbe
  dsimp only
  rw [hbare, hrest, hstate]
  generalize (u.setLine l fun x => { x with scan := none }).setLineState l (u.line l).rest = v at htold
  refine ⟨?_, fun h => ?_⟩
  · show _ ∈ v.out ++ [.scanDone l (u.line l).count]
    simp
  · exact List.mem_append_left _ (htold h)

theorem endScan_podAt (u : Room) (l : LineNo) (p : PodPos) : (u.endScan l).podAt p = u.podAt p := by
  unfold Room.endScan Room.checkProbe
  dsimp only
  rw [setLine_podAt _ l _ fun x => (probeCheck_parts x).1]
  show (Room.setLineState _ l _).podAt p = _
  rw [setLineState_podAt, setLine_podAt u l (fun x => { x with scan := none }) fun _ => rfl]

theorem endScan_line_ne (u : Room) {l k : LineNo} (h : l ≠ k) : (u.endScan l).line k = u.line k := by
  unfold Room.endScan Room.checkProbe
  dsimp only
  rw [Room.setLine_line_ne _ _ h]
  show (Room.setLineState _ l _).line k = _
  rw [setLineState_line_ne _ _ h, Room.setLine_line_ne _ _ h]

/-! ## The answer -/

theorem takeAnswer_none (u : Room) (l : LineNo) : u.takeAnswer l none = u := rfl

theorem takeAnswer_scan (u : Room) (l : LineNo) (a : EnumAnswer) {p : Pos} {left : Nat}
    (hscan : (u.line l).scan = some ⟨p, left⟩) :
    u.takeAnswer l (some a) = if (u.line l).hears p a = true then u.scanAnswer ⟨l, p⟩ a else u := by
  unfold Room.takeAnswer
  simp only [hscan]

theorem takeAnswer_probe (u : Room) (l : LineNo) (a : EnumAnswer) {p : Pos} {left : Nat}
    (hscan : (u.line l).scan = none) (hprobe : (u.line l).probe = some ⟨p, left⟩) :
    u.takeAnswer l (some a)
      = if (u.line l).hears p a = true then
          (u.setLine l fun x => { x with probe := none }).findPod ⟨l, p⟩ a.kind a.privacy
        else u := by
  unfold Room.takeAnswer
  simp only [hscan, hprobe]

theorem takeAnswer_idle (u : Room) (l : LineNo) (a : EnumAnswer) (hscan : (u.line l).scan = none)
    (hprobe : (u.line l).probe = none) : u.takeAnswer l (some a) = u := by
  unfold Room.takeAnswer
  simp only [hscan, hprobe]

/-- The line that hears an answer is the line as the frame came, in what an answer rests on. -/
theorem hears_hearFrame (r : Room) (l : LineNo) (f : UpFrame) (p : Pos) (a : EnumAnswer) :
    ((r.hearFrame l f).line l).scan = (r.line l).scan ∧ ((r.hearFrame l f).line l).probe = (r.line l).probe
      ∧ ((r.hearFrame l f).line l).hears p a = (a.passes && decide (a.pos = p) && !(r.line l).deaf p) := by
  have hcore := (hearFrame_lines r l f).1
  have hrehearsal : ((r.hearFrame l f).line l).rehearsal = (r.line l).rehearsal := congrArg LineCore.rehearsal hcore
  have hdeaf : ((r.hearFrame l f).line l).deaf p = (r.line l).deaf p := by
    unfold Line.deaf
    rw [hrehearsal]
  refine ⟨congrArg LineCore.scan hcore, congrArg LineCore.probe hcore, ?_⟩
  unfold Line.hears
  rw [hdeaf]

/-- An answer that is not taken changes nothing (R28, R29, R40). -/
theorem takeAnswer_refused (r : Room) (l : LineNo) (f : UpFrame) (a : EnumAnswer)
    (h : ∀ p left, ((r.line l).scan = some ⟨p, left⟩ ∨ (r.line l).scan = none ∧ (r.line l).probe = some ⟨p, left⟩) →
      a.passes = false ∨ a.pos ≠ p ∨ (r.line l).deaf p = true) :
    (r.hearFrame l f).takeAnswer l (some a) = r.hearFrame l f := by
  have hnot : ∀ p left, ((r.line l).scan = some ⟨p, left⟩ ∨ (r.line l).scan = none ∧ (r.line l).probe = some ⟨p, left⟩) →
      ¬ ((r.hearFrame l f).line l).hears p a = true := by
    intro p left hp
    rw [(hears_hearFrame r l f p a).2.2]
    rcases h p left hp with h | h | h <;> simp [h]
  obtain ⟨hscan, hprobe, _⟩ := hears_hearFrame r l f 0 a
  rcases hs : (r.line l).scan with _ | ⟨p, left⟩
  · rcases hp : (r.line l).probe with _ | ⟨p, left⟩
    · exact takeAnswer_idle _ l a (hscan.trans hs) (hprobe.trans hp)
    · rw [takeAnswer_probe _ l a (hscan.trans hs) (hprobe.trans hp), if_neg (hnot p left (.inr ⟨hs, hp⟩))]
  · rw [takeAnswer_scan _ l a (hscan.trans hs), if_neg (hnot p left (.inl hs))]

theorem upstream_answer (r : Room) (l : LineNo) (f : UpFrame) (a : Option EnumAnswer) :
    r.upstream l { f with answer := a }
      = lateFrame ((r.hearFrame l f).takeAnswer l a) l f
          (((r.hearFrame l f).takeAnswer l a).foundSince (r.hearFrame l f)) (r.keptSlots l f) := rfl

end Sys2Proof.Machine.PodLines
end

section
/-! The checked line of an upstream frame through its losses (R23 to R26, R29). -/

namespace Sys2Proof.Machine.PodLines

variable {r t : Room} {l : LineNo}

/-- A record changed but for its presence goes on with the course. -/
theorem LineCourse.setPod (h : LineCourse l r t) (p : PodPos) (f : Pod → Pod) (hf : ∀ x, (f x).present = x.present) :
    LineCourse l r (t.setPod p f) := by
  obtain ⟨hcore, hstate, htimer⟩ := setPod_sameLine t p f l
  refine h.same (congrArg LineCore.expected hcore) (fun q => ?_) hstate htimer List.prefix_rfl
  rw [Room.setPod_podAt]
  split
  · rename_i hq
    rw [hf, hq]
  · rfl

theorem LineCourse.checkSlot (h : LineCourse l r t) (good : Bool) (p : Pos) : LineCourse l r (t.checkSlot l good p) := by
  unfold Room.checkSlot
  split
  · exact h
  · rename_i hp
    have hbad := h.setPod ⟨l, p⟩ (fun pod => { pod with bad := pod.bad + 1 }) fun _ => rfl
    have hpres : ((t.setPod ⟨l, p⟩ fun pod => { pod with bad := pod.bad + 1 }).podAt ⟨l, p⟩).present = true := by
      rw [Room.setPod_podAt, if_pos rfl]
      simpa using hp
    split
    · exact h.setPod _ _ fun _ => rfl
    · dsimp only
      split
      · exact hbad.lose p .slot hpres
      · exact hbad

theorem slotsChecked_course (r : Room) (l : LineNo) (f : UpFrame) : LineCourse l r (slotsChecked r l f) := by
  unfold slotsChecked
  generalize allPositions.filter (fun p => ((r.line l).pods.get p).present) = ps
  have hkey : ∀ t, LineCourse l r t →
      LineCourse l r (ps.foldl (fun r' p => r'.checkSlot l (((r.line l).goodSlots f).contains p) p) t) := by
    induction ps with
    | nil => exact fun _ h => h
    | cons p ps ih => exact fun t h => ih _ (h.checkSlot _ p)
  exact hkey r (.refl l r)

/-- A line changed but for its settings, its pods, its state and its timer goes on with the course. -/
theorem LineCourse.setLine (h : LineCourse l r t) (f : Line → Line)
    (hf : ∀ x, (f x).pods = x.pods ∧ (f x).expected = x.expected ∧ (f x).lstate = x.lstate
      ∧ (f x).probeTimer = x.probeTimer) : LineCourse l r (t.setLine l f) := by
  have hline := Room.setLine_line t l f
  obtain ⟨_, hexpected, hstate, htimer⟩ := hf (t.line l)
  refine h.same ?_ (fun p => ?_) ?_ ?_ List.prefix_rfl
  · rw [hline, hexpected]
  · rw [setLine_podAt t l f fun x => (hf x).1]
  · rw [hline, hstate]
  · rw [hline, htimer]

theorem checkFrame_course (r : Room) (l : LineNo) (f : UpFrame) : LineCourse l r (r.checkFrame l f) := by
  have hterm : LineCourse l r ((slotsChecked r l f).setLine l fun x => x.hearTerm f.term) := by
    refine (slotsChecked_course r l f).setLine _ fun x => ?_
    unfold Line.hearTerm
    split <;> exact ⟨rfl, rfl, rfl, rfl⟩
  rw [checkFrame_eq]
  unfold Room.loseBeyond
  exact hterm.loseAll _ _

theorem hearFrame_course (r : Room) (l : LineNo) (f : UpFrame) : LineCourse l r (r.hearFrame l f) :=
  (checkFrame_course r l f).of_facts (line_facts (heardOf_lineFacts _ l f (r.keptSlots l f)) l) List.prefix_rfl

end Sys2Proof.Machine.PodLines
end

section
/-! UPSTREAM_FRAME with an answer (R28 to R30): what the answer leaves, and what follows it in the frame. -/

namespace Sys2Proof.Machine.PodLines

variable {r t u : Room} {p : PodPos} {a : EnumAnswer}

/-! ## What the answer leaves -/

/-- What an answer leaves, its line's state and its enumeration apart. -/
structure Answered (p : PodPos) (a : EnumAnswer) (r t : Room) : Prop where
  found : Found p a (seatAt r.map.running p) t
  held : Held r t
  pods : ∀ q, q ≠ p → (t.podAt q).facts = (r.podAt q).facts
  others : ∀ k, p.line ≠ k → (t.line k).facts = (r.line k).facts
  core : (t.line p.line).core
    = { (r.line p.line).core with scan := (t.line p.line).scan, probe := (t.line p.line).probe }

theorem findPod_answered (u : Room) (p : PodPos) (a : EnumAnswer) (hcalm : u.map.switch = none) :
    Answered p a u (u.findPod p a.kind a.privacy) := by
  obtain ⟨hcore, hpods, hothers⟩ := u.findPod_lines p a.kind a.privacy
  have hsteps : Steps frameLeave u (u.findPod p a.kind a.privacy) :=
    (Steps.refl u).findPod p _ _ frameLeave_wide trivial (fun n _ => frameLeave_serves n) (.inl ⟨hcalm, id⟩)
  refine ⟨findPod_found u p a hcalm, hsteps.held id, fun q hq => ?_, hothers, ?_⟩
  · rw [hpods q, if_neg (Ne.symm hq)]
  · rw [← hcore]
    rfl

/-- A line of whose record nothing but its state, its timer and its enumeration has changed. -/
theorem Answered.on (h : Answered p a r t) (hs : Steps (besideLeave p (seatAt r.map.running p)) t u)
    (hpods : ∀ q, u.podAt q = t.podAt q) (hothers : ∀ k, p.line ≠ k → u.line k = t.line k)
    (hcore : (u.line p.line).core
      = { (t.line p.line).core with scan := (u.line p.line).scan, probe := (u.line p.line).probe }) : Answered p a r u := by
  refine ⟨h.found.beside hs, h.held.trans (hs.held id), fun q hq => by rw [hpods q, h.pods q hq],
    fun k hk => by rw [hothers k hk, h.others k hk], ?_⟩
  rw [hcore, h.core]

/-- The next step of a scan. -/
theorem Answered.step (h : Answered p a r t) (e : Enumeration) :
    Answered p a r (t.setLine p.line fun x => { x with scan := some e }) := by
  have hline := Room.setLine_line t p.line fun x => { x with scan := some e }
  refine h.on ((Steps.refl t).then (.line p.line _ fun _ => ⟨rfl, rfl, rfl⟩))
    (fun q => setLine_podAt t p.line (fun x => { x with scan := some e }) (fun _ => rfl) q)
    (fun k hk => Room.setLine_line_ne t _ hk) ?_
  rw [hline]
  rfl

theorem endScan_core (t : Room) (l : LineNo) :
    ((t.endScan l).line l).core = { (t.line l).core with scan := none } := by
  rw [endScan_line, probeCheck_eq]
  rfl

theorem Answered.last (h : Answered p a r t) : Answered p a r (t.endScan p.line) := by
  have hcore := endScan_core t p.line
  refine h.on ((Steps.refl t).endScan p.line) (endScan_podAt t p.line) (fun k hk => endScan_line_ne t hk) ?_
  have hscan : ((t.endScan p.line).line p.line).scan = none := congrArg LineCore.scan hcore
  have hprobe : ((t.endScan p.line).line p.line).probe = (t.line p.line).probe := congrArg LineCore.probe hcore
  rw [hcore, hscan, hprobe]
  rfl

theorem scanAnswer_next (u : Room) (p : PodPos) (a : EnumAnswer) (h : p.pos.val + 1 < 20) :
    u.scanAnswer p a
      = (u.findPod p a.kind a.privacy).setLine p.line fun x => { x with scan := some ⟨⟨p.pos.val + 1, h⟩, 20⟩ } := by
  unfold Room.scanAnswer nextPos
  rw [dif_pos h]

theorem scanAnswer_last (u : Room) (p : PodPos) (a : EnumAnswer) (h : ¬ p.pos.val + 1 < 20) :
    u.scanAnswer p a = (u.findPod p a.kind a.privacy).endScan p.line := by
  unfold Room.scanAnswer nextPos
  rw [dif_neg h]

theorem scanAnswer_answered (u : Room) (p : PodPos) (a : EnumAnswer) (hcalm : u.map.switch = none) :
    Answered p a u (u.scanAnswer p a) := by
  by_cases h : p.pos.val + 1 < 20
  · rw [scanAnswer_next u p a h]
    exact (findPod_answered u p a hcalm).step _
  · rw [scanAnswer_last u p a h]
    exact (findPod_answered u p a hcalm).last

/-- A line whose probe has ended. -/
def probeEnded (x : Line) : Line := { x with probe := none }

theorem probeAnswer_answered (u : Room) (p : PodPos) (a : EnumAnswer) (hcalm : u.map.switch = none) :
    Answered p a u ((u.setLine p.line probeEnded).findPod p a.kind a.privacy) := by
  have hpods := setLine_podAt u p.line probeEnded fun _ => rfl
  have hothers : ∀ k, p.line ≠ k → (u.setLine p.line probeEnded).line k = u.line k := fun k hk =>
    Room.setLine_line_ne u _ hk
  have hline := Room.setLine_line u p.line probeEnded
  obtain ⟨hfound, hheld, hkept, hlines, hcore⟩ := findPod_answered (u.setLine p.line probeEnded) p a hcalm
  refine ⟨hfound, Held.trans ?_ hheld, fun q hq => by rw [hkept q hq, hpods q], fun k hk => by rw [hlines k hk, hothers k hk],
    ?_⟩
  · exact Steps.held (P := frameLeave) ((Steps.refl u).then (.line p.line probeEnded fun _ => ⟨rfl, rfl, rfl⟩)) id
  · rw [hcore, hline]
    rfl

/-! ## The line after the answer (R23, R28, R29) -/

/-- The line of an answer: a scan step moves outward or ends the scan, a probe's answer ends the probe. -/
structure LineAnswered (l : LineNo) (p : Pos) (r t : Room) : Prop where
  step : (r.line l).scan ≠ none → (t.line l).probe = (r.line l).probe
  next : (r.line l).scan ≠ none → ∀ h : p.val + 1 < 20, (t.line l).scan = some ⟨⟨p.val + 1, h⟩, 20⟩
    ∧ ((r.line l).lstate = .scanning → (t.line l).lstate = .scanning ∧ (t.line l).probeTimer = none)
  last : (r.line l).scan ≠ none → p.val = 19 → (t.line l).scan = none ∧ (t.line l).lstate = .up
    ∧ .scanDone l (t.line l).count ∈ t.out
    ∧ ((r.line l).lstate = .scanning → .lineState l .up ∈ t.out
      ∧ (t.line l).probeTimer = if (t.line l).count < (r.line l).expected then some 500 else none)
  probe : (r.line l).scan = none → (t.line l).scan = none ∧ (t.line l).probe = none
    ∧ ((r.line l).lstate ≠ .scanning → (t.line l).lstate = .up
      ∧ (t.line l).probeTimer
        = if (t.line l).count < (r.line l).expected then some ((r.line l).probeTimer.getD 500) else none)

/-- What follows leaves the line of an answer so. -/
theorem LineAnswered.then {l : LineNo} {p : Pos} (h : LineAnswered l p r t) (hs : SameLine (t.line l) (u.line l))
    (hcount : (u.line l).count = (t.line l).count) (hout : t.out <+: u.out) : LineAnswered l p r u := by
  have hscan : (u.line l).scan = (t.line l).scan := congrArg LineCore.scan hs.core
  have hprobe : (u.line l).probe = (t.line l).probe := congrArg LineCore.probe hs.core
  obtain ⟨hstep, hnext, hlast, hend⟩ := h
  refine ⟨fun hne => hprobe.trans (hstep hne), ?_, ?_, ?_⟩
  · rwa [hscan, hs.lstate, hs.timer]
  · rw [hscan, hs.lstate, hs.timer, hcount]
    intro hs h19
    obtain ⟨h1, h2, h3, h4⟩ := hlast hs h19
    exact ⟨h1, h2, hout.subset h3, fun hl => ⟨hout.subset (h4 hl).1, (h4 hl).2⟩⟩
  · rwa [hscan, hprobe, hs.lstate, hs.timer, hcount]

/-- The line of a scan that moves outward after a find. -/
theorem FoundLine.next {l : LineNo} {p : Pos} (hf : FoundLine ⟨l, p⟩ r t) (hscan : (r.line l).scan ≠ none)
    (h : p.val + 1 < 20) : LineAnswered l p r (t.setLine l fun x => { x with scan := some ⟨⟨p.val + 1, h⟩, 20⟩ }) := by
  obtain ⟨hcore, hlstate, htimer, _⟩ := hf
  dsimp only at hcore hlstate htimer
  have hprobe : (t.line l).probe = (r.line l).probe := congrArg LineCore.probe hcore
  have hline := Room.setLine_line t l fun x => { x with scan := some ⟨⟨p.val + 1, h⟩, 20⟩ }
  generalize t.setLine l (fun x => { x with scan := some ⟨⟨p.val + 1, h⟩, 20⟩ }) = v at hline
  refine ⟨fun _ => ?_, fun _ _ => ⟨?_, fun hs => ?_⟩, fun _ h19 => by omega, fun hnone => absurd hnone hscan⟩
  · rw [hline]
    exact hprobe
  · rw [hline]
  · rw [hline]
    dsimp only
    rw [hlstate, htimer]
    simp [hs]

/-- The line of a scan that ends after a find. -/
theorem FoundLine.last {l : LineNo} {p : Pos} (hf : FoundLine ⟨l, p⟩ r t) (hscan : (r.line l).scan ≠ none)
    (h : ¬ p.val + 1 < 20) : LineAnswered l p r (t.endScan l) := by
  obtain ⟨hcore, hlstate, htimer, hsome⟩ := hf
  dsimp only at hcore hlstate htimer hsome
  have hprobe : (t.line l).probe = (r.line l).probe := congrArg LineCore.probe hcore
  have hexpected : (t.line l).expected = (r.line l).expected := congrArg LineCore.expected hcore
  have hline := endScan_line t l
  have hcount : ((t.endScan l).line l).count = (t.line l).count := count_congr fun q => by
    show ((t.endScan l).podAt ⟨l, q⟩).present = _
    rw [endScan_podAt]
    rfl
  have hrest : (t.line l).rest = .up := by
    unfold Line.rest
    rw [if_neg hsome]
  obtain ⟨hdone, htold⟩ := endScan_told t l
  rw [probeCheck_eq] at hline
  generalize t.endScan l = v at hline hcount hdone htold
  refine ⟨fun _ => ?_, fun _ hlt => absurd hlt h, fun _ _ => ⟨?_, ?_, by rw [hcount]; exact hdone, fun hs => ⟨?_, ?_⟩⟩,
    fun hnone => absurd hnone hscan⟩
  · rw [hline]
    exact hprobe
  · rw [hline]
  · rw [hline]
    exact hrest
  · rw [← hrest]
    refine htold ?_
    rw [hrest, hlstate]
    simp [hs]
  · have hnone : (t.line l).probeTimer = none := by
      rw [htimer]
      simp [hs]
    rw [hcount, hline]
    dsimp only
    rw [hrest, hnone, ← hexpected]
    exact if_congr (and_iff_right (by decide)) rfl rfl

theorem scanAnswer_line (u : Room) (l : LineNo) (p : Pos) (a : EnumAnswer) (hscan : (u.line l).scan ≠ none) :
    LineAnswered l p u (u.scanAnswer ⟨l, p⟩ a) := by
  have hf := findPod_line u ⟨l, p⟩ a
  by_cases h : p.val + 1 < 20
  · rw [scanAnswer_next u ⟨l, p⟩ a h]
    exact hf.next hscan h
  · rw [scanAnswer_last u ⟨l, p⟩ a h]
    exact hf.last hscan h

theorem probeAnswer_line (u : Room) (l : LineNo) (p : Pos) (a : EnumAnswer) (hscan : (u.line l).scan = none) :
    LineAnswered l p u ((u.setLine l probeEnded).findPod ⟨l, p⟩ a.kind a.privacy) := by
  have hline := Room.setLine_line u l probeEnded
  obtain ⟨hcore, hlstate, htimer, _⟩ := findPod_line (u.setLine l probeEnded) ⟨l, p⟩ a
  dsimp only at hcore hlstate htimer
  rw [hline] at hcore hlstate htimer
  generalize (u.setLine l probeEnded).findPod ⟨l, p⟩ a.kind a.privacy = v at *
  refine ⟨fun h => absurd hscan h, fun h => absurd hscan h, fun h => absurd hscan h, fun _ =>
    ⟨(congrArg LineCore.scan hcore).trans hscan, congrArg LineCore.probe hcore, fun hs => ⟨?_, ?_⟩⟩⟩
  · rw [hlstate]
    exact if_neg hs
  · rw [htimer]
    refine if_congr (and_iff_right ?_) rfl rfl
    exact hs

end Sys2Proof.Machine.PodLines
end

section
/-! UPSTREAM_FRAME with an answer (R28 to R30): the rest of the frame, and the statement. -/

namespace Sys2Proof.Machine.PodLines

variable {r t u v w : Room} {p : PodPos} {a : EnumAnswer} {l : LineNo} {f : UpFrame} {ks : List Pos}

/-! ## The rest of the frame -/

/-- The seat of a pod that this frame's answer has found takes its reference alone (R24, R30). -/
theorem audioOf_found (found : PodPos → Bool) (n : Seat) (hplace : u.placeOf n = some p) (hfound : found p = true) :
    u.audioOf found n = u.hearLoud n := by
  unfold Room.audioOf
  rw [hplace]
  exact if_pos hfound

/-- What follows an answer leaves the found pod and its seat alone. -/
theorem Answered.late (h : Answered p a r t) (f : UpFrame) (hgone : (r.podAt p).present = false) (hks : p.pos ∉ ks)
    (hcalm : r.map.switch = none) :
    Steps (besideLeave p (seatAt r.map.running p)) t (lateFrame t p.line f (t.foundSince r) ks) := by
  have hmap := h.held.map
  have hcalm' : t.map.switch = none := hmap.switch.trans hcalm
  have hfound : t.foundSince r p = true := by
    unfold Room.foundSince
    rw [show (t.podAt p).present = true from congrArg PodFacts.present h.found.pod, hgone]
    rfl
  have hother : ∀ q ∈ ks, ∀ n, seatAt t.map.running ⟨p.line, q⟩ = some n → seatAt r.map.running p ≠ some n := by
    intro q hq n hn hp
    rw [hmap.running] at hn
    have hpq := seatAt_unique hp hn
    rw [hpq] at hks
    exact hks hq
  refine late_steps t p.line f _ ks (besideLeave_wide _ _) (fun n _ u hu => ?_) (fun q hq => ?_) (fun q hq n hn => ?_)
    (fun q hq => .inr ⟨trivial, .inr ⟨trivial, trivial⟩, fun n hn => ?_⟩) (.inl ⟨hcalm', id⟩)
  · by_cases hn : seatAt r.map.running p = some n
    · have hplace : u.placeOf n = some p := by
        unfold Room.placeOf Room.entry
        rw [(hu.map_kept id).running, hmap.running]
        exact place_of_seatAt hn
      rw [audioOf_found _ n hplace hfound]
      exact hu.hearLoud n
    · exact hu.audioOf _ n (.inr ⟨hn, fun _ => trivial⟩) (.inl ⟨hcalm', id⟩)
  · intro hp
    rw [← hp] at hks
    exact hks hq
  · exact fun _ _ _ _ _ => .inl (hother q hq n hn)
  · exact ⟨hother q hq n hn, fun _ _ _ _ _ => .inl (hother q hq n hn)⟩

theorem LateLines.of_lines (h : LateLines l f ks v w) (hlines : u.lines = w.lines) : LateLines l f ks v u := by
  obtain ⟨hsame, hothers, hpods⟩ := h
  simp only [Room.line, Room.podAt] at *
  rw [← hlines] at hsame hothers hpods
  exact ⟨hsame, hothers, hpods⟩

theorem LateLines.count (h : LateLines l f ks v w) : (w.line l).count = (v.line l).count := by
  refine count_congr fun q => ?_
  have hq := congrArg PodFacts.present (h.pods q)
  refine Eq.trans hq ?_
  split
  · unfold heardPod
    split <;> rfl
  · rfl

/-- The rest of a frame with no answer keeps the maps and the settings. -/
theorem late_held (v : Room) (l : LineNo) (f : UpFrame) (found : PodPos → Bool) (ks : List Pos)
    (hcalm : v.map.switch = none) : Held v (lateFrame v l f found ks) := by
  have hs : frameLeave.Settles v := .inl ⟨hcalm, id⟩
  have hsteps : Steps frameLeave v (lateFrame v l f found ks) :=
    late_steps v l f found ks frameLeave_wide (fun n _ u hu => hu.audioOf _ n (.inr ⟨trivial, fun _ => trivial⟩) hs)
      (fun _ _ => trivial) (fun _ _ _ _ _ _ _ _ _ => trivial)
      (fun _ _ => .inr ⟨trivial, .inr ⟨trivial, trivial⟩, fun _ _ => ⟨trivial, fun _ _ _ _ _ => trivial⟩⟩) hs
  exact hsteps.held id

/-- What stands of a line of which only the pods, the state, the timer and the enumeration differ from another's. -/
theorem facts_of_core {x y : Line} (h : y.core = { x.core with scan := y.scan, probe := y.probe }) :
    y.facts = { x.facts with
      pods := y.facts.pods, lstate := y.lstate, probeTimer := y.probeTimer, scan := y.scan, probe := y.probe } := by
  simp only [Line.core, LineCore.mk.injEq] at h
  obtain ⟨hexpected, hlimit, _, _, hrehearsal, hterm⟩ := h
  simp only [Line.facts, hexpected, hlimit, hrehearsal, hterm]

/-- The lines after an answer's frame, beside those after the frame without it. -/
theorem Answered.lines (h : Answered p a r t) (hw : LateLines p.line f ks r w)
    (hu : LateLines p.line f ks t u) :
    u.standing.lines = w.standing.lines.modify p.line (fun y => { y with
      pods := (u.line p.line).facts.pods, lstate := (u.line p.line).lstate, probeTimer := (u.line p.line).probeTimer
      scan := (u.line p.line).scan, probe := (u.line p.line).probe }) := by
  have hget : ∀ (x : Room) k, x.standing.lines.get k = (x.line k).facts := fun x k => Tab.get_map ..
  apply Tab.ext_get
  intro k
  rw [Tab.get_modify, hget, hget]
  split
  · rename_i hk
    subst hk
    have hcore := (hu.same p.line).core.trans h.core
    have hscan : (u.line p.line).scan = (t.line p.line).scan := congrArg LineCore.scan (hu.same p.line).core
    have hprobe : (u.line p.line).probe = (t.line p.line).probe := congrArg LineCore.probe (hu.same p.line).core
    rw [← (hw.same p.line).core, ← hscan, ← hprobe] at hcore
    exact facts_of_core hcore
  · rename_i hk
    rw [hu.others k hk, h.others k hk, hget, hw.others k hk]

/-! ## The statement -/

/-- An answer to the step or the probe in flight, as the line takes it (R28, R29, R40). -/
theorem answer_taken (r : Room) (l : LineNo) (f : UpFrame) {p : Pos} {left : Nat} {a : EnumAnswer}
    (hpass : a.passes = true) (hpos : a.pos = p)
    (hsteps : (r.line l).scan = some ⟨p, left⟩ ∨ (r.line l).scan = none ∧ (r.line l).probe = some ⟨p, left⟩)
    (hdeaf : (r.line l).deaf p = false) (hcalm : r.map.switch = none) :
    Answered ⟨l, p⟩ a (r.hearFrame l f) ((r.hearFrame l f).takeAnswer l (some a))
      ∧ LineAnswered l p (r.hearFrame l f) ((r.hearFrame l f).takeAnswer l (some a)) := by
  obtain ⟨hscan, hprobe, hhears⟩ := hears_hearFrame r l f p a
  have hcalm' : (r.hearFrame l f).map.switch = none := (hearFrame_held r l f hcalm).map.switch.trans hcalm
  rw [hpass, hpos, hdeaf] at hhears
  generalize r.hearFrame l f = v at *
  rcases hsteps with hs | ⟨hs, hp⟩
  · rw [takeAnswer_scan v l a (hscan.trans hs), if_pos (by simpa using hhears)]
    exact ⟨scanAnswer_answered v ⟨l, p⟩ a hcalm', scanAnswer_line v l p a (by rw [hscan, hs]; simp)⟩
  · rw [takeAnswer_probe v l a (hscan.trans hs) (hprobe.trans hp), if_pos (by simpa using hhears)]
    exact ⟨probeAnswer_answered v ⟨l, p⟩ a hcalm', probeAnswer_line v l p a (hscan.trans hs)⟩

theorem exec_upstreamFrame (l : LineNo) (f : UpFrame) (s : State) :
    exec (.upstreamFrame l f) s = .next (s.act fun r => r.upstream l f) := rfl

/-- A command's effect rests on what it does to the blocks as they stand. -/
theorem act_congr (s : State) {f g : Room → Room} (h : f s.room = g s.room) : s.act f = s.act g := by
  unfold State.act
  rw [h]

/-- A position that holds no pod holds none after a frame's checks. -/
theorem hearFrame_absent (r : Room) (l : LineNo) (f : UpFrame) {p : Pos} (h : (r.podAt ⟨l, p⟩).present = false) :
    ((r.hearFrame l f).podAt ⟨l, p⟩).present = false := by
  refine (congrArg PodFacts.present ((hearFrame_lines r l f).2.1 p)).trans ?_
  have habs : ((r.line l).pods.get p).present = false := h
  unfold framedPod
  rw [habs]
  exact habs

/-- Settles O30: the answer by `answer_taken`; what follows it in the frame leaves the found pod and its seat alone. -/
theorem upstreamFrameAnswersScan : Obligations.UpstreamFrameAnswersScan := by
  unfold Obligations.UpstreamFrameAnswersScan
  refine ⟨fun s l f p left a ⟨⟨hheld, hsettled⟩, hcalm⟩ hanswer hpass hpos => ?_, fun s l f a => ?_⟩
  · dsimp only
    intro hsteps hdeaf habs
    obtain ⟨hans, hline⟩ := answer_taken s.room l f hpass hpos hsteps hdeaf hcalm
    have hact := State.act_awake s hheld fun r => r.upstream l f
    have hact' := State.act_awake s hheld fun r => r.upstream l { f with answer := none }
    have hf : f = { f with answer := some a } := by rw [← hanswer]
    have hup : s.room.upstream l f = _ := (congrArg (s.room.upstream l) hf).trans (upstream_answer s.room l f (some a))
    rw [hup] at hact
    rw [upstream_answer] at hact'
    have hheld0 := hearFrame_held s.room l f hcalm
    have hscan0 := (hearFrame_course s.room l f).scanning_iff
    obtain ⟨hscan, hprobe, _⟩ := hears_hearFrame s.room l f p a
    have hexpected : ((s.room.hearFrame l f).line l).expected = (s.room.line l).expected :=
      congrArg LineCore.expected (hearFrame_lines s.room l f).1
    have hgone := hearFrame_absent s.room l f habs
    have hks : p ∉ s.room.keptSlots l f := fun hp => by
      rw [keptSlots_present s.room l f hp] at habs
      cases habs
    have hswitch0 : (s.room.hearFrame l f).map.switch = none := hheld0.map.switch.trans hcalm
    generalize s.room.hearFrame l f = v at *
    rw [takeAnswer_none] at hact'
    generalize v.takeAnswer l (some a) = t at *
    generalize s.room.keptSlots l f = ks at *
    have hrest := late_held v l f (v.foundSince v) ks hswitch0
    have hquiet := late_lines v l f (v.foundSince v) ks
    have hlate := hans.late f hgone hks hswitch0
    have hloud := late_lines t l f (t.foundSince v) ks
    dsimp only at hlate
    generalize lateFrame v l f (v.foundSince v) ks = w at *
    generalize lateFrame t l f (t.foundSince v) ks = u at *
    have hsw : w.map.switch = none := hrest.map.switch.trans hswitch0
    have hsu : u.map.switch = none := ((hans.held.trans (hlate.held id)).map.switch).trans hswitch0
    have hend := hlate.settled (.inl ⟨hans.held.map.switch.trans hswitch0, id⟩)
    have hw := hquiet.of_lines (u := w.settle.sent) (Room.settle_calm_keeps w hsw).1
    have hu := hloud.of_lines (u := u.settle) (Room.settle_calm_keeps u hsu).1
    have hfound := hans.found.beside hend
    have hseat := hheld0.map.running
    have hthen := hline.then (hu.same l) hu.count hend.grows
    have hstands := ((hheld0.trans hans.held).trans (hend.held id)).stands
    have hlines := hans.lines hw hu
    rw [hseat] at hfound
    generalize u.settle = z at *
    generalize w.settle.out = es at *
    generalize w.settle.sent = y at *
    refine ⟨es, z.out, y, z.sent, congrArg _ hact', congrArg _ hact, hfound.pod, hfound.shows, fun q hq => ?_, fun n hn => ?_,
      hlines, hstands, hfound.told, fun hs => ?_, fun hs => ?_⟩
    · refine (hu.pods q).trans (Eq.trans ?_ (hw.pods q).symm)
      rw [hans.pods ⟨l, q⟩ (by simp [hq])]
    · have hn := hfound.seat n hn
      exact ⟨hn.floor, hn.mute, hn.monitor, hn.privacy, hn.held, hn.seed, hn.seedLow⟩
    · have hne : (v.line l).scan ≠ none := by
        rw [hscan, hs]
        simp
      refine ⟨(hthen.step hne).trans hprobe, fun h => ?_, fun h19 => ?_⟩
      · obtain ⟨hnext, hstays⟩ := hthen.next hne h
        exact ⟨hnext, fun hx => hstays (hscan0.2 hx)⟩
      · obtain ⟨hended, hup, hdone, htold⟩ := hthen.last hne h19
        rw [hexpected] at htold
        exact ⟨hended, hup, hdone, fun hx => htold (hscan0.2 hx)⟩
    · obtain ⟨hnone, hended, hup⟩ := hthen.probe (hscan.trans hs)
      rw [hexpected] at hup
      refine ⟨hnone, hended, fun hx => ?_⟩
      have htimer : (y.line l).probeTimer = (v.line l).probeTimer := (hw.same l).timer
      rw [htimer]
      exact hup fun hx' => hx (hscan0.1 hx')
  · dsimp only
    intro hnot
    have hsame : s.room.upstream l { f with answer := some a } = s.room.upstream l { f with answer := none } := by
      rw [upstream_answer, upstream_answer, takeAnswer_refused s.room l f a hnot, takeAnswer_none]
    have hact := act_congr s (f := fun r => r.upstream l { f with answer := some a })
      (g := fun r => r.upstream l { f with answer := none }) hsame
    rw [exec_upstreamFrame, exec_upstreamFrame, hact]

end Sys2Proof.Machine.PodLines
end

section
/-! The checks of an upstream frame (R24 to R26): the seats and the events of the pods that they lose. -/

namespace Sys2Proof.Machine.PodLines

variable {P : Leave} {r t u : Room} {n : Seat} {l : LineNo} {f : UpFrame}

/-! ## Trip records through a chain that does not set them -/

theorem Step.trips_kept (h : Step P r t) (n : Seat) (hn : ¬ P.trip n) : (t.fbSeat n).facts = (r.fbSeat n).facts := by
  cases h
  case live m b => exact get_of_map_eq (Tab.map_modify _ _ _ _ (settled_facts _ _)) n
  case fb m f h =>
    have hne : m ≠ n := by
      rintro rfl
      exact hn h.2
    rw [setFb_fbSeat, if_neg hne]
  all_goals exact get_of_map_eq (by simp) n

theorem Steps.trips_kept (h : Steps P r t) (n : Seat) (hn : ¬ P.trip n) : (t.fbSeat n).facts = (r.fbSeat n).facts :=
  h.keeps (C := fun u => (u.fbSeat n).facts = (r.fbSeat n).facts) (fun _ _ hu hv => (hv.trips_kept n hn).trans hu) rfl

/-! ## The seats -/

theorem Course.setPod (h : Course n r t) (p : PodPos) (f : Pod → Pod) (hf : ∀ x, (f x).present = x.present) :
    Course n r (t.setPod p f) := by
  refine h.side ((Steps.refl t).then (.pod p f trivial)) (fun hd => hd.of_same ⟨rfl, rfl, rfl, rfl⟩ rfl rfl) fun q => ?_
  rw [Room.setPod_podAt]
  split
  · rename_i hq
    rw [hf, hq]
  · rfl

theorem Course.checkSlot (h : Course n r t) (l : LineNo) (good : Bool) (p : Pos) :
    Course n r (t.checkSlot l good p) := by
  unfold Room.checkSlot
  split
  · exact h
  · rename_i hp
    have hbad := h.setPod ⟨l, p⟩ (fun pod => { pod with bad := pod.bad + 1 }) fun _ => rfl
    have hpres : ((t.setPod ⟨l, p⟩ fun pod => { pod with bad := pod.bad + 1 }).podAt ⟨l, p⟩).present = true := by
      rw [Room.setPod_podAt, if_pos rfl]
      simpa using hp
    split
    · exact h.setPod _ _ fun _ => rfl
    · dsimp only
      split
      · exact hbad.lose _ .slot hpres
      · exact hbad

theorem checkSlots_course (h : Course n r t) (l : LineNo) (good : Pos → Bool) (ps : List Pos) :
    Course n r (ps.foldl (fun u p => u.checkSlot l (good p) p) t) := by
  induction ps generalizing t with
  | nil => exact h
  | cons p ps ih => exact ih (h.checkSlot l (good p) p)

theorem checkFrame_seats (r : Room) (l : LineNo) (f : UpFrame) (hcalm : r.map.switch = none) (n : Seat) :
    Course n r (r.checkFrame l f) := by
  have hslots : Course n r (slotsChecked r l f) := checkSlots_course (.refl hcalm) l _ _
  rw [checkFrame_eq]
  unfold Room.loseBeyond
  exact (hslots.line l _ fun x => hearTerm_parts x f.term).loseAll l _ _

/-! ## The events -/

theorem losePod_told (u : Room) (l : LineNo) (p : Pos) (w : LossCause) (hcalm : u.map.switch = none)
    (hp : (u.podAt ⟨l, p⟩).present = true) :
    .podLost ⟨l, p⟩ w (seatAt u.map.running ⟨l, p⟩) ∈ (u.losePod ⟨l, p⟩ w).out := by
  have h := u.loseAll_events l [p] w hcalm p (List.mem_singleton_self p) hp
  unfold Room.loseAll at h
  rwa [List.foldl_cons, List.foldl_nil, if_pos hp] at h

/-- A bad slot at the lost limit loses its pod (R24). -/
theorem checkSlot_told (u : Room) (l : LineNo) (p : Pos) (hcalm : u.map.switch = none)
    (hp : (u.podAt ⟨l, p⟩).present = true) (hbad : (u.line l).lostLimit ≤ (u.podAt ⟨l, p⟩).bad + 1) :
    .podLost ⟨l, p⟩ .slot (seatAt u.map.running ⟨l, p⟩) ∈ (u.checkSlot l false p).out := by
  have hpod : (u.setPod ⟨l, p⟩ fun pod => { pod with bad := pod.bad + 1 }).podAt ⟨l, p⟩
      = { u.podAt ⟨l, p⟩ with bad := (u.podAt ⟨l, p⟩).bad + 1 } := by
    rw [Room.setPod_podAt, if_pos rfl]
  have hlimit : ((u.setPod ⟨l, p⟩ fun pod => { pod with bad := pod.bad + 1 }).line l).lostLimit = (u.line l).lostLimit :=
    congrArg LineCore.lostLimit (setPod_sameLine u ⟨l, p⟩ _ l).core
  unfold Room.checkSlot
  rw [if_neg (by simp [hp]), if_neg (by simp)]
  dsimp only
  rw [hpod, hlimit, if_pos hbad]
  exact losePod_told (u.setPod ⟨l, p⟩ fun pod => { pod with bad := pod.bad + 1 }) l p .slot hcalm (by rw [hpod]; exact hp)

/-- A list of different positions, split at one of them. -/
theorem split_at {ps : List Pos} (hn : ps.Nodup) {p : Pos} (hp : p ∈ ps) :
    ∃ as bs, ps = as ++ p :: bs ∧ p ∉ as ∧ p ∉ bs ∧ as.Nodup := by
  obtain ⟨as, bs, rfl⟩ := List.append_of_mem hp
  rw [List.nodup_append] at hn
  obtain ⟨has, hbs, hdisj⟩ := hn
  exact ⟨as, bs, rfl, fun h => hdisj p h p (List.mem_cons_self ..) rfl, (List.nodup_cons.1 hbs).1, has⟩

theorem checkSlots_grow (u : Room) (l : LineNo) (good : Pos → Bool) (ps : List Pos) :
    u.out <+: (ps.foldl (fun v p => v.checkSlot l (good p) p) u).out := by
  induction ps generalizing u with
  | nil => exact List.prefix_rfl
  | cons p ps ih => exact (Room.checkSlot_grows u l (good p) p List.prefix_rfl).trans (ih _)

/-- Each pod that a bad slot loses among them is reported (R24). -/
theorem checkSlots_told (r : Room) (l : LineNo) (good : Pos → Bool) {ps : List Pos} (hn : ps.Nodup)
    (hcalm : r.map.switch = none) {p : Pos} (hp : p ∈ ps) (hpres : (r.podAt ⟨l, p⟩).present = true)
    (hgood : good p = false) (hbad : (r.line l).lostLimit ≤ (r.podAt ⟨l, p⟩).bad + 1) :
    .podLost ⟨l, p⟩ .slot (seatAt r.map.running ⟨l, p⟩) ∈ (ps.foldl (fun v q => v.checkSlot l (good q) q) r).out := by
  obtain ⟨as, bs, rfl, has, _, hnas⟩ := split_at hn hp
  obtain ⟨hcore, hpods, _⟩ := r.checkSlots_lines l good as hnas
  have hcourse : Course 0 r (as.foldl (fun v q => v.checkSlot l (good q) q) r) := checkSlots_course (.refl hcalm) l good as
  rw [List.foldl_append, List.foldl_cons]
  generalize as.foldl (fun v q => v.checkSlot l (good q) q) r = u at *
  have hpod := hpods ⟨l, p⟩
  rw [if_neg fun h => has h.2.1] at hpod
  have hlimit : (u.line l).lostLimit = (r.line l).lostLimit := congrArg LineCore.lostLimit (hcore l)
  have htold := checkSlot_told u l p hcourse.calm ((congrArg PodFacts.present hpod).trans hpres) (by
    rw [hlimit, show (u.podAt ⟨l, p⟩).bad = (r.podAt ⟨l, p⟩).bad from congrArg PodFacts.bad hpod]
    exact hbad)
  rw [hcourse.map] at htold
  rw [hgood]
  exact (checkSlots_grow _ l good bs).subset htold

/-- A pod that the checks of a frame lose. -/
def LostBy (x : Line) (f : UpFrame) (p : Pos) : Prop := (x.pods.get p).present = true ∧ keptAfter x f p = false

/-- Each pod that the checks of a frame lose is reported, with its cause (R24, R25). -/
theorem checkFrame_told (r : Room) (l : LineNo) (f : UpFrame) (hcalm : r.map.switch = none) {p : Pos}
    (hlost : LostBy (r.line l) f p) :
    .podLost ⟨l, p⟩
        (if (r.line l).goodSlot f p = true ∨ badAfter (r.line l) f p < (r.line l).lostLimit then .brk else .slot)
        (seatAt r.map.running ⟨l, p⟩) ∈ (r.checkFrame l f).out := by
  obtain ⟨hpres, hkept⟩ := hlost
  have hgrow : (slotsChecked r l f).out <+: (r.checkFrame l f).out := by
    rw [checkFrame_eq]
    exact Room.loseAll_grows _ _ _ _ List.prefix_rfl
  have hcourse : Course 0 r (slotsChecked r l f) := checkSlots_course (.refl hcalm) l _ _
  obtain ⟨hcore, hpods, _⟩ := slotsChecked_lines r l f
  by_cases hstays : (r.line l).goodSlot f p = true ∨ badAfter (r.line l) f p < (r.line l).lostLimit
  · rw [if_pos hstays]
    have hbeyond : reachAfter (r.line l) f < p.val + 1 := by
      unfold keptAfter at hkept
      rw [hpres, show ((r.line l).goodSlot f p || decide (badAfter (r.line l) f p < (r.line l).lostLimit)) = true by
        simpa using hstays] at hkept
      simpa using hkept
    have hpod : ((slotsChecked r l f).podAt ⟨l, p⟩).present = true := by
      refine (congrArg PodFacts.present ((hpods p).trans (if_pos hpres))).trans ?_
      unfold checkedPod
      split
      · rfl
      · rename_i hbad
        have hlt := hstays.resolve_left hbad
        unfold badAfter at hlt
        rw [if_neg hbad] at hlt
        rw [if_pos (show (r.podAt ⟨l, p⟩).facts.bad + 1 < _ from hlt)]
    have hterm := hearTerm_reach ((slotsChecked r l f).line l) f
    have hreach : reachAfter ((slotsChecked r l f).line l) f = reachAfter (r.line l) f := by
      unfold reachAfter termAfter
      rw [show ((slotsChecked r l f).line l).termReported = (r.line l).termReported from
          congrArg LineCore.termReported (hcore l),
        show ((slotsChecked r l f).line l).rehearsal = (r.line l).rehearsal from congrArg LineCore.rehearsal (hcore l)]
    have hmap := hcourse.map
    have hswitch := hcourse.calm
    rw [checkFrame_eq]
    generalize slotsChecked r l f = u at *
    have hline := Room.setLine_line u l fun x => x.hearTerm f.term
    have htold := (u.setLine l fun x => x.hearTerm f.term).loseAll_events l
      (allPositions.filter fun p => ((u.setLine l fun x => x.hearTerm f.term).line l).effTerm < numberOf p) .brk hswitch p
      (by
        rw [hline, hterm, hreach]
        exact List.mem_filter.2 ⟨mem_allPositions p, by simpa [numberOf] using hbeyond⟩)
      (by rw [setLine_podAt u l _ fun x => (hearTerm_parts x f.term).1]; exact hpod)
    rw [← hmap]
    exact htold
  · rw [if_neg hstays]
    obtain ⟨hbad, hlimit⟩ := not_or.1 hstays
    rw [badAfter, if_neg hbad, not_lt] at hlimit
    refine hgrow.subset ?_
    refine checkSlots_told r l (fun q => ((r.line l).goodSlots f).contains q) ((List.nodup_finRange 20).filter _) hcalm ?_ hpres ?_ hlimit
    · exact List.mem_filter.2 ⟨mem_allPositions p, hpres⟩
    · rw [goodSlots_contains]
      simp [hbad]

end Sys2Proof.Machine.PodLines
end

section
/-! The samples and the status records of an upstream frame (R24, R31 to R34): what they leave of the seats. -/

namespace Sys2Proof.Machine.PodLines

variable {P : Leave} {r t u v : Room} {n : Seat} {l : LineNo} {f : UpFrame} {ks : List Pos}

/-! ## The seat of a lost pod -/

/-- A leave to do all that the rest of a frame does, one seat spared. -/
def spareLeave (n : Seat) : Leave where
  touch := (· ≠ n)
  trip _ := True
  flag m a b := m ≠ n ∨ b = a
  close _ := True
  pod _ := True
  move id := id ≠ .feedbackOffset n
  mute := True
  claim := True
  rest := True
  swap := False

theorem spareLeave_wide (n : Seat) : (spareLeave n).Wide :=
  ⟨trivial, fun id h => by rintro rfl; exact h, fun _ => trivial⟩

theorem spareLeave_spares (n : Seat) : (spareLeave n).Spares n :=
  ⟨fun h => h rfl, fun _ _ h => h.resolve_left fun hn => hn rfl, fun h => h rfl⟩

/-- The rest of a frame spares a seat whose detector is held and that no heard status serves. -/
theorem late_spares (v : Room) (l : LineNo) (f : UpFrame) (found : PodPos → Bool) (ks : List Pos) (n : Seat)
    (hcalm : v.map.switch = none) (hheld : (v.det.get n).held = true)
    (hks : ∀ q ∈ ks, seatAt v.map.running ⟨l, q⟩ ≠ some n) : Steps (spareLeave n) v (lateFrame v l f found ks) := by
  have hs : (spareLeave n).Settles v := .inl ⟨hcalm, id⟩
  have hne : ∀ q ∈ ks, ∀ m, seatAt v.map.running ⟨l, q⟩ = some m → m ≠ n := by
    rintro q hq m hm rfl
    exact hks q hq hm
  refine late_steps v l f found ks (spareLeave_wide n) (fun m _ u hu => ?_) (fun _ _ => trivial)
    (fun q hq m hm _ _ _ _ _ => .inl (hne q hq m hm))
    (fun q hq => .inr ⟨trivial, .inr ⟨trivial, by simp [spareLeave]⟩, fun m hm => ⟨hne q hq m hm, fun _ _ _ _ _ =>
      .inl (hne q hq m hm)⟩⟩) hs
  refine hu.audioOf found m ?_ hs
  by_cases hm : m = n
  · subst hm
    exact .inl ((hu.untouched m (spareLeave_spares m).touch).det.held.trans hheld)
  · exact .inr ⟨hm, fun _ => trivial⟩

/-- A loss stands as the samples of the frame come in. -/
theorem Lost.heard (h : Lost n r u) (l : LineNo) (f : UpFrame) (ks : List Pos) : Lost n r (heardOf u l f ks) := by
  obtain ⟨hgone, hshut, hbare, hgrows, hclosed, hrelease, hoffset⟩ := h
  obtain ⟨hflags, hheard, hspell, heff, htrips, hwindow, hpresence, hspeaking, hheld, hdet⟩ := hgone
  exact ⟨⟨hflags, hheard, hspell, heff, htrips, hwindow, hpresence, hspeaking, hheld, hdet⟩, hshut, hbare, hgrows, hclosed,
    hrelease, hoffset⟩

/-! ## The other seats -/

/-- A leave to hear samples and status records: no trip record is set, a flag of the feedback monitor's and a presence stand,
as do the privacy flags that are kept, and without a press the self flags, the claims and standby. -/
def statusLeave (keep : Seat → Prop) (calm : Prop) : Leave where
  touch _ := True
  trip _ := False
  flag m a b := b.feedback = a.feedback ∧ b.presence = a.presence ∧ (keep m → b.privacy = a.privacy)
    ∧ (calm → b.self = a.self)
  close _ := True
  pod _ := True
  move _ := True
  mute := True
  claim := ¬ calm
  rest := ¬ calm
  swap := False

theorem statusLeave_wide (keep : Seat → Prop) (calm : Prop) : (statusLeave keep calm).Wide :=
  ⟨trivial, fun _ _ => trivial, fun _ => trivial⟩

theorem statusLeave_pressed (keep : Seat → Prop) {calm : Prop} (h : ¬ calm) (r : Room) (p : PodPos) :
    (statusLeave keep calm).PressedAt r p :=
  ⟨h, .inr ⟨h, trivial⟩, fun _ _ => ⟨trivial, fun _ _ hp hf hpres => ⟨hf, hpres, fun _ => hp, fun hc => absurd hc h⟩⟩⟩

theorem statusLeave_switches {keep : Seat → Prop} {calm : Prop} {m : Seat} (h : ¬ keep m) :
    (statusLeave keep calm).Switches m := fun _ _ hs hf hp => ⟨hf, hp, fun hk => absurd hk h, fun _ => hs⟩

theorem Steps.statuses (h : Steps P r t) (l : LineNo) (f : UpFrame) (ks : List Pos) (hw : P.Wide)
    (hp : ∀ p ∈ ks, P.pod ⟨l, p⟩)
    (hn : ∀ p ∈ ks, ∀ n, Machine.seatAt r.map.running ⟨l, p⟩ = some n → P.Switches n)
    (hpress : ∀ p ∈ ks, pressesOf (f.slots.get p).status = [] ∨ P.PressedAt r ⟨l, p⟩) (hs : P.Settles r) :
    Steps P r (ks.foldl (fun r p => r.hearStatus ⟨l, p⟩ (f.slots.get p).status) t) :=
  h.foldl ks fun p hpk _ hu => hu.hearStatus ⟨l, p⟩ (f.slots.get p).status hw (hp p hpk) (hn p hpk) (hpress p hpk) hs

theorem late_status (v : Room) (l : LineNo) (f : UpFrame) (found : PodPos → Bool) (ks : List Pos)
    (keep : Seat → Prop) (calm : Prop) (hcalm : v.map.switch = none)
    (hks : ∀ q ∈ ks, ∀ m, seatAt v.map.running ⟨l, q⟩ = some m → ¬ keep m)
    (hpress : ∀ q ∈ ks, pressesOf (f.slots.get q).status = [] ∨ ¬ calm) :
    Steps (statusLeave keep calm) v (lateFrame v l f found ks) :=
  late_steps v l f found ks (statusLeave_wide keep calm)
    (fun m _ _ hu => hu.audioOf found m (.inr ⟨trivial, fun _ => trivial⟩) (.inl ⟨hcalm, id⟩)) (fun _ _ => trivial)
    (fun q hq m hm => statusLeave_switches (hks q hq m hm))
    (fun q hq => (hpress q hq).imp_right fun h => statusLeave_pressed keep h v ⟨l, q⟩) (.inl ⟨hcalm, id⟩)

/-- What a chain of status records keeps of a seat's flags. -/
structure FlagsKept (keep calm : Prop) (a b : FlagFacts) : Prop where
  feedback : b.feedback = a.feedback
  presence : b.presence = a.presence
  privacy : keep → b.privacy = a.privacy
  self : calm → b.self = a.self

theorem Steps.flagsKept {keep : Seat → Prop} {calm : Prop} (h : Steps (statusLeave keep calm) r t) (n : Seat) :
    FlagsKept (keep n) calm (r.mseat n).facts (t.mseat n).facts :=
  h.flags n (FlagsKept (keep n) calm) (fun _ => ⟨rfl, rfl, fun _ => rfl, fun _ => rfl⟩)
    (fun _ _ _ h g => ⟨g.1.trans h.1, g.2.trans h.2, fun hk => (g.3 hk).trans (h.3 hk), fun hc => (g.4 hc).trans (h.4 hc)⟩)
    fun _ _ ⟨h1, h2, h3, h4⟩ => ⟨h1, h2, h3, h4⟩

/-! ## The privacy switch (R31, R56) -/

theorem privacyReport_privacy (u : Room) (n : Seat) (on : Bool) :
    ((u.privacyReport n on).mseat n).facts.privacy
      = if (u.mseat n).presence = .present then on else (u.mseat n).facts.privacy := by
  unfold Room.privacyReport
  split
  · have hset : ((u.setMuteSeat n fun s => { s with privacy := on }).mseat n).facts.privacy = on := by
      rw [setMuteSeat_mseat, if_pos rfl]
      rfl
    generalize (u.setMuteSeat n fun s => { s with privacy := on }) = v at hset
    rw [show (v.derive.mseat n).facts = (v.mseat n).facts from facts_at v.derive_same.flags n, hset]
  · rfl

theorem hearPrivacy_privacy (u : Room) (p : PodPos) (n : Seat) (on : Bool) (hn : seatAt u.map.running p = some n)
    (hcalm : u.map.switch = none) :
    ((u.hearPrivacy p on).mseat n).facts.privacy
      = if on ≠ (u.podAt p).privacy ∧ (u.mseat n).presence = .present then on else (u.mseat n).facts.privacy := by
  unfold Room.hearPrivacy
  split
  · rename_i hsame
    rw [if_neg fun h => h.1 hsame.symm]
  · rename_i hne
    have hne : on ≠ (u.podAt p).privacy := Ne.symm hne
    dsimp only
    have hreport := privacyReport_privacy (u.setPod p fun pod => { pod with privacy := on }) n on
    have hmap : ((u.setPod p fun pod => { pod with privacy := on }).privacyReport n on).map.switch = none := by simp [hcalm]
    rw [show seatAt (u.setPod p fun pod => { pod with privacy := on }).map.running p = some n from hn]
    dsimp only
    generalize (u.setPod p fun pod => { pod with privacy := on }).privacyReport n on = v at hreport hmap
    have hmute : v.settle.mute = v.mute := (Room.settle_calm_keeps v hmap).2.1
    rw [Room.mseat, hmute]
    refine hreport.trans (if_congr ?_ rfl rfl)
    exact (and_iff_right hne).symm

/-- The status record of a good slot, at the seat that its pod serves. -/
theorem hearStatus_privacy (u : Room) (p : PodPos) (n : Seat) (st : StatusRecord) (hn : seatAt u.map.running p = some n)
    (hcalm : u.map.switch = none) (hpres : (u.podAt p).present = true) :
    ((u.hearStatus p st).mseat n).facts.privacy
      = if st.privacy ≠ (u.podAt p).privacy ∧ (u.mseat n).presence = .present then st.privacy
        else (u.mseat n).facts.privacy := by
  have hfirst := hearPrivacy_privacy u p n st.privacy hn hcalm
  have hsteps : Steps (statusLeave (fun _ => False) False) u (u.hearPrivacy p st.privacy) :=
    (Steps.refl u).hearPrivacy p _ (statusLeave_wide _ _) trivial (fun _ _ => statusLeave_switches id) (.inl ⟨hcalm, id⟩)
  have hcalm' : (u.hearPrivacy p st.privacy).map.switch = none := (hsteps.map_kept id).switch.trans hcalm
  unfold Room.hearStatus
  rw [if_neg (by simp [hpres])]
  generalize u.hearPrivacy p st.privacy = v at hfirst hcalm'
  have hpress : Steps (statusLeave (fun _ => True) False) v ((pressesOf st).foldl (fun r b => r.press p b) v) :=
    (Steps.refl v).pressAll p _ (statusLeave_wide _ _) (.inr (statusLeave_pressed _ id v p)) (.inl ⟨hcalm', id⟩)
  exact ((hpress.flagsKept n).privacy trivial).trans hfirst

/-- The privacy flag of a seat whose pod's slot is heard, once the whole frame is. -/
theorem late_privacy (v : Room) (l : LineNo) (f : UpFrame) (found : PodPos → Bool) {ks : List Pos} (hks : ks.Nodup)
    {p : Pos} (hp : p ∈ ks) (hcalm : v.map.switch = none) (hn : seatAt v.map.running ⟨l, p⟩ = some n)
    (hpres : (v.podAt ⟨l, p⟩).present = true) :
    ((lateFrame v l f found ks).mseat n).facts.privacy
      = if (f.slots.get p).status.privacy ≠ (v.podAt ⟨l, p⟩).privacy ∧ (v.mseat n).presence = .present then
          (f.slots.get p).status.privacy
        else (v.mseat n).facts.privacy := by
  obtain ⟨as, bs, rfl, has, hbs, _⟩ := split_at hks hp
  have hother : ∀ (w : Room), w.map.running = v.map.running → ∀ qs : List Pos, p ∉ qs → ∀ q ∈ qs, ∀ m,
      seatAt w.map.running ⟨l, q⟩ = some m → ¬ m = n := by
    rintro w hw qs hqs q hq m hm rfl
    rw [hw] at hm
    have hpq := congrArg PodPos.pos (seatAt_unique hn hm)
    dsimp only at hpq
    rw [hpq] at hqs
    exact hqs hq
  have hbefore : Steps (statusLeave (· = n) False) v (lateFrame v l f found as) :=
    late_status v l f found as (· = n) False hcalm (hother v rfl as has) fun _ _ => .inr id
  have hpods := (late_lines v l f found as).pods p
  rw [if_neg has] at hpods
  have hsplit : lateFrame v l f found (as ++ p :: bs)
      = bs.foldl (fun r q => r.hearStatus ⟨l, q⟩ (f.slots.get q).status)
          ((lateFrame v l f found as).hearStatus ⟨l, p⟩ (f.slots.get p).status) := by
    unfold lateFrame
    rw [List.foldl_append, List.foldl_cons]
  rw [hsplit]
  generalize lateFrame v l f found as = u at *
  have hmap := hbefore.map_kept id
  have hkept := hbefore.flagsKept n
  have hcalmu : u.map.switch = none := hmap.switch.trans hcalm
  have hhere := hearStatus_privacy u ⟨l, p⟩ n (f.slots.get p).status (by rw [hmap.running]; exact hn) hcalmu
    ((congrArg PodFacts.present hpods).trans hpres)
  rw [show (u.podAt ⟨l, p⟩).privacy = (v.podAt ⟨l, p⟩).privacy from congrArg PodFacts.privacy hpods,
    show (u.mseat n).presence = (v.mseat n).presence from hkept.presence, hkept.privacy rfl] at hhere
  have hstatus : Steps (statusLeave (fun _ => False) False) u (u.hearStatus ⟨l, p⟩ (f.slots.get p).status) :=
    (Steps.refl u).hearStatus ⟨l, p⟩ _ (statusLeave_wide _ _) trivial (fun _ _ => statusLeave_switches id)
      (.inr (statusLeave_pressed _ id u ⟨l, p⟩)) (.inl ⟨hcalmu, id⟩)
  have hmap' := hstatus.map_kept id
  generalize u.hearStatus ⟨l, p⟩ (f.slots.get p).status = w at *
  have hcalmw : w.map.switch = none := hmap'.switch.trans hcalmu
  have hafter : Steps (statusLeave (· = n) False) w
      (bs.foldl (fun r q => r.hearStatus ⟨l, q⟩ (f.slots.get q).status) w) :=
    (Steps.refl w).statuses l f bs (statusLeave_wide _ _) (fun _ _ => trivial)
      (fun q hq m hm => statusLeave_switches (hother w (hmap'.running.trans hmap.running) bs hbs q hq m hm))
      (fun q _ => .inr (statusLeave_pressed _ id w ⟨l, q⟩)) (.inl ⟨hcalmw, id⟩)
  exact ((hafter.flagsKept n).privacy rfl).trans hhere

end Sys2Proof.Machine.PodLines
end

section
/-! UPSTREAM_FRAME with no answer (R22 to R26, R31): what the frame leaves of its line and of the room. -/

namespace Sys2Proof.Machine.PodLines

variable {P : Leave} {r t u v : Room} {n : Seat} {l : LineNo} {f : UpFrame} {ks : List Pos}

/-! ## The kept positions -/

theorem framedPod_present (x : Line) (f : UpFrame) (p : Pos) : (framedPod x f p).present = keptAfter x f p := by
  unfold framedPod
  dsimp only
  split
  · split <;> simp_all
  · rename_i hp
    unfold keptAfter
    simp [Pod.facts, hp]

theorem mem_keptSlots (r : Room) (l : LineNo) (f : UpFrame) (p : Pos) :
    p ∈ r.keptSlots l f ↔ (r.line l).goodSlot f p = true ∧ keptAfter (r.line l) f p = true := by
  have hpres : ((r.checkFrame l f).podAt ⟨l, p⟩).present = keptAfter (r.line l) f p :=
    (congrArg PodFacts.present ((checkFrame_lines r l f).2.1 p)).trans (framedPod_present _ f p)
  unfold Room.keptSlots
  rw [List.mem_filter, hpres, ← List.contains_iff_mem, goodSlots_contains, Bool.and_eq_true]
  refine ⟨fun h => ⟨h.1.2, h.2⟩, fun h => ⟨⟨?_, h.1⟩, h.2⟩⟩
  have hkept := h.2
  unfold keptAfter at hkept
  simp only [Bool.and_eq_true] at hkept
  exact hkept.1.1

theorem keptSlots_nodup (r : Room) (l : LineNo) (f : UpFrame) : (r.keptSlots l f).Nodup :=
  ((List.nodup_finRange 20).filter _).filter _

/-! ## The whole frame, settled -/

/-- A frame with no answer, once it has settled. -/
def frameDone (r : Room) (l : LineNo) (f : UpFrame) : Room :=
  (lateFrame (r.hearFrame l f) l f ((r.hearFrame l f).foundSince (r.hearFrame l f)) (r.keptSlots l f)).settle

theorem upstream_none (r : Room) (l : LineNo) (f : UpFrame) (h : f.answer = none) :
    (r.upstream l f).settle = frameDone r l f := by
  rw [upstream_eq, h]
  rfl

theorem frameDone_lines (r : Room) (l : LineNo) (f : UpFrame) :
    LateLines l f (r.keptSlots l f) (r.hearFrame l f) (frameDone r l f) := by
  obtain ⟨hsame, hothers, hpods⟩ := late_lines (r.hearFrame l f) l f
    ((r.hearFrame l f).foundSince (r.hearFrame l f)) (r.keptSlots l f)
  unfold frameDone
  generalize lateFrame (r.hearFrame l f) l f _ _ = w at *
  have hfacts : w.settle.lines.map Line.facts = w.lines.map Line.facts := by simp
  exact ⟨fun k => (hsame k).trans (.of_facts (line_facts hfacts k)), fun k hk => (line_facts hfacts k).trans (hothers k hk),
    fun p => (pod_facts hfacts _).trans (hpods p)⟩

/-- The rest of a frame as a chain, whatever is pending. -/
theorem frameDone_steps (r : Room) (l : LineNo) (f : UpFrame) (hw : P.Wide) (htouch : ∀ n, P.touch n)
    (hpod : ∀ p, P.pod p) (hn : ∀ n, P.Switches n)
    (hpress : ∀ p ∈ r.keptSlots l f, pressesOf (f.slots.get p).status = [] ∨ P.PressedAt (r.hearFrame l f) ⟨l, p⟩)
    (hs : P.Settles (r.hearFrame l f)) : Steps P (r.hearFrame l f) (frameDone r l f) :=
  (late_steps _ l f _ _ hw (fun n _ _ hu => hu.audioOf _ n (.inr ⟨htouch n, hw.close⟩) hs) (fun _ _ => hpod _)
    (fun _ _ n _ => hn n) hpress hs).settled hs

/-- A leave to do all that a frame may do, entering or leaving standby apart. -/
def anyLeave (rest : Prop) : Leave where
  touch _ := True
  trip _ := True
  flag _ _ _ := True
  close _ := True
  pod _ := True
  move _ := True
  mute := True
  claim := True
  rest := rest
  swap := True

theorem anyLeave_free (rest : Prop) : (anyLeave rest).Free :=
  ⟨⟨trivial, fun _ _ => trivial, fun _ => trivial⟩, fun _ => trivial, fun _ => trivial, fun _ _ _ => trivial,
    fun _ _ => trivial, trivial, trivial⟩

theorem frameDone_any (r : Room) (l : LineNo) (f : UpFrame) {rest : Prop}
    (h : rest ∨ (r.hearFrame l f).link.call ≠ .standby ∧ ¬ rest) : Steps (anyLeave rest) (r.hearFrame l f) (frameDone r l f) := by
  have hfree := anyLeave_free rest
  refine frameDone_steps r l f hfree.wide hfree.touch (fun _ => trivial) hfree.switches (fun _ _ => .inr ?_) (.inr hfree)
  exact ⟨trivial, h.symm.imp_right fun hr => ⟨hr, trivial⟩, fun n _ => hfree.presses n⟩

theorem checkFrame_any (r : Room) (l : LineNo) (f : UpFrame) : Steps (anyLeave False) r (r.checkFrame l f) := by
  have hfree := anyLeave_free False
  exact checkFrame_steps r l f hfree.wide (fun _ => trivial) (fun n => ⟨trivial, trivial, fun _ _ => trivial, trivial⟩)
    (.inr hfree)

/-! ## The samples (R24; log 15) -/

theorem frameDone_audio (r : Room) (l : LineNo) (f : UpFrame) (p : Pos) :
    ((frameDone r l f).line l).audio.get p
      = if (r.line l).goodSlot f p = true ∧ keptAfter (r.line l) f p = true then (f.slots.get p).samples
        else Tab.fill 48 0 := by
  rw [(frameDone_any r l f (.inl trivial) : Steps (anyLeave True) _ _).audio_kept l, hearFrame_eq]
  have hline : (heardOf (r.checkFrame l f) l f (r.keptSlots l f)).line l
      = ((r.checkFrame l f).line l).hearAudio f (r.keptSlots l f) := Room.setLine_line ..
  rw [hline, Line.hearAudio, Tab.get_ofFn]
  refine if_congr ?_ rfl rfl
  rw [List.contains_iff_mem, mem_keptSlots]

theorem frameDone_program (r : Room) (l : LineNo) (f : UpFrame) : (frameDone r l f).mix.program = f.program :=
  (frameDone_any r l f (.inl trivial) : Steps (anyLeave True) _ _).program_kept

/-- Outside standby no frame enters or leaves it. -/
theorem frameDone_rest (r : Room) (l : LineNo) (f : UpFrame) (hcall : r.link.call ≠ .standby) :
    RestKept r (frameDone r l f) := by
  have hcheck := (checkFrame_any r l f).rest_kept id
  have hdark : (r.hearFrame l f).lines.map Line.dark = (r.checkFrame l f).lines.map Line.dark := Tab.map_modify _ _ _ _ rfl
  have hrest := (frameDone_any r l f (rest := False)
    (.inr ⟨by rw [show (r.hearFrame l f).link.call = r.link.call from hcheck.call]; exact hcall, id⟩)).rest_kept id
  exact ⟨hrest.dark.trans (hdark.trans hcheck.dark), hrest.floor.trans hcheck.floor, hrest.mix.trans hcheck.mix,
    hrest.call.trans hcheck.call⟩

/-! ## The records of the line (R24, R25, R31) -/

theorem frameDone_pod (r : Room) (l : LineNo) (f : UpFrame) (p : Pos) :
    ((frameDone r l f).podAt ⟨l, p⟩).present = keptAfter (r.line l) f p
      ∧ (keptAfter (r.line l) f p = true → ((frameDone r l f).podAt ⟨l, p⟩).kind = ((r.line l).pods.get p).kind
        ∧ ((frameDone r l f).podAt ⟨l, p⟩).bad = badAfter (r.line l) f p
        ∧ ((frameDone r l f).podAt ⟨l, p⟩).privacy
          = if (r.line l).goodSlot f p = true then (f.slots.get p).status.privacy else ((r.line l).pods.get p).privacy) := by
  have hpods := (frameDone_lines r l f).pods p
  rw [(hearFrame_lines r l f).2.1 p] at hpods
  have hmem := mem_keptSlots r l f p
  have hframed := framedPod_present (r.line l) f p
  have hkept : keptAfter (r.line l) f p = true →
      framedPod (r.line l) f p = ⟨true, ((r.line l).pods.get p).kind, ((r.line l).pods.get p).privacy, badAfter (r.line l) f p⟩ := by
    intro hk
    have hp := hk
    unfold keptAfter at hp
    simp only [Bool.and_eq_true] at hp
    unfold framedPod
    rw [if_pos hp.1.1, if_pos hk]
    rfl
  generalize framedPod (r.line l) f p = x at *
  generalize (frameDone r l f).podAt ⟨l, p⟩ = y at *
  have hpres : y.present = x.present := by
    refine (congrArg PodFacts.present hpods).trans ?_
    split
    · unfold heardPod
      split <;> rfl
    · rfl
  refine ⟨hpres.trans hframed, fun hk => ?_⟩
  have hx := hkept hk
  simp only [hmem, hk, and_true] at hpods
  subst hx
  split at hpods
  · rename_i hgood
    rw [if_pos hgood]
    exact ⟨congrArg PodFacts.kind hpods, congrArg PodFacts.bad hpods, congrArg PodFacts.privacy hpods⟩
  · rename_i hgood
    rw [if_neg hgood]
    exact ⟨congrArg PodFacts.kind hpods, congrArg PodFacts.bad hpods, congrArg PodFacts.privacy hpods⟩

/-! ## The line (R23, R25, R29) -/

theorem frameDone_grows (r : Room) (l : LineNo) (f : UpFrame) : (r.hearFrame l f).out <+: (frameDone r l f).out :=
  (frameDone_any r l f (.inl trivial) : Steps (anyLeave True) _ _).grows

theorem frameDone_course (r : Room) (l : LineNo) (f : UpFrame) : LineCourse l r (frameDone r l f) := by
  have hlines := frameDone_lines r l f
  obtain ⟨hcore, hstate, htimer⟩ := hlines.same l
  refine (hearFrame_course r l f).same (congrArg LineCore.expected hcore) (fun p => ?_) hstate htimer (frameDone_grows r l f)
  refine (congrArg PodFacts.present (hlines.pods p)).trans ?_
  split
  · unfold heardPod
    split <;> rfl
  · rfl

/-- What stands of the line but for its pods, its state and its timer. -/
theorem frameDone_lineFacts (r : Room) (l : LineNo) (f : UpFrame) :
    (frameDone r l f).standing.lines = r.standing.lines.modify l (fun y => { y with
      pods := ((frameDone r l f).line l).facts.pods, lstate := ((frameDone r l f).line l).lstate
      probeTimer := ((frameDone r l f).line l).probeTimer, termReported := termAfter (r.line l) f }) := by
  have hlines := frameDone_lines r l f
  obtain ⟨hcore, _, hothers⟩ := hearFrame_lines r l f
  have hget : ∀ (x : Room) k, x.standing.lines.get k = (x.line k).facts := fun x k => Tab.get_map ..
  apply Tab.ext_get
  intro k
  rw [Tab.get_modify, hget, hget]
  split
  · rename_i hk
    subst hk
    have hall := (hlines.same l).core.trans hcore
    simp only [Line.core, LineCore.mk.injEq] at hall
    obtain ⟨hexpected, hlimit, hscan, hprobe, hrehearsal, hterm⟩ := hall
    simp only [Line.facts, hexpected, hlimit, hscan, hprobe, hrehearsal, hterm]
  · rename_i hk
    rw [hlines.others k hk, hothers k (Ne.symm hk), hget]

/-- The line where the frame loses pods (R23, R29). -/
theorem frameDone_lossy (r : Room) (l : LineNo) (f : UpFrame) {p : Pos} (hlost : LostBy (r.line l) f p) :
    ((frameDone r l f).line l).lstate
        = (if (r.line l).lstate = .scanning then .scanning
          else if ((frameDone r l f).line l).count = 0 then .down else .up)
      ∧ (¬ ((r.line l).lstate ≠ .scanning ∧ ((frameDone r l f).line l).count < (r.line l).expected) →
        ((frameDone r l f).line l).probeTimer = none)
      ∧ ((r.line l).lstate ≠ .scanning ∧ ((frameDone r l f).line l).count < (r.line l).expected →
        ((r.line l).probeTimer = none ∨ (r.line l).count < (r.line l).expected) →
        ((frameDone r l f).line l).probeTimer = some ((r.line l).probeTimer.getD 500)) := by
  have hcourse := frameDone_course r l f
  have hnow := (frameDone_pod r l f p).1.trans hlost.2
  rcases hcourse.followed with ⟨hsame, _, _⟩ | ⟨_, hstate, hstop, hrun⟩
  · have hwas : (r.podAt ⟨l, p⟩).present = true := hlost.1
    rw [hsame p, hwas] at hnow
    cases hnow
  · simp only [ne_eq, hcourse.scanning_iff, hcourse.expected] at hstop hrun
    exact ⟨hstate, hstop, hrun⟩

/-- The line where the frame loses none. -/
theorem frameDone_lossless (r : Room) (l : LineNo) (f : UpFrame) (h : ∀ p, ¬ LostBy (r.line l) f p) :
    ((frameDone r l f).line l).lstate = (r.line l).lstate
      ∧ ((frameDone r l f).line l).probeTimer = (r.line l).probeTimer := by
  rcases (frameDone_course r l f).followed with ⟨_, hstate, htimer⟩ | ⟨⟨p, hwas, hnow⟩, _⟩
  · exact ⟨hstate, htimer⟩
  · exact absurd ⟨hwas, (frameDone_pod r l f p).1.symm.trans hnow⟩ (h p)

theorem frameDone_count (r : Room) (l : LineNo) (f : UpFrame) :
    ((frameDone r l f).line l).count = ((List.finRange 20).filter (keptAfter (r.line l) f)).length :=
  (count_eq_length _).trans
    (congrArg (fun g => ((List.finRange 20).filter g).length) (funext fun p => (frameDone_pod r l f p).1))

end Sys2Proof.Machine.PodLines
end

section
/-! UPSTREAM_FRAME with no answer (R24 to R26, R31, R50, R56, R59, R109, R166): the seats, and the first half of the
statement. -/

namespace Sys2Proof.Machine.PodLines

variable {r : Room} {n : Seat} {l : LineNo} {f : UpFrame}

/-! ## The seat of a lost pod -/

theorem hearFrame_map (r : Room) (l : LineNo) (f : UpFrame) (hcalm : r.map.switch = none) :
    (r.hearFrame l f).map.running = r.map.running ∧ (r.hearFrame l f).map.switch = none := by
  obtain ⟨hrunning, _, hswitch⟩ := (hearFrame_held r l f hcalm).map
  exact ⟨hrunning, hswitch.trans hcalm⟩

theorem frameDone_seatLost (hcalm : r.map.switch = none) {p : Pos} (hlost : LostBy (r.line l) f p)
    (hn : seatAt r.map.running ⟨l, p⟩ = some n) : SeatLost r (frameDone r l f) n (frameDone r l f).out := by
  have hnow : ((r.checkFrame l f).podAt ⟨l, p⟩).present = false :=
    (congrArg PodFacts.present ((checkFrame_lines r l f).2.1 p)).trans ((framedPod_present _ f p).trans hlost.2)
  obtain ⟨u, hbefore, hshut, hgone⟩ := (checkFrame_seats r l f hcalm n).lost hn hlost.1 hnow
  have hgone : Lost n u (r.hearFrame l f) := hgone.heard l f (r.keptSlots l f)
  obtain ⟨hrunning, hswitch⟩ := hearFrame_map r l f hcalm
  have hks : ∀ q ∈ r.keptSlots l f, seatAt (r.hearFrame l f).map.running ⟨l, q⟩ ≠ some n := by
    intro q hq hqn
    rw [hrunning] at hqn
    have hpq : p = q := congrArg PodPos.pos (seatAt_unique hn hqn)
    rw [← hpq, mem_keptSlots, hlost.2] at hq
    exact absurd hq.2 (by simp)
  have hrest : Steps (spareLeave n) (r.hearFrame l f) (frameDone r l f) :=
    (late_spares (r.hearFrame l f) l f _ (r.keptSlots l f) n hswitch hgone.gone.held hks).settled (.inl ⟨hswitch, id⟩)
  exact seatLost_of hbefore hshut (hgone.then hrest (spareLeave_spares n))

/-! ## The other seats -/

theorem frameDone_status (hcalm : r.map.switch = none) (keep : Seat → Prop) (calm : Prop)
    (hks : ∀ q ∈ r.keptSlots l f, ∀ m, seatAt r.map.running ⟨l, q⟩ = some m → ¬ keep m)
    (hpress : ∀ q ∈ r.keptSlots l f, pressesOf (f.slots.get q).status = [] ∨ ¬ calm) :
    Steps (statusLeave keep calm) (r.hearFrame l f) (frameDone r l f) := by
  obtain ⟨hrunning, hswitch⟩ := hearFrame_map r l f hcalm
  rw [← hrunning] at hks
  exact (late_status (r.hearFrame l f) l f _ (r.keptSlots l f) keep calm hswitch hks hpress).settled (.inl ⟨hswitch, id⟩)

/-- A seat whose pod the checks of a frame have not lost. -/
theorem hearFrame_kept (hcalm : r.map.switch = none) (hn : ∀ p, LostBy (r.line l) f p → seatAt r.map.running ⟨l, p⟩ ≠ some n) :
    ((r.hearFrame l f).mseat n).facts = (r.mseat n).facts
      ∧ ((r.hearFrame l f).fbSeat n).facts = (r.fbSeat n).facts := by
  refine (checkFrame_seats r l f hcalm n).kept fun p hwas hnow hp => ?_
  obtain ⟨_, hpods, hothers⟩ := checkFrame_lines r l f
  obtain ⟨k, p⟩ := p
  by_cases hk : k = l
  · subst hk
    refine hn p ⟨hwas, ?_⟩ hp
    rw [← framedPod_present, ← hpods p]
    exact hnow
  · have hsame := present_of_facts (pods_of_facts (hothers k hk) p)
    rw [show ((r.checkFrame l f).line k).pods.get p = (r.checkFrame l f).podAt ⟨k, p⟩ from rfl, hnow] at hsame
    rw [show (r.podAt ⟨k, p⟩).present = false from hsame.symm] at hwas
    cases hwas

/-- What a frame leaves of a seat whose pod it has not lost (R31, R56). -/
theorem frameDone_kept (hcalm : r.map.switch = none)
    (hn : ∀ p, LostBy (r.line l) f p → seatAt r.map.running ⟨l, p⟩ ≠ some n) :
    ((frameDone r l f).fbSeat n).facts = (r.fbSeat n).facts
      ∧ ((frameDone r l f).mseat n).feedback = (r.mseat n).feedback
      ∧ ((frameDone r l f).mseat n).presence = (r.mseat n).presence := by
  obtain ⟨hflags, htrips⟩ := hearFrame_kept hcalm hn
  have hsteps : Steps (statusLeave (fun _ => False) False) (r.hearFrame l f) (frameDone r l f) :=
    frameDone_status hcalm _ _ (fun _ _ _ _ => id) fun _ _ => .inr id
  have hkept := hsteps.flagsKept n
  rw [hflags] at hkept
  exact ⟨(hsteps.trips_kept n id).trans htrips, hkept.feedback, hkept.presence⟩

/-- The privacy flag of such a seat where no heard status is its own (R56). -/
theorem frameDone_private (hcalm : r.map.switch = none)
    (hn : ∀ p, LostBy (r.line l) f p → seatAt r.map.running ⟨l, p⟩ ≠ some n)
    (hks : ∀ q ∈ r.keptSlots l f, seatAt r.map.running ⟨l, q⟩ ≠ some n) :
    ((frameDone r l f).mseat n).privacy = (r.mseat n).privacy := by
  have hsteps : Steps (statusLeave (· = n) False) (r.hearFrame l f) (frameDone r l f) := by
    refine frameDone_status hcalm _ _ (fun q hq m hm => ?_) fun _ _ => .inr id
    rintro rfl
    exact hks q hq hm
  have hkept := hsteps.flagsKept n
  rw [(hearFrame_kept hcalm hn).1] at hkept
  exact hkept.privacy rfl

/-- The privacy flag of such a seat whose pod the frame keeps (R31). -/
theorem frameDone_told (hcalm : r.map.switch = none)
    (hn : ∀ p, LostBy (r.line l) f p → seatAt r.map.running ⟨l, p⟩ ≠ some n) {p : Pos}
    (hkept : keptAfter (r.line l) f p = true) (hp : seatAt r.map.running ⟨l, p⟩ = some n) :
    ((frameDone r l f).mseat n).privacy
      = if (r.line l).goodSlot f p = true ∧ (f.slots.get p).status.privacy ≠ ((r.line l).pods.get p).privacy
            ∧ (r.mseat n).presence = .present then (f.slots.get p).status.privacy
        else (r.mseat n).privacy := by
  by_cases hgood : (r.line l).goodSlot f p = true
  · have hmem : p ∈ r.keptSlots l f := (mem_keptSlots r l f p).2 ⟨hgood, hkept⟩
    obtain ⟨hrunning, hswitch⟩ := hearFrame_map r l f hcalm
    have hflags := (hearFrame_kept hcalm hn).1
    have hpod := (hearFrame_lines r l f).2.1 p
    have hpresent : ((r.line l).pods.get p).present = true := keptSlots_present r l f hmem
    unfold framedPod at hpod
    rw [if_pos hpresent, if_pos hkept] at hpod
    have hpriv := late_privacy (r.hearFrame l f) l f ((r.hearFrame l f).foundSince (r.hearFrame l f)) (keptSlots_nodup r l f)
      hmem hswitch (by rw [hrunning]; exact hp) (congrArg PodFacts.present hpod)
    have hmute : (frameDone r l f).mute
        = (lateFrame (r.hearFrame l f) l f ((r.hearFrame l f).foundSince (r.hearFrame l f)) (r.keptSlots l f)).mute :=
      (Room.settle_calm_keeps _ ((late_held (r.hearFrame l f) l f _ (r.keptSlots l f) hswitch).map.switch.trans hswitch)).2.1
    rw [hflags, show ((r.hearFrame l f).mseat n).presence = (r.mseat n).presence from congrArg FlagFacts.presence hflags,
      show ((r.hearFrame l f).podAt ⟨l, p⟩).privacy = ((r.line l).pods.get p).privacy from congrArg PodFacts.privacy hpod] at hpriv
    rw [Room.mseat, hmute]
    refine hpriv.trans (if_congr ?_ rfl rfl)
    exact (and_iff_right hgood).symm
  · rw [if_neg fun h => hgood h.1]
    refine frameDone_private hcalm hn fun q hq hqn => ?_
    have hpq : p = q := congrArg PodPos.pos (seatAt_unique hp hqn)
    rw [← hpq, mem_keptSlots] at hq
    exact hgood hq.1

/-! ## What stands of the room -/

theorem heardOf_standing (u : Room) (l : LineNo) (f : UpFrame) (ks : List Pos) :
    (heardOf u l f ks).standing = u.standing := by
  have hdark : (heardOf u l f ks).lines.map Line.dark = u.lines.map Line.dark := Tab.map_modify _ _ _ _ rfl
  unfold Room.standing
  rw [heardOf_lineFacts, hdark]
  rfl

theorem frameDone_held (hcalm : r.map.switch = none) : Held r (frameDone r l f) :=
  (hearFrame_held r l f hcalm).trans
    ((frameDone_status hcalm (fun _ => False) False (fun _ _ _ _ => id) fun _ _ => .inr id).held id)

/-- Without a press the claims and the call stand (R32). -/
theorem frameDone_stands (hcalm : r.map.switch = none) (hpress : ∀ p, pressesOf (f.slots.get p).status = []) :
    (frameDone r l f).standing = { r.standing with
      lines := (frameDone r l f).standing.lines, flags := (frameDone r l f).standing.flags
      trips := (frameDone r l f).standing.trips } := by
  have hcheck : Steps lossLeave r (r.checkFrame l f) :=
    checkFrame_steps r l f lossLeave_wide (fun _ => trivial) lossLeave_serves (.inl ⟨hcalm, id⟩)
  have hstands := standing_of_steps hcheck id id id
  have hheard : (r.hearFrame l f).standing = (r.checkFrame l f).standing := heardOf_standing _ l f _
  have hsteps : Steps (statusLeave (fun _ => False) True) (r.hearFrame l f) (frameDone r l f) :=
    frameDone_status hcalm _ _ (fun _ _ _ _ => id) fun q _ => .inl (hpress q)
  rw [← hheard] at hstands
  exact stands_then hstands hsteps (fun h => h trivial) (fun h => h trivial) id

/-- Without a press the self flags stand (R57). -/
theorem frameDone_self (hcalm : r.map.switch = none) (hpress : ∀ p, pressesOf (f.slots.get p).status = []) (n : Seat) :
    ((frameDone r l f).mseat n).self = (r.mseat n).self := by
  by_cases hn : ∃ p, LostBy (r.line l) f p ∧ seatAt r.map.running ⟨l, p⟩ = some n
  · obtain ⟨p, hlost, hp⟩ := hn
    obtain ⟨⟨hflags, _⟩, _⟩ := frameDone_seatLost hcalm hlost hp
    exact congrArg FlagFacts.self hflags
  · have hn : ∀ p, LostBy (r.line l) f p → seatAt r.map.running ⟨l, p⟩ ≠ some n := fun p hl hp => hn ⟨p, hl, hp⟩
    have hsteps : Steps (statusLeave (fun _ => False) True) (r.hearFrame l f) (frameDone r l f) :=
      frameDone_status hcalm _ _ (fun _ _ _ _ => id) fun q _ => .inl (hpress q)
    have hkept := hsteps.flagsKept n
    rw [(hearFrame_kept hcalm hn).1] at hkept
    exact hkept.self trivial

theorem pressesOf_calm {st : StatusRecord} (h : st.mic = false ∧ st.talk = false ∧ st.room = false ∧ st.next = false
    ∧ st.clear = false) : pressesOf st = [] := by
  obtain ⟨h1, h2, h3, h4, h5⟩ := h
  simp [pressesOf, h1, h2, h3, h4, h5]

end Sys2Proof.Machine.PodLines
end

section
/-! The mutes and their components (R72, R124 to R126): the derivation moves the component of each mute that it changes,
once, and no other operation moves one. -/

namespace Sys2Proof.Machine.PodLines

variable {P : Leave} {r t u v : Room} {n m : Seat}

/-! ## The components of the mutes -/

/-- A mute's component as the mute turns (R72). -/
def toldComp (was now : Bool) (c : Comp) (ms : Nat) : Comp := if was = now then c else c.aimed (heldUp (!now)) ms

/-- The two mute components of a seat. -/
def seatComps (u : Room) (n : Seat) : Comp × Comp := (u.mix.comp (.micMute n), u.mix.comp (.speakerMute n))

/-- The two mute components of a seat as its effective mute turns. -/
def seatTold (u : Room) (n : Seat) (old new : Eff) : Comp × Comp :=
  (toldComp old.micMuted new.micMuted (u.mix.comp (.micMute n)) u.muteRamp,
   toldComp old.spkMuted new.spkMuted (u.mix.comp (.speakerMute n))
     (if new.spkMuted = true ∧ new.spkCause = .feedback then 10 else u.muteRamp))

/-- The two mute components of a link. -/
def linkComps (u : Room) (k : Link) : Comp × Comp := (u.mix.comp (.sendMute k), u.mix.comp (.returnMute k))

/-- The two mute components of a link as its effective mute turns. -/
def linkTold (u : Room) (k : Link) (old new : LinkEff) : Comp × Comp :=
  (toldComp old.send new.send (u.mix.comp (.sendMute k)) u.muteRamp,
   toldComp old.ret new.ret (u.mix.comp (.returnMute k)) u.muteRamp)

/-- The mutes reach the mix where each component turns with its mute. -/
theorem mutesReachMix_iff : MutesReachMix r t ↔ (∀ n, seatComps t n = seatTold r n (r.eff n) (t.eff n))
    ∧ ∀ k, linkComps t k = linkTold r k (r.mute.links.get k) (t.mute.links.get k) := by
  unfold MutesReachMix seatComps seatTold linkComps linkTold
  simp only [Prod.mk.injEq]
  rfl

theorem toldComp_same (b : Bool) (c : Comp) (ms : Nat) : toldComp b b c ms = c := if_pos rfl

theorem seatTold_same (u : Room) (n : Seat) (e : Eff) : seatTold u n e e = seatComps u n := by
  simp [seatTold, seatComps, toldComp_same]

theorem linkTold_same (u : Room) (k : Link) (e : LinkEff) : linkTold u k e e = linkComps u k := by
  simp [linkTold, linkComps, toldComp_same]

/-- An operation that leaves the mutes and moves no mute component. -/
theorem mutesReachMix_of_still (hmute : t.mute.eff = r.mute.eff ∧ t.mute.links = r.mute.links)
    (hcomp : ∀ id, isMute id → t.mix.comp id = r.mix.comp id) : MutesReachMix r t := by
  refine mutesReachMix_iff.2 ⟨fun n => ?_, fun k => ?_⟩
  · rw [show t.eff n = r.eff n from congrArg (fun e => Tab.get e n) hmute.1, seatTold_same]
    simp only [seatComps, hcomp (.micMute n) trivial, hcomp (.speakerMute n) trivial]
  · rw [hmute.2, linkTold_same]
    simp only [linkComps, hcomp (.sendMute k) trivial, hcomp (.returnMute k) trivial]

/-! ## One seat -/

theorem micTurned_comp (u : Room) (n : Seat) (old new : Eff) (id : CompId) :
    (u.micTurned n old new).mix.comp id
      = if .micMute n = id then toldComp old.micMuted new.micMuted (u.mix.comp id) u.muteRamp else u.mix.comp id := by
  unfold Room.micTurned toldComp
  split
  · simp
  · rw [Room.mixMic, ramp_comp]
    rfl

theorem mixSpeaker_comp (u : Room) (n : Seat) (b : Bool) (c : Cause) (id : CompId) :
    (u.mixSpeaker n b c).mix.comp id
      = if .speakerMute n = id then
          (u.mix.comp id).aimed (heldUp (!b)) (if b = true ∧ c = .feedback then 10 else u.muteRamp)
        else u.mix.comp id := by
  have hramp := ramp_comp u (.speakerMute n) id (upGain (!b)) (if b && decide (c = .feedback) then 10 else u.muteRamp)
  have hms : (if (b && decide (c = .feedback)) = true then 10 else u.muteRamp)
      = if b = true ∧ c = .feedback then 10 else u.muteRamp := if_congr (by simp) rfl rfl
  unfold Room.mixSpeaker
  dsimp only
  rw [hms] at hramp ⊢
  split
  · exact hramp
  · exact hramp

theorem speakerTurned_comp (u : Room) (n : Seat) (old new : Eff) (id : CompId) :
    (u.speakerTurned n old new).mix.comp id
      = if .speakerMute n = id then
          toldComp old.spkMuted new.spkMuted (u.mix.comp id)
            (if new.spkMuted = true ∧ new.spkCause = .feedback then 10 else u.muteRamp)
        else u.mix.comp id := by
  unfold Room.speakerTurned toldComp
  split
  · simp
  · exact mixSpeaker_comp u n _ _ id

/-- A leave to do what the floor, the tones and the rings do as a mute turns: no mute component moves. -/
def floorLeave : Leave := { wakeLeave with touch := fun _ => True }

/-- The notices of a turned mute beside those to the Mix Engine, and the spell (R73 to R76, R79). -/
theorem seatChanged_steps (u : Room) (n : Seat) (old new : Eff) :
    Steps floorLeave ((u.micTurned n old new).speakerTurned n old new) ((u.seatChanged n old new).spellUpdate n) := by
  unfold Room.seatChanged
  generalize (u.micTurned n old new).speakerTurned n old new = x
  have hfloor : Steps floorLeave x (x.floorTold n old new) := by
    unfold Room.floorTold
    split
    · exact .refl x
    · exact (Steps.refl x).floorMic n _ trivial (.inr fun _ => trivial)
  have hring : Steps floorLeave x ((x.floorTold n old new).ringTold n old new) := by
    unfold Room.ringTold
    split
    · exact hfloor
    · exact hfloor.tell n _
  have htone : Steps floorLeave x (((x.floorTold n old new).ringTold n old new).toneTold n old new) := by
    unfold Room.toneTold
    split
    · exact hring
    · exact hring.seatTone n _
  refine Steps.then ?_ (.spell n)
  unfold Room.stateTold
  dsimp only
  split <;> split
  · exact (htone.emit _).emit _
  · exact htone.emit _
  · exact htone.emit _
  · exact htone

theorem parked_of_isMute {id : CompId} (h : isMute id) : parked id := by
  cases id <;> trivial

/-- The derivation of a seat moves its two mute components with its mute, and no other. -/
theorem deriveSeat_comp (u : Room) (n : Seat) :
    seatComps (u.deriveSeat n) n = seatTold u n (u.eff n) (u.effOf n)
      ∧ ∀ id, isMute id → id ≠ .micMute n → id ≠ .speakerMute n → (u.deriveSeat n).mix.comp id = u.mix.comp id := by
  unfold Room.deriveSeat
  dsimp only
  split
  · rename_i hsame
    rw [← hsame]
    exact ⟨(seatTold_same u n _).symm, fun _ _ _ _ => rfl⟩
  · have hsteps := seatChanged_steps { u with mute := { u.mute with eff := u.mute.eff.set n (u.effOf n) } } n (u.eff n)
      (u.effOf n)
    have hkept : ∀ id, isMute id → (Room.spellUpdate (Room.seatChanged { u with mute := { u.mute with
        eff := u.mute.eff.set n (u.effOf n) } } n (u.eff n) (u.effOf n)) n).mix.comp id
          = if .speakerMute n = id then
              toldComp (u.eff n).spkMuted (u.effOf n).spkMuted (u.mix.comp id)
                (if (u.effOf n).spkMuted = true ∧ (u.effOf n).spkCause = .feedback then 10 else u.muteRamp)
            else if .micMute n = id then
              toldComp (u.eff n).micMuted (u.effOf n).micMuted (u.mix.comp id) u.muteRamp
            else u.mix.comp id := by
      intro id hid
      rw [hsteps.comp_kept id (parked_of_isMute hid) not_false, speakerTurned_comp, micTurned_comp]
      have hramp : ∀ v : Room, (v.micTurned n (u.eff n) (u.effOf n)).muteRamp = v.muteRamp := fun v =>
        congrArg MixSettings.muteRamp (by simp)
      rw [hramp]
      by_cases hs : CompId.speakerMute n = id
      · rw [if_pos hs, if_pos hs, if_neg (by rw [← hs]; simp)]
        rfl
      · rw [if_neg hs, if_neg hs]
        rfl
    refine ⟨?_, fun id hid hmic hspk => ?_⟩
    · unfold seatComps seatTold
      rw [hkept (.micMute n) trivial, hkept (.speakerMute n) trivial]
      simp
    · rw [hkept id hid, if_neg (Ne.symm hspk), if_neg (Ne.symm hmic)]

/-! ## One link -/

theorem mixLink_comp (u : Room) (k : Link) (b : Bool) (id : CompId) :
    (u.mixLink k .send b).mix.comp id
        = (if .sendMute k = id then (u.mix.comp id).aimed (heldUp (!b)) u.muteRamp else u.mix.comp id)
      ∧ (u.mixLink k .ret b).mix.comp id
        = if .returnMute k = id then (u.mix.comp id).aimed (heldUp (!b)) u.muteRamp else u.mix.comp id :=
  ⟨ramp_comp .., ramp_comp ..⟩

theorem deriveWay_comp (u : Room) (k : Link) (was now : Bool) (id : CompId) :
    (u.deriveWay k .send was now).mix.comp id
        = (if .sendMute k = id then toldComp was now (u.mix.comp id) u.muteRamp else u.mix.comp id)
      ∧ (u.deriveWay k .ret was now).mix.comp id
        = if .returnMute k = id then toldComp was now (u.mix.comp id) u.muteRamp else u.mix.comp id := by
  obtain ⟨hsend, hret⟩ := mixLink_comp u k now id
  unfold Room.deriveWay toldComp
  split
  · simp
  · exact ⟨hsend, hret⟩

theorem deriveLink_comp (u : Room) (k : Link) (id : CompId) :
    (u.deriveLink k).mix.comp id
      = if .returnMute k = id then
          toldComp (u.mute.links.get k).ret (u.linkEffOf k).ret (u.mix.comp id) u.muteRamp
        else if .sendMute k = id then
          toldComp (u.mute.links.get k).send (u.linkEffOf k).send (u.mix.comp id) u.muteRamp
        else u.mix.comp id := by
  unfold Room.deriveLink
  dsimp only
  rw [(deriveWay_comp _ k _ _ id).2, (deriveWay_comp _ k _ _ id).1]
  have hramp : ∀ v : Room, (v.deriveWay k .send (u.mute.links.get k).send (u.linkEffOf k).send).muteRamp = v.muteRamp :=
    fun v => congrArg MixSettings.muteRamp (by simp)
  rw [hramp]
  by_cases hr : CompId.returnMute k = id
  · rw [if_pos hr, if_pos hr, if_neg (by rw [← hr]; simp)]
    rfl
  · rw [if_neg hr, if_neg hr]
    rfl

theorem deriveLink_told (u : Room) (k : Link) :
    linkComps (u.deriveLink k) k = linkTold u k (u.mute.links.get k) (u.linkEffOf k)
      ∧ (∀ j, k ≠ j → linkComps (u.deriveLink k) j = linkComps u j)
      ∧ ∀ n, seatComps (u.deriveLink k) n = seatComps u n := by
  unfold linkComps linkTold seatComps
  simp only [deriveLink_comp]
  refine ⟨by simp, fun j hj => by simp [hj], fun n => by simp⟩

/-! ## The derivation -/

theorem deriveSeat_muteRamp (u : Room) (n : Seat) : (u.deriveSeat n).muteRamp = u.muteRamp :=
  congrArg MixSettings.muteRamp (by simp)

theorem deriveLink_muteRamp (u : Room) (k : Link) : (u.deriveLink k).muteRamp = u.muteRamp :=
  congrArg MixSettings.muteRamp (by simp)

/-- The components of a seat rest on what they stood at, as their mutes turn. -/
theorem seatTold_congr (h : seatComps t n = seatComps u n) (hramp : t.muteRamp = u.muteRamp) (old new : Eff) :
    seatTold t n old new = seatTold u n old new := by
  simp only [seatComps, Prod.mk.injEq] at h
  simp only [seatTold, h, hramp]

theorem linkTold_congr {k : Link} (h : linkComps t k = linkComps u k) (hramp : t.muteRamp = u.muteRamp)
    (old new : LinkEff) : linkTold t k old new = linkTold u k old new := by
  simp only [linkComps, Prod.mk.injEq] at h
  simp only [linkTold, h, hramp]

theorem deriveSeats_told (l : List Seat) (hl : l.Nodup) (u : Room) (n : Seat) :
    seatComps (l.foldl Room.deriveSeat u) n = if n ∈ l then seatTold u n (u.eff n) (u.effOf n) else seatComps u n := by
  induction l generalizing u with
  | nil => simp
  | cons m l ih =>
    obtain ⟨hm, hl⟩ := List.nodup_cons.1 hl
    obtain ⟨htold, hothers⟩ := deriveSeat_comp u m
    rw [List.foldl_cons, ih hl]
    by_cases hmn : m = n
    · subst hmn
      rw [if_neg hm, if_pos (List.mem_cons_self ..), htold]
    · have hcomps : seatComps (u.deriveSeat m) n = seatComps u n := by
        unfold seatComps
        rw [hothers (.micMute n) trivial (by simp [Ne.symm hmn]) (by simp),
          hothers (.speakerMute n) trivial (by simp) (by simp [Ne.symm hmn])]
      rw [u.deriveSeat_eff, if_neg hmn, (u.deriveSeat_same m).effOf, hcomps,
        seatTold_congr hcomps (deriveSeat_muteRamp u m)]
      simp [Ne.symm hmn]

theorem deriveSeats_links (l : List Seat) (u : Room) (k : Link) :
    linkComps (l.foldl Room.deriveSeat u) k = linkComps u k ∧ (l.foldl Room.deriveSeat u).muteRamp = u.muteRamp
      ∧ (l.foldl Room.deriveSeat u).mute.links = u.mute.links := by
  induction l generalizing u with
  | nil => exact ⟨rfl, rfl, rfl⟩
  | cons m l ih =>
    obtain ⟨hcomps, hramp, hlinks⟩ := ih (u.deriveSeat m)
    have hothers := (deriveSeat_comp u m).2
    refine ⟨hcomps.trans ?_, hramp.trans (deriveSeat_muteRamp u m), hlinks.trans (u.deriveSeat_links m)⟩
    unfold linkComps
    rw [hothers (.sendMute k) trivial (by simp) (by simp), hothers (.returnMute k) trivial (by simp) (by simp)]

theorem deriveLinks_told (l : List Link) (hl : l.Nodup) (u : Room) (k : Link) :
    linkComps (l.foldl Room.deriveLink u) k
      = if k ∈ l then linkTold u k (u.mute.links.get k) (u.linkEffOf k) else linkComps u k := by
  induction l generalizing u with
  | nil => simp
  | cons j l ih =>
    obtain ⟨hj, hl⟩ := List.nodup_cons.1 hl
    obtain ⟨htold, hothers, _⟩ := deriveLink_told u j
    rw [List.foldl_cons, ih hl]
    by_cases hjk : j = k
    · subst hjk
      rw [if_neg hj, if_pos (List.mem_cons_self ..), htold]
    · have hcomps := hothers k hjk
      rw [u.deriveLink_links, if_neg hjk, (u.deriveLink_same j).linkEffOf, hcomps,
        linkTold_congr hcomps (deriveLink_muteRamp u j)]
      simp [Ne.symm hjk]

theorem deriveLinks_seats (l : List Link) (u : Room) (n : Seat) :
    seatComps (l.foldl Room.deriveLink u) n = seatComps u n := by
  induction l generalizing u with
  | nil => rfl
  | cons j l ih => exact (ih (u.deriveLink j)).trans ((deriveLink_told u j).2.2 n)

/-- The derivation moves the component of each mute that it changes (R72). -/
theorem derive_reaches (u : Room) : MutesReachMix u u.derive := by
  refine mutesReachMix_iff.2 ⟨fun n => ?_, fun k => ?_⟩
  · rw [u.derive_eff]
    unfold Room.derive
    rw [deriveLinks_seats, deriveSeats_told allSeats (List.nodup_finRange 40) u n, if_pos (mem_allSeats n)]
  · obtain ⟨hcomps, hramp, hlinks⟩ := deriveSeats_links allSeats u k
    unfold Room.derive
    rw [Room.deriveLinks_links, deriveLinks_told allLinks (List.nodup_finRange 4) _ k, if_pos (mem_allLinks k),
      if_pos (mem_allLinks k), hlinks, linkTold_congr hcomps hramp]

/-- What neither sets a mute nor moves a mute component goes before a change of the mutes. -/
theorem mutesReachMix_before (h : MutesReachMix t u) (hmute : t.mute.eff = r.mute.eff ∧ t.mute.links = r.mute.links)
    (hcomp : ∀ id, isMute id → t.mix.comp id = r.mix.comp id) (hramp : t.muteRamp = r.muteRamp) : MutesReachMix r u := by
  obtain ⟨hseats, hlinks⟩ := mutesReachMix_iff.1 h
  have hs : ∀ n, seatComps t n = seatComps r n := fun n => by
    simp only [seatComps, hcomp (.micMute n) trivial, hcomp (.speakerMute n) trivial]
  have hk : ∀ k, linkComps t k = linkComps r k := fun k => by
    simp only [linkComps, hcomp (.sendMute k) trivial, hcomp (.returnMute k) trivial]
  refine mutesReachMix_iff.2 ⟨fun n => ?_, fun k => ?_⟩
  · rw [hseats n, seatTold_congr (hs n) hramp]
    simp only [Room.eff, hmute.1]
  · rw [hlinks k, linkTold_congr (hk k) hramp, hmute.2]

/-- What neither sets a mute nor moves a mute component goes after a change of the mutes. -/
theorem mutesReachMix_after (h : MutesReachMix r t) (hmute : u.mute.eff = t.mute.eff ∧ u.mute.links = t.mute.links)
    (hcomp : ∀ id, isMute id → u.mix.comp id = t.mix.comp id) : MutesReachMix r u := by
  obtain ⟨hseats, hlinks⟩ := mutesReachMix_iff.1 h
  refine mutesReachMix_iff.2 ⟨fun n => ?_, fun k => ?_⟩
  · have hs : seatComps u n = seatComps t n := by
      simp only [seatComps, hcomp (.micMute n) trivial, hcomp (.speakerMute n) trivial]
    rw [hs, hseats n]
    simp only [Room.eff, hmute.1]
  · have hk : linkComps u k = linkComps t k := by
      simp only [linkComps, hcomp (.sendMute k) trivial, hcomp (.returnMute k) trivial]
    rw [hk, hlinks k, hmute.2]

end Sys2Proof.Machine.PodLines
end

section
/-! What the presses share (R32, R87, R99, R103): the events that a press tells, the floor's fills beside a seat that waits
for nothing, and what the floor, the tones and the rings leave of the mutes and the claims. -/

namespace Sys2Proof.Machine.PodLines

variable {P : Leave} {r t u v w : Room} {n m : Seat}

/-! ## Events that are new -/

/-- An event told on the way from a room to a room. -/
def Told (r t : Room) (e : Event) : Prop := ∃ es, r.out <+: es ∧ es ++ [e] <+: t.out

theorem told_emit (e : Event) (h : r.out <+: t.out) : Told r (t.emit e) e := ⟨t.out, h, List.prefix_rfl⟩

theorem Told.grow {e : Event} (h : Told r t e) (g : t.out <+: u.out) : Told r u e := by
  obtain ⟨es, h1, h2⟩ := h
  exact ⟨es, h1, h2.trans g⟩

/-- An event told on the way is among the new ones. -/
theorem Told.mem {e : Event} {es : List Event} (h : Told r t e) (ht : t.out = r.out ++ es) : e ∈ es := by
  obtain ⟨as, ⟨bs, rfl⟩, h2⟩ := h
  rw [ht, List.append_assoc, List.prefix_append_right_inj] at h2
  exact h2.subset (List.mem_append_right _ (List.mem_singleton_self e))

/-! ## What stands of the mutes and the claims -/

theorem Step.mutes_kept (h : Step P r t) (hm : ¬ P.mute) : t.mute.eff = r.mute.eff ∧ t.mute.links = r.mute.links := by
  cases h
  case eff h => exact absurd h hm
  case linkEff h => exact absurd h hm
  all_goals simp

theorem Steps.mutes_kept (h : Steps P r t) (hm : ¬ P.mute) :
    t.mute.eff = r.mute.eff ∧ t.mute.links = r.mute.links :=
  h.keeps (C := fun u => u.mute.eff = r.mute.eff ∧ u.mute.links = r.mute.links) (fun _ _ hu hv =>
    have hv := Step.mutes_kept hv hm
    ⟨hv.1.trans hu.1, hv.2.trans hu.2⟩) ⟨rfl, rfl⟩

theorem Steps.flags_kept (h : Steps P r t) (hP : ∀ n a b, ¬ P.flag n a b) :
    t.mute.seats.map MuteSeat.facts = r.mute.seats.map MuteSeat.facts := by
  apply Tab.ext_get
  intro n
  rw [Tab.get_map, Tab.get_map]
  exact h.flags n (fun a b => b = a) (fun _ => rfl) (fun _ _ _ h g => g.trans h) fun a b hf => absurd hf (hP n a b)

/-- The mutes, their components, the flags and the claims as they were. -/
structure Still (r t : Room) : Prop where
  same : r.SameClaims t
  stamp : t.mute.stamp = r.mute.stamp
  mutes : t.mute.eff = r.mute.eff ∧ t.mute.links = r.mute.links
  comps : ∀ id, isMute id → t.mix.comp id = r.mix.comp id

theorem Steps.still (h : Steps floorLeave r t) : Still r t := by
  have hmap := h.map_kept id
  have hgroups := h.settings.groups
  obtain ⟨htable, hstamp⟩ := h.claims_kept id
  exact ⟨⟨hmap.running, hgroups, h.flags_kept fun _ _ _ => id, htable⟩, hstamp, h.mutes_kept id,
    fun id hid => h.comp_kept id (parked_of_isMute hid) not_false⟩

theorem Still.derived (h : Still r t) (hr : r.Derived) : t.Derived := hr.of_same h.same h.mutes.1 h.mutes.2

theorem Still.reaches (h : Still r t) : MutesReachMix r t := mutesReachMix_of_still h.mutes h.comps

theorem Still.eff (h : Still r t) (n : Seat) : t.eff n = r.eff n := congrArg (fun e => Tab.get e n) h.mutes.1

/-! ## Seats on no list -/

/-- A seat that stands on neither list. -/
def Off (n : Seat) (u : Room) : Prop := n ∉ u.floor.waitList ∧ n ∉ u.floor.queue

theorem admitSeat_off (u : Room) (hmn : m ≠ n) (g : GateState) (h : Off n u) :
    (u.admitSeat m g).fseat n = u.fseat n ∧ Off n (u.admitSeat m g) := by
  obtain ⟨hw, hq⟩ := h
  refine ⟨(admitSeat_fseat u m n g).trans (if_neg hmn), ?_⟩
  unfold Off
  rw [admitSeat_floor]
  exact ⟨fun h => hw (List.mem_filter.1 h).1, fun h => hq (List.mem_filter.1 h).1⟩

theorem fillWaitOne_off (u : Room) (h : Off n u) : u.fillWaitOne.fseat n = u.fseat n ∧ Off n u.fillWaitOne := by
  unfold Room.fillWaitOne
  split
  · exact ⟨rfl, h⟩
  · rename_i m ms hlist
    have hmn : m ≠ n := by
      rintro rfl
      exact h.1 (by simp [hlist])
    split
    · exact admitSeat_off u hmn _ h
    · exact ⟨rfl, h⟩

theorem fillQueueOne_off (u : Room) (h : Off n u) : u.fillQueueOne.fseat n = u.fseat n ∧ Off n u.fillQueueOne := by
  unfold Room.fillQueueOne
  split
  · exact ⟨rfl, h⟩
  · rename_i m hm
    have hmn : m ≠ n := by
      rintro rfl
      exact h.2 (List.mem_of_find?_eq_some hm)
    split
    · exact admitSeat_off u hmn _ h
    · exact ⟨rfl, h⟩

/-- A pass that leaves such a seat at each turn leaves it. -/
theorem foldl_off {β : Type} {f : Room → β → Room} (hf : ∀ u b, Off n u → (f u b).fseat n = u.fseat n ∧ Off n (f u b))
    (l : List β) (u : Room) (h : Off n u) : (l.foldl f u).fseat n = u.fseat n ∧ Off n (l.foldl f u) := by
  induction l generalizing u with
  | nil => exact ⟨rfl, h⟩
  | cons b l ih =>
    obtain ⟨hseat, hoff⟩ := hf u b h
    obtain ⟨hseat', hoff'⟩ := ih (f u b) hoff
    exact ⟨hseat'.trans hseat, hoff'⟩

theorem floorFinish_fseat (u : Room) (n : Seat) : u.floorFinish.fseat n = u.fseat n :=
  congrArg (fun x => Tab.get x n) (floorFinish_floor u).1

/-- The end of a floor event passes by a seat that is on no list (R99, R103). -/
theorem fill_off (u : Room) (h : Off n u) :
    u.floorFill.floorFinish.fseat n = u.fseat n ∧ Off n u.floorFill.floorFinish := by
  have hfill : u.floorFill.fseat n = u.fseat n ∧ Off n u.floorFill := by
    unfold Room.floorFill
    split
    · exact ⟨rfl, h⟩
    · split
      · exact ⟨rfl, h⟩
      · exact foldl_off (fun v _ hv => fillWaitOne_off v hv) _ u h
      · split
        · exact foldl_off (fun v _ hv => fillQueueOne_off v hv) _ u h
        · exact ⟨rfl, h⟩
  obtain ⟨_, _, hwait, hqueue⟩ := floorFinish_floor u.floorFill
  refine ⟨(floorFinish_fseat _ n).trans hfill.1, ?_⟩
  unfold Off
  rw [hwait, hqueue]
  exact hfill.2

theorem fill_steps (u : Room) : Steps floorLeave u u.floorFill.floorFinish := (Steps.refl u).floorFill.then .finish

/-- The end of a floor event where no seat of the queue can be granted (R103). -/
theorem fill_full (u : Room) (hmode : u.floor.settings.mode = .request)
    (h : u.floor.grantable = none ∨ u.floor.hasRoom = false) : u.floorFill = u := by
  have hone : u.fillQueueOne = u := by
    unfold Room.fillQueueOne
    split
    · rfl
    · rename_i m hm
      rcases h with h | h
      · rw [hm] at h
        cases h
      · rw [h]
        rfl
  have hall : ∀ l : List Seat, l.foldl (fun r _ => r.fillQueueOne) u = u := by
    intro l
    induction l with
    | nil => rfl
    | cons _ l ih => rw [List.foldl_cons, hone, ih]
  unfold Room.floorFill
  rw [hmode]
  split
  · rfl
  · dsimp only
    split
    · exact hall _
    · rfl

/-- A seat that has asked is QUEUED, or it has been granted meanwhile. -/
def HasAsked (n : Seat) (u : Room) : Prop := (u.fseat n).gate = .queued ∨ (u.fseat n).gate = .granted

theorem fillQueueOne_asked (u : Room) (h : HasAsked n u) : HasAsked n u.fillQueueOne := by
  unfold Room.fillQueueOne
  split
  · exact h
  · rename_i m _
    split
    · unfold HasAsked
      rw [admitSeat_fseat]
      split
      · exact .inr rfl
      · exact h
    · exact h

/-- In REQUEST mode the end of a floor event leaves it so (R103). -/
theorem fill_asked (u : Room) (hmode : u.floor.settings.mode = .request) (h : HasAsked n u) :
    HasAsked n u.floorFill.floorFinish := by
  have hall : ∀ (l : List Seat) (v : Room), HasAsked n v → HasAsked n (l.foldl (fun r _ => r.fillQueueOne) v) := by
    intro l
    induction l with
    | nil => exact fun _ hv => hv
    | cons _ l ih => exact fun v hv => ih _ (fillQueueOne_asked v hv)
  have hfill : HasAsked n u.floorFill := by
    unfold Room.floorFill
    rw [hmode]
    split
    · exact h
    · dsimp only
      split
      · exact hall _ u h
      · exact h
  unfold HasAsked
  rw [floorFinish_fseat]
  exact hfill

/-- A seat that has closed is on no list. -/
theorem closeSeat_off (u : Room) (n : Seat) (why : Reason) (h : (u.fseat n).gate ≠ .closed) :
    ((u.closeSeat n why).fseat n).gate = .closed ∧ Off n (u.closeSeat n why) := by
  obtain ⟨_, hwait, hqueue⟩ := closeSeat_lists u n why h
  unfold Off
  rw [closeSeat_fseat u n n why h, if_pos rfl, hwait, hqueue]
  exact ⟨rfl, not_mem_without n _, not_mem_without n _⟩

/-- A seat that has been admitted is on no list. -/
theorem admitSeat_own (u : Room) (n : Seat) (g : GateState) :
    ((u.admitSeat n g).fseat n).gate = g ∧ Off n (u.admitSeat n g) := by
  unfold Off
  rw [admitSeat_fseat, if_pos rfl, admitSeat_floor]
  exact ⟨rfl, not_mem_without n _, not_mem_without n _⟩

end Sys2Proof.Machine.PodLines
end

section
/-! MIC and TALK presses (R57, R58, R77, R78, R94, R101, R102). -/

namespace Sys2Proof.Machine.PodLines

variable {P : Leave} {r t u v w x : Room} {n : Seat} {p : PodPos} {es : List Event}

/-! ## A press that is delivered -/

/-- Floor activity starts the standby timer afresh, and nothing else. -/
theorem activity_same (w : Room) : w.activity.mute = w.mute ∧ w.activity.map = w.map ∧ w.activity.floor = w.floor
    ∧ w.activity.mix = w.mix ∧ w.activity.lines = w.lines ∧ w.activity.out = w.out ∧ w.activity.link.call = w.link.call
    ∧ w.activity.link.delay = w.link.delay := by
  simp

theorem activity_standing (w : Room) : w.activity.standing = w.standing := by simp [Room.standing]

/-- A delivered press moves the flags and the claims alone (R32). -/
theorem deliver_standing (w : Room) (p : PodPos) (n : Seat) (b : Button) :
    (w.deliver p n b).standing = { w.standing with
      flags := (w.deliver p n b).mute.seats.map MuteSeat.facts, table := (w.deliver p n b).mute.table
      stamp := (w.deliver p n b).mute.stamp } := by
  simp [Room.standing]

/-- What a press that leaves the flags and the claims alone leaves standing. -/
theorem deliver_still {b : Button} (h : Still w (w.activity.deliver p n b)) :
    (w.activity.deliver p n b).standing = w.standing := by
  rw [deliver_standing, activity_standing, h.same.flags, h.same.table, h.stamp]
  rfl

theorem still_activity (h : Steps floorLeave w.activity t) : Still w t :=
  Steps.still (((Steps.refl w).then .activity).trans h)

/-! ## The mutes turn -/

/-- What the derivation leaves of a room whose flags or claims have changed, and what follows it as well. -/
structure Turned (x t : Room) : Prop where
  derived : t.Derived
  reaches : MutesReachMix x t
  flags : t.mute.seats.map MuteSeat.facts = x.mute.seats.map MuteSeat.facts
  table : t.mute.table = x.mute.table
  stamp : t.mute.stamp = x.mute.stamp
  eff : ∀ n, t.eff n = x.effOf n

theorem turned_of (h : Steps floorLeave x.derive t) : Turned x t := by
  have hstill := h.still
  have hsame := x.derive_same.trans hstill.same
  exact ⟨hstill.derived x.derive_derived, mutesReachMix_after (derive_reaches x) hstill.mutes hstill.comps, hsame.flags,
    hsame.table, hstill.stamp.trans (by simp), fun n => (hstill.eff n).trans (x.derive_eff n)⟩

/-- The change that is derived sets no mute and moves no component itself. -/
theorem Turned.from (h : Turned x t) (hmute : x.mute.eff = w.mute.eff ∧ x.mute.links = w.mute.links)
    (hmix : x.mix = w.mix) : MutesReachMix w t :=
  mutesReachMix_before h.reaches hmute (fun _ _ => by rw [hmix]) (by rw [Room.muteRamp, hmix]; rfl)

/-! ## MIC (R57, R77) -/

/-- A room with the self flag of a seat turned, the mutes not yet derived. -/
def selfTurned (w : Room) (n : Seat) : Room := w.activity.setMuteSeat n fun s => { s with self := !(w.mseat n).self }

theorem micPress_eq (w : Room) (p : PodPos) (n : Seat) : w.activity.deliver p n .mic
    = if ((w.mseat n).self && ((selfTurned w n).derive.eff n).micMuted) = true then
        (selfTurned w n).derive.heldPress n .mic
      else (selfTurned w n).derive := by
  have hself : (w.activity.mseat n).self = (w.mseat n).self := by rw [Room.mseat, (activity_same w).1]; rfl
  show w.activity.micPress n = _
  unfold Room.micPress selfTurned
  rw [hself]

theorem selfTurned_grows (w : Room) (n : Seat) : Steps frameLeave w (selfTurned w n).derive :=
  (((Steps.refl w).then .activity).flagged n (fun s => { s with self := !(w.mseat n).self }) trivial (fun _ => rfl)
    fun _ => rfl).deriveWide frameLeave_wide

theorem selfTurned_flags (w : Room) (n : Seat) : (selfTurned w n).mute.seats.map MuteSeat.facts
    = (w.mute.seats.map MuteSeat.facts).modify n fun y => { y with self := !y.self } := by
  apply Tab.ext_get
  intro m
  have hmute : (selfTurned w n).mute.seats
      = w.mute.seats.modify n fun s => { s with self := !(w.mseat n).self } :=
    congrArg (fun m : Mute => m.seats.modify n fun s => { s with self := !(w.mseat n).self }) (activity_same w).1
  rw [hmute, Tab.get_map, Tab.get_modify, Tab.get_modify, Tab.get_map, Tab.get_map]
  split
  · rename_i hm
    subst hm
    rfl
  · rfl

theorem micPress_toggles (w : Room) (p : PodPos) (n : Seat) (hout : (w.activity.deliver p n .mic).out = w.out ++ es) :
    Press.TogglesSelf ⟨w, p, n, es, w.activity.deliver p n .mic⟩ ∧ MutesReachMix w (w.activity.deliver p n .mic) := by
  have hstanding := deliver_standing w.activity p n .mic
  have hsteps : Steps floorLeave (selfTurned w n).derive (w.activity.deliver p n .mic) := by
    rw [micPress_eq]
    exact Steps.ite ((Steps.refl _).heldPress n .mic) (.refl _)
  have hturned := turned_of hsteps
  have hgrows := selfTurned_grows w n
  have heq := micPress_eq w p n
  rw [hturned.flags, hturned.table, hturned.stamp, selfTurned_flags, activity_standing] at hstanding
  have hmute : (selfTurned w n).mute.table = w.mute.table ∧ (selfTurned w n).mute.stamp = w.mute.stamp
      ∧ (selfTurned w n).mute.eff = w.mute.eff ∧ (selfTurned w n).mute.links = w.mute.links := by
    simp [selfTurned, Room.setMuteSeat]
  have hmix : (selfTurned w n).mix = w.mix := by simp [selfTurned, Room.setMuteSeat]
  rw [hmute.1, hmute.2.1] at hstanding
  refine ⟨⟨hturned.derived, hstanding, fun hself hmuted => ?_⟩, hturned.from ⟨hmute.2.2.1, hmute.2.2.2⟩ hmix⟩
  have heff := (hturned.eff n).trans ((selfTurned w n).derive_eff n).symm
  dsimp only at hmuted ⊢
  rw [heff] at hmuted ⊢
  refine Told.mem ?_ hout
  have hself : (w.mseat n).self = true := hself
  rw [heq, if_pos (by simp [hself, hmuted])]
  exact told_emit _ (hgrows.seatTone n .held).grows

/-! ## The talk release (R58) -/

theorem freed_same (w : Room) (n : Seat) : (w.activity.selfCleared n).mute = (w.selfCleared n).mute
    ∧ (w.activity.selfCleared n).mix = w.mix ∧ (w.selfCleared n).SameClaims (w.activity.selfCleared n) := by
  have hmute : (w.activity.selfCleared n).mute = (w.selfCleared n).mute :=
    congrArg (fun m : Mute => { m with seats := m.seats.modify n fun y => { y with self := false } }) (activity_same w).1
  have hmap : (w.activity.selfCleared n).map = (w.selfCleared n).map := (activity_same w).2.1
  refine ⟨hmute, (activity_same w).2.2.2.1, ?_⟩
  constructor <;> simp only [hmute, hmap]

/-- What a press leaves that frees the seat's self flag, and what follows it as well. -/
structure Freed (w : Room) (n : Seat) (t : Room) : Prop where
  derived : t.Derived
  reaches : MutesReachMix w t
  eff : ∀ m, t.eff m = (w.selfCleared n).effOf m

theorem freed_of (h : Steps floorLeave (released w.activity n) t) : Freed w n t := by
  have hturned := turned_of (x := w.activity.selfCleared n) h
  obtain ⟨hmute, hmix, hsame⟩ := freed_same w n
  exact ⟨hturned.derived, hturned.from ⟨by rw [hmute]; rfl, by rw [hmute]; rfl⟩ hmix,
    fun m => (hturned.eff m).trans (hsame.effOf m)⟩

theorem freed_standing {b : Button} (h : Steps floorLeave (released w.activity n) (w.activity.deliver p n b)) :
    (w.activity.deliver p n b).standing = { w.standing with flags := (w.selfCleared n).standing.flags } := by
  have hturned := turned_of (x := w.activity.selfCleared n) h
  obtain ⟨hmute, _, _⟩ := freed_same w n
  rw [deliver_standing, activity_standing, hturned.flags, hturned.table, hturned.stamp, hmute]
  rfl

theorem released_grows (w : Room) (n : Seat) : Steps frameLeave w (released w.activity n) :=
  ((Steps.refl w).then .activity).released n frameLeave_wide ⟨trivial, fun _ _ _ _ _ => trivial⟩

theorem talkRelease_held (u : Room) (n : Seat) (h : ((released u n).eff n).micMuted = true) :
    u.talkRelease n = ((released u n).heldPress n .talk, some ((released u n).eff n).micCause) := by
  rw [talkRelease_eq, if_pos h]

theorem talkRelease_free (u : Room) (n : Seat) (h : ((released u n).eff n).micMuted = false) :
    u.talkRelease n = (released u n, none) := by
  rw [talkRelease_eq, if_neg (by simp [h])]

theorem talkRelease_steps (u : Room) (n : Seat) : Steps floorLeave (released u n) (u.talkRelease n).1 := by
  rw [talkRelease_eq]
  generalize PodLines.released u n = x
  split
  · exact (Steps.refl x).heldPress n .talk
  · exact .refl x

/-- A seat that stays muted is told so (R78). -/
theorem released_told (w : Room) (n : Seat) (c : Cause) (hc : ((released w.activity n).eff n).micCause = c)
    (h : (PodLines.released w.activity n |>.heldPress n .talk).out <+: t.out) : Told w t (.heldPress n .talk c) := by
  subst hc
  exact (told_emit _ ((released_grows w n).seatTone n .held).grows).grow h

/-! ## TALK outside REQUEST mode (R58, R94) -/

theorem talkPress_release (w : Room) (p : PodPos) (n : Seat) (hmode : w.floor.settings.mode ≠ .request) :
    w.activity.deliver p n .talk = (w.activity.talkRelease n).1.floorFill.floorFinish := by
  rw [← (activity_same w).2.2.1] at hmode
  show w.activity.talkPress n = _
  unfold Room.talkPress Room.floorEvent
  dsimp only
  split
  · rename_i h
    exact absurd h hmode
  · rfl

theorem talkPress_releases (w : Room) (p : PodPos) (n : Seat) (hmode : w.floor.settings.mode ≠ .request)
    (hout : (w.activity.deliver p n .talk).out = w.out ++ es) :
    Press.Releases ⟨w, p, n, es, w.activity.deliver p n .talk⟩ ∧ MutesReachMix w (w.activity.deliver p n .talk) := by
  have heq := talkPress_release w p n hmode
  have hsteps : Steps floorLeave (released w.activity n) (w.activity.deliver p n .talk) := by
    rw [heq]
    exact (talkRelease_steps _ n).floorFill.then .finish
  have hfreed := freed_of hsteps
  refine ⟨⟨hfreed.derived, freed_standing hsteps, fun hmuted => ?_⟩, hfreed.reaches⟩
  have heff := hsteps.still.eff n
  dsimp only at hmuted ⊢
  rw [heff] at hmuted ⊢
  refine Told.mem (released_told w n _ rfl ?_) hout
  rw [heq, talkRelease_held _ _ hmuted]
  exact (fill_steps _).grows

/-! ## TALK in REQUEST mode (R101, R102) -/

/-- What a TALK press does at the floor in REQUEST mode. -/
def talkAct (w : Room) (n : Seat) : Room :=
  match (w.fseat n).gate with
  | .queued => w.activity.closeSeat n .cancelled
  | .granted => w.activity.closeSeat n .done
  | _ => w.activity.talkAsk n

theorem talkPress_request (w : Room) (p : PodPos) (n : Seat) (hmode : w.floor.settings.mode = .request) :
    w.activity.deliver p n .talk = (talkAct w n).floorFill.floorFinish := by
  have hgate : w.activity.fseat n = w.fseat n := congrArg (fun f : Floor => f.seats.get n) (activity_same w).2.2.1
  rw [← (activity_same w).2.2.1] at hmode
  show w.activity.talkPress n = _
  unfold Room.talkPress Room.floorEvent talkAct
  dsimp only
  rw [hmode]
  dsimp only
  rw [hgate] <;> rfl

theorem direct_iff (w : Room) (n : Seat) : w.activity.direct n = true ↔ w.asksDirectly n := by
  obtain ⟨_, hmap, hfloor, _⟩ := activity_same w
  unfold Room.direct Room.asksDirectly Floor.hasRoom Room.chairFree Room.isChair Room.entry Room.fseat
  rw [hmap, hfloor]
  simp [and_assoc]

theorem talkAsk_refused (w : Room) (n : Seat) (hdirect : ¬ w.asksDirectly n) (hfull : w.floor.queue.length = 16) :
    w.activity.talkAsk n = w.activity.emit (.refusedEv n .queueFull) := by
  rw [← direct_iff] at hdirect
  unfold Room.talkAsk
  rw [if_pos (by simp [hdirect, hfull])]

theorem talkAsk_taken (w : Room) (n : Seat) (h : w.asksDirectly n ∨ w.floor.queue.length ≠ 16) :
    ¬ (!w.activity.direct n && decide (w.activity.floor.queue.length = 16)) = true := by
  rw [← direct_iff] at h
  rcases h with h | h <;> simp [h]

theorem talkAsk_held (w : Room) (n : Seat) (h : w.asksDirectly n ∨ w.floor.queue.length ≠ 16)
    (hmuted : ((released w.activity n).eff n).micMuted = true) :
    w.activity.talkAsk n = (released w.activity n).heldPress n .talk := by
  unfold Room.talkAsk
  dsimp only
  rw [if_neg (talkAsk_taken w n h), talkRelease_held _ _ hmuted]

theorem talkAsk_free (w : Room) (n : Seat) (h : w.asksDirectly n ∨ w.floor.queue.length ≠ 16)
    (hmuted : ((released w.activity n).eff n).micMuted = false) :
    w.activity.talkAsk n = (released w.activity n).askedFree n (w.activity.direct n) := by
  unfold Room.talkAsk
  dsimp only
  rw [if_neg (talkAsk_taken w n h), talkRelease_free _ _ hmuted]

/-- A seat that takes back what it asked, or gives back its grant (R102). -/
theorem talkPress_back (w : Room) (n : Seat) (why : Reason) (hne : (w.fseat n).gate ≠ .closed)
    (ht : t = (w.activity.closeSeat n why).floorFill.floorFinish) :
    Still w t ∧ (t.fseat n).gate = .closed ∧ Told w t (closing n (w.fseat n).gate why) := by
  subst ht
  have hgate : w.activity.fseat n = w.fseat n := congrArg (fun f : Floor => f.seats.get n) (activity_same w).2.2.1
  rw [← hgate] at hne ⊢
  obtain ⟨hclosed, hoff⟩ := closeSeat_off w.activity n why hne
  have hclose : Steps floorLeave w.activity (w.activity.closeSeat n why) := (Steps.refl _).closeSeat n why trivial
  refine ⟨still_activity (hclose.trans (fill_steps _)), ?_, ?_⟩
  · rw [(fill_off _ hoff).1]
    exact hclosed
  · refine ⟨w.activity.out, by rw [(activity_same w).2.2.2.2.2.1], ?_⟩
    rw [← closeSeat_out w.activity n why hne]
    exact (fill_steps _).grows

theorem talkAct_queued (w : Room) (n : Seat) (h : (w.fseat n).gate = .queued) :
    talkAct w n = w.activity.closeSeat n .cancelled := by
  unfold talkAct
  rw [h]

theorem talkAct_granted (w : Room) (n : Seat) (h : (w.fseat n).gate = .granted) :
    talkAct w n = w.activity.closeSeat n .done := by
  unfold talkAct
  rw [h]

theorem talkAct_ask (w : Room) (n : Seat) (hq : (w.fseat n).gate ≠ .queued) (hg : (w.fseat n).gate ≠ .granted) :
    talkAct w n = w.activity.talkAsk n := by
  unfold talkAct
  split
  · exact absurd ‹_› hq
  · exact absurd ‹_› hg
  · rfl

/-- A seat's request is refused with the queue full (R101). -/
theorem talkPress_refused (w : Room) (n : Seat) (hdirect : ¬ w.asksDirectly n) (hfull : w.floor.queue.length = 16)
    (ht : t = (w.activity.talkAsk n).floorFill.floorFinish) : Still w t ∧ Told w t (.refusedEv n .queueFull) := by
  subst ht
  rw [talkAsk_refused w n hdirect hfull]
  refine ⟨still_activity (((Steps.refl _).emit _).trans (fill_steps _)), Told.grow (told_emit _ ?_) (fill_steps _).grows⟩
  rw [(activity_same w).2.2.2.2.2.1]

theorem askedFree_steps (u : Room) (n : Seat) (b : Bool) : Steps floorLeave u (u.askedFree n b) :=
  (Steps.refl u).askedFree n b trivial

/-- What the seat asks for once it is free: to be granted at once, or a place in the queue (R101). -/
theorem askedFree_direct (u : Room) (n : Seat) (ht : t = (u.askedFree n true).floorFill.floorFinish) :
    (t.fseat n).gate = .granted := by
  subst ht
  obtain ⟨hgate, hoff⟩ := admitSeat_own u n .granted
  unfold Room.askedFree
  rw [if_pos rfl, (fill_off _ hoff).1, hgate]

theorem queueSeat_seat (u : Room) (n : Seat) : ((u.queueSeat n).fseat n).gate = .queued := by
  rw [Room.fseat, queueSeat_floor, Tab.get_modify, if_pos rfl]

theorem askedFree_queued (u : Room) (n : Seat) (hmode : u.floor.settings.mode = .request)
    (ht : t = (u.askedFree n false).floorFill.floorFinish) :
    HasAsked n t ∧ ∃ place, ∃ v : Room, u.out <+: v.out ∧ (v.emit (.queuedEv n .request place)).out <+: t.out := by
  subst ht
  unfold Room.askedFree
  rw [if_neg (by simp)]
  refine ⟨fill_asked _ ?_ (.inl (queueSeat_seat u n)), ?_⟩
  · rw [queueSeat_floor]
    exact hmode
  · obtain ⟨place, v, hv, hq⟩ : ∃ place, ∃ v : Room, u.out = v.out ∧ u.queueSeat n = v.emit (.queuedEv n .request place) :=
      ⟨_, _, (by simp), rfl⟩
    exact ⟨place, v, by rw [hv], by rw [← hq]; exact (fill_steps _).grows⟩

/-- TALK in REQUEST mode, for a seat that neither waits nor speaks, not refused (R101). -/
theorem talkPress_asks (w : Room) (p : PodPos) (n : Seat) (hmode : w.floor.settings.mode = .request)
    (hq : (w.fseat n).gate ≠ .queued) (hg : (w.fseat n).gate ≠ .granted)
    (h : w.asksDirectly n ∨ w.floor.queue.length ≠ 16) :
    Steps floorLeave (released w.activity n) (w.activity.deliver p n .talk)
      ∧ (((w.selfCleared n).effOf n).micMuted = true →
        Told w (w.activity.deliver p n .talk) (.heldPress n .talk ((w.selfCleared n).effOf n).micCause))
      ∧ (((w.selfCleared n).effOf n).micMuted = false →
        (w.asksDirectly n → ((w.activity.deliver p n .talk).fseat n).gate = .granted)
        ∧ (¬ w.asksDirectly n → HasAsked n (w.activity.deliver p n .talk)
          ∧ ∃ place, Told w (w.activity.deliver p n .talk) (.queuedEv n .request place))) := by
  have heq := talkPress_request w p n hmode
  rw [talkAct_ask w n hq hg] at heq
  generalize w.activity.deliver p n .talk = t at heq ⊢
  have heff : (released w.activity n).eff n = (w.selfCleared n).effOf n := (freed_of (.refl _)).eff n
  rw [← heff]
  have hgrows := (released_grows w n).grows
  have hset : (released w.activity n).floor.settings.mode = .request := by
    rw [(released_grows w n).settings.floor]
    exact hmode
  cases hmuted : ((released w.activity n).eff n).micMuted with
  | true =>
    have htold := released_told (t := t) w n _ rfl
    rw [talkAsk_held w n h hmuted] at heq
    generalize released w.activity n = y at *
    have hfill := fill_steps (y.heldPress n .talk)
    rw [← heq] at hfill
    exact ⟨((Steps.refl y).heldPress n .talk).trans hfill, fun _ => htold hfill.grows, fun hf => by cases hf⟩
  | false =>
    rw [talkAsk_free w n h hmuted] at heq
    refine ⟨?_, fun hf => by (cases hf), fun _ => ⟨fun hd => ?_, fun hd => ?_⟩⟩
    · rw [heq]
      exact (askedFree_steps _ n _).trans (fill_steps _)
    · rw [(direct_iff w n).2 hd] at heq
      exact askedFree_direct _ n heq
    · rw [← direct_iff, Bool.not_eq_true] at hd
      rw [hd] at heq
      obtain ⟨hasked, place, v, hv, htold⟩ := askedFree_queued _ n hset heq
      exact ⟨hasked, place, (told_emit _ (hgrows.trans hv)).grow htold⟩

/-- TALK in REQUEST mode (R101, R102). -/
theorem talkPress_request_asks (w : Room) (p : PodPos) (n : Seat) (hmode : w.floor.settings.mode = .request)
    (hout : (w.activity.deliver p n .talk).out = w.out ++ es) :
    Press.Asks ⟨w, p, n, es, w.activity.deliver p n .talk⟩ ∧ MutesReachMix w (w.activity.deliver p n .talk) := by
  have heq := talkPress_request w p n hmode
  have hback : ∀ why, (w.fseat n).gate ≠ .closed →
      w.activity.deliver p n .talk = (w.activity.closeSeat n why).floorFill.floorFinish →
      (w.activity.deliver p n .talk).standing = w.standing ∧ MutesReachMix w (w.activity.deliver p n .talk)
        ∧ ((w.activity.deliver p n .talk).fseat n).gate = .closed ∧ closing n (w.fseat n).gate why ∈ es := by
    intro why hne ht
    obtain ⟨hstill, hgate, htold⟩ := talkPress_back w n why hne ht
    exact ⟨deliver_still hstill, hstill.reaches, hgate, htold.mem hout⟩
  by_cases hq : (w.fseat n).gate = .queued
  · rw [talkAct_queued w n hq] at heq
    obtain ⟨hstands, hreach, hgate, htold⟩ := hback _ (by rw [hq]; decide) heq
    rw [hq] at htold
    exact ⟨⟨fun _ => ⟨hgate, htold, hstands⟩, fun hg => absurd (hq.symm.trans hg) (by decide), fun hn => absurd hq hn⟩, hreach⟩
  · by_cases hg : (w.fseat n).gate = .granted
    · rw [talkAct_granted w n hg] at heq
      obtain ⟨hstands, hreach, hgate, htold⟩ := hback _ (by rw [hg]; decide) heq
      rw [hg] at htold
      exact ⟨⟨fun h => absurd h hq, fun _ => ⟨hgate, htold, hstands⟩, fun _ hn => absurd hg hn⟩, hreach⟩
    · by_cases hrefused : ¬ w.asksDirectly n ∧ w.floor.queue.length = 16
      · rw [talkAct_ask w n hq hg] at heq
        obtain ⟨hstill, htold⟩ := talkPress_refused w n hrefused.1 hrefused.2 heq
        exact ⟨⟨fun h => absurd h hq, fun h => absurd h hg, fun _ _ => ⟨fun _ _ => ⟨htold.mem hout, deliver_still hstill⟩,
          fun h => absurd hrefused.2 (h.resolve_left hrefused.1), fun h => absurd h hrefused.1,
          fun _ h => absurd hrefused.2 h⟩⟩, hstill.reaches⟩
      · have htaken : w.asksDirectly n ∨ w.floor.queue.length ≠ 16 := by tauto
        obtain ⟨hsteps, hheld, hfree⟩ := talkPress_asks w p n hmode hq hg htaken
        have hstands := freed_standing hsteps
        refine ⟨⟨fun h => absurd h hq, fun h => absurd h hg, fun _ _ => ⟨fun h1 h2 => absurd ⟨h1, h2⟩ hrefused,
          fun _ hm => ⟨(hheld hm).mem hout, hstands⟩, fun hd hm => ⟨(hfree hm).1 hd, hstands⟩, fun hd _ hm => ?_⟩⟩,
          (freed_of hsteps).reaches⟩
        obtain ⟨hasked, place, htold⟩ := (hfree hm).2 hd
        exact ⟨hasked, ⟨place, htold.mem hout⟩, hstands⟩

end Sys2Proof.Machine.PodLines
end

section
/-! ROOM and NEXT presses of a chair (R37, R64, R65, R94, R103). -/

namespace Sys2Proof.Machine.PodLines

variable {P : Leave} {r t u v w x : Room} {n : Seat} {p : PodPos} {es : List Event}

/-! ## The chair console -/

/-- A present chair console that shows its indications, and the seat that it serves. -/
structure Console (u : Room) (p : PodPos) (n : Seat) : Prop where
  present : (u.podAt p).present = true
  kind : (u.podAt p).kind = .chair
  dark : (u.line p.line).dark = false
  seat : seatAt u.map.running p = some n

theorem Console.place (h : Console u p n) : u.placeOf n = some p := place_of_seatAt h.seat

/-- What leaves the records' facts, standby and the map leaves a console. -/
theorem Console.then (h : Console u p n) (hfacts : t.lines.map Line.facts = u.lines.map Line.facts)
    (hdark : t.lines.map Line.dark = u.lines.map Line.dark) (hmap : t.map.running = u.map.running) : Console t p n := by
  have hpod := pod_facts hfacts p
  exact ⟨(congrArg PodFacts.present hpod).trans h.present, (congrArg PodFacts.kind hpod).trans h.kind,
    (get_of_map_eq hdark p.line).trans h.dark, by rw [hmap]; exact h.seat⟩

/-- A console's record once it is changed and recomposed: its lamp is what it calls for. -/
theorem Console.lamp (h : Console u p n) (f : Pod → Pod) (hf : ∀ x, (f x).present = x.present) :
    (((u.setPod p f).compose p).podAt p).room = (f (u.podAt p)).roomLamp
      ∧ (((u.setPod p f).compose p).podAt p).blink = (f (u.podAt p)).blink := by
  have hset : (u.setPod p f).podAt p = f (u.podAt p) := by rw [Room.setPod_podAt, if_pos rfl]
  have hdark := setPod_dark u p f p.line
  have hmap : (u.setPod p f).map = u.map := rfl
  rw [compose_podAt, if_pos rfl, hset, hdark, hmap, h.seat, h.dark, hf, h.present]
  exact ⟨rfl, (composed_keeps _ _).2.2⟩

/-- A refusal at a chair console blinks its room lamp (R37). -/
theorem Console.refused (h : Console u p n) : (u.refuseLamp n).LampBlinks p := by
  have hlamp := h.lamp (fun pod => { pod with blink := some 2000 }) fun _ => rfl
  have heq : u.refuseLamp n = (u.setPod p fun pod => { pod with blink := some 2000 }).compose p := by
    unfold Room.refuseLamp
    rw [h.place]
    exact if_pos (by simp [h.present, h.kind, show (u.lines.get p.line).dark = false from h.dark])
  rw [heq]
  refine ⟨hlamp.2, hlamp.1.trans ?_⟩
  unfold Pod.roomLamp
  dsimp only
  rw [h.kind]
  rfl

/-- A room claim notice at a chair console lights its room lamp, or not, where it does not blink (R37, R74). -/
theorem Console.viewed (h : Console u p n) (on : Bool) :
    ((u.roomView n on).podAt p).room
      = if ((u.roomView n on).podAt p).blink.isSome = true then .blink else if on = true then .steady else .off := by
  have hlamp := h.lamp (fun pod => { pod with view := { pod.view with roomClaim := on } }) fun _ => rfl
  have heq : u.roomView n on
      = (u.setPod p fun pod => { pod with view := { pod.view with roomClaim := on } }).compose p := by
    unfold Room.roomView Room.tell
    rw [h.place]
    exact if_pos h.present
  rw [heq, hlamp.1, hlamp.2]
  unfold Pod.roomLamp
  dsimp only
  rw [h.kind]

theorem console_activity (h : Console w p n) : Console w.activity p n := by
  obtain ⟨_, hmap, _, _, hlines, _⟩ := activity_same w
  exact h.then (by rw [hlines]) (by rw [hlines]) (by rw [hmap])

/-! ## Presses that no chair makes (R32, R33) -/

theorem chairPress_member (u : Room) (p : PodPos) (n : Seat) (b : Button) (act : Room → Room)
    (h : (u.podAt p).kind ≠ .chair) : u.chairPress p n b act = u := by
  unfold Room.chairPress
  split
  · rfl
  · exact absurd ‹_› h

theorem chairPress_chair (u : Room) (p : PodPos) (n : Seat) (b : Button) (act : Room → Room)
    (h : (u.podAt p).kind = .chair) (hrole : (u.map.running.get n).role = .chair) : u.chairPress p n b act = act u := by
  unfold Room.chairPress
  rw [h]
  exact if_pos (decide_eq_true hrole)

theorem chairPress_mismatch (u : Room) (p : PodPos) (n : Seat) (b : Button) (act : Room → Room)
    (h : (u.podAt p).kind = .chair) (hrole : (u.map.running.get n).role ≠ .chair) :
    u.chairPress p n b act = u.emit (.roleMismatch n b p) := by
  unfold Room.chairPress
  rw [h]
  exact if_neg (by simp [Room.isChair, Room.entry, hrole])

/-! ## ROOM (R64, R65) -/

/-- The room claim of a chair. -/
theorem matching_eq (m : Mute) (n : Seat) : m.matching (.chair n) .members .mic
    = m.table.find? fun c => decide (c.who = .chair n ∧ c.scope = .members ∧ c.dir = .mic) := by
  unfold Mute.matching
  congr 1
  funext c
  simp [Bool.and_assoc]

theorem freeNumber_some (m : Mute) {i : Fin 48} (hfree : ∀ c ∈ m.table, c.number ≠ i)
    (hlow : ∀ j : Fin 48, j < i → ∃ c ∈ m.table, c.number = j) : m.freeNumber = some i := by
  unfold Mute.freeNumber
  have hsome : ((List.finRange 48).find? fun i => m.table.all fun c => decide (c.number ≠ i)).isSome = true :=
    List.find?_isSome.2 ⟨i, List.mem_finRange i, by simpa using hfree⟩
  obtain ⟨j, hj⟩ := Option.isSome_iff_exists.1 hsome
  rw [hj]
  obtain ⟨hfits, as, bs, hsplit, hbefore⟩ := List.find?_eq_some_iff_append.1 hj
  have hsorted : (as ++ j :: bs).Pairwise (· < ·) := hsplit ▸ List.pairwise_lt_finRange 48
  have hi : i ∈ as ++ j :: bs := hsplit ▸ List.mem_finRange i
  rcases List.mem_append.1 hi with hi | hi
  · have hno := hbefore i hi
    simp at hno
    obtain ⟨c, hc, hci⟩ := hno
    exact absurd hci (hfree c hc)
  · rcases List.mem_cons.1 hi with rfl | hi
    · rfl
    · have hlt : j < i := (List.pairwise_cons.1 (List.pairwise_append.1 hsorted).2.1).1 i hi
      obtain ⟨c, hc, hcj⟩ := hlow j hlt
      have hne : c.number ≠ j := by
        have := List.all_eq_true.1 hfits c hc
        simpa using this
      exact absurd hcj hne

theorem freeNumber_none (m : Mute) (h : ∀ i : Fin 48, ∃ c ∈ m.table, c.number = i) : m.freeNumber = none := by
  unfold Mute.freeNumber
  refine List.find?_eq_none.2 fun i _ => ?_
  obtain ⟨c, hc, hi⟩ := h i
  simpa using ⟨c, hc, hi⟩

theorem roomView_steps (u : Room) (n : Seat) (on : Bool) : Steps floorLeave u (u.roomView n on) :=
  (Steps.refl _).tell n _

/-- A room press that changes the claims, and the view that follows (R64, R65). -/
theorem roomPress_turned (hc : Console x p n) (on : Bool) (ht : t = x.derive.roomView n on) :
    Turned x t ∧ (t.podAt p).room = (if (t.podAt p).blink.isSome = true then .blink else if on = true then .steady else .off)
      ∧ x.out <+: t.out := by
  have hconsole : Console x.derive p n := hc.then (by simp) (by simp) (by simp)
  have hgrows : x.out <+: x.derive.out := (Steps.refl (P := frameLeave) x).deriveWide frameLeave_wide |>.grows
  have hview := roomView_steps x.derive n on
  have hlamp := hconsole.viewed on
  rw [← ht] at hview hlamp
  exact ⟨turned_of hview, hlamp, hgrows.trans hview.grows⟩

/-- A room press that changes the claims moves no flag and no mute itself. -/
theorem roomPress_leaves {b : Button} {table : List Claim} {k : Nat} (h : Turned x (w.activity.deliver p n b))
    (hmute : x.mute = { w.mute with table := table, stamp := k }) (hmix : x.mix = w.mix) :
    (w.activity.deliver p n b).standing = { w.standing with table := table, stamp := k }
      ∧ MutesReachMix w (w.activity.deliver p n b) := by
  refine ⟨?_, h.from (by rw [hmute]; exact ⟨rfl, rfl⟩) hmix⟩
  rw [deliver_standing, activity_standing, h.flags, h.table, h.stamp, hmute]
  rfl

theorem roomPress_toggles (hc : Console w p n) (hrole : (w.map.running.get n).role = .chair)
    (hout : (w.activity.deliver p n .room).out = w.out ++ es) :
    Press.TogglesRoomClaim ⟨w, p, n, es, w.activity.deliver p n .room⟩
      ∧ MutesReachMix w (w.activity.deliver p n .room) := by
  obtain ⟨hmute, hmap, _, hmix, _, hsame, _⟩ := activity_same w
  have hca := console_activity hc
  have heq : w.activity.deliver p n .room = w.activity.roomPress n :=
    chairPress_chair w.activity p n .room (fun r => r.roomPress n) hca.kind (by rw [hmap]; exact hrole)
  unfold Room.roomPress at heq
  rw [matching_eq, hmute] at heq
  unfold Press.TogglesRoomClaim
  dsimp only
  cases hown : w.mute.table.find? fun c => decide (c.who = .chair n ∧ c.scope = .members ∧ c.dir = .mic) with
  | some c =>
    rw [hown] at heq
    dsimp only at heq
    have hx : Console (w.activity.goneAll [c] .lifted) p n := hca.then rfl rfl rfl
    obtain ⟨hturned, hlamp, hgrows⟩ := roomPress_turned hx false heq
    have htold : Told w (w.activity.goneAll [c] .lifted) (.claimGone c .lifted) :=
      told_emit (t := w.activity.dropClaim c.number) _ (by rw [show (w.activity.dropClaim c.number).out = w.out from hsame])
    have hgone : (w.activity.goneAll [c] .lifted).mute = { w.mute with
        table := w.mute.table.filter fun y => y.number ≠ c.number } := by rw [← hmute]; rfl
    obtain ⟨hstands, hreach⟩ := roomPress_leaves (w := w) hturned hgone hmix
    refine ⟨⟨fun c' hc' => ?_, fun _ h => absurd h (Option.some_ne_none c), fun h => absurd h (Option.some_ne_none c)⟩,
      hreach⟩
    cases hc'
    exact ⟨(htold.grow hgrows).mem hout, hturned.derived, hstands, hlamp⟩
  | none =>
    rw [hown] at heq
    dsimp only at heq
    cases hnumber : w.mute.freeNumber with
    | some i =>
      rw [hnumber] at heq
      dsimp only at heq
      have hx : Console (w.activity.addClaim i (.chair n) .members .mic none) p n := hca.then rfl rfl rfl
      obtain ⟨hturned, hlamp, hgrows⟩ := roomPress_turned hx true heq
      have hadd : (w.activity.addClaim i (.chair n) .members .mic none).mute = { w.mute with
          table := w.mute.table ++ [⟨i, .chair n, .members, .mic, none, w.mute.stamp⟩], stamp := w.mute.stamp + 1 } := by
        rw [← hmute]
        rfl
      obtain ⟨hstands, hreach⟩ := roomPress_leaves (w := w) hturned hadd hmix
      refine ⟨⟨fun c h => absurd h.symm (Option.some_ne_none c), fun j _ hfree hlow => ?_, fun _ hfull => ?_⟩, hreach⟩
      · have hij : i = j := Option.some.inj (hnumber.symm.trans (freeNumber_some w.mute hfree hlow))
        subst hij
        exact ⟨hturned.derived, hstands, hlamp⟩
      · rw [freeNumber_none w.mute hfull] at hnumber
        cases hnumber
    | none =>
      rw [hnumber] at heq
      dsimp only at heq
      have hsteps : Steps floorLeave w.activity (w.activity.refuseLamp n) := (Steps.refl _).refuseLamp n
      have hstill : Still w (w.activity.deliver p n .room) := by
        rw [heq]
        exact still_activity (hsteps.emit _)
      refine ⟨⟨fun c h => absurd h.symm (Option.some_ne_none c), fun j _ hfree hlow => ?_,
        fun _ _ => ⟨?_, deliver_still hstill, ?_⟩⟩, hstill.reaches⟩
      · rw [freeNumber_some w.mute hfree hlow] at hnumber
        cases hnumber
      · refine Told.mem ?_ hout
        rw [heq]
        refine told_emit _ ?_
        rw [← hsame]
        exact hsteps.grows
      · rw [heq]
        exact hca.refused

end Sys2Proof.Machine.PodLines
end

section
/-! NEXT and CLEAR presses of a chair (R94, R103, R107). -/

namespace Sys2Proof.Machine.PodLines

variable {P : Leave} {r t u v w x : Room} {n m : Seat} {p : PodPos} {es : List Event} {b : Button}

/-- A press that tells nothing new. -/
theorem told_nothing (hout : t.out = w.out ++ es) (h : t.out = w.out) : es = [] :=
  List.append_right_eq_self.1 (hout.symm.trans h)

theorem activity_out (hout : t.out = w.out ++ es) (h : t = w.activity) : es = [] :=
  told_nothing hout (by rw [h]; exact (activity_same w).2.2.2.2.2.1)

theorem Told.before {e : Event} (h : Told u t e) (g : r.out <+: u.out) : Told r t e := by
  obtain ⟨es, h1, h2⟩ := h
  exact ⟨es, g.trans h1, h2⟩

/-- A chair's press that reaches the floor alone. -/
theorem chairPress_still (h : Steps floorLeave w.activity (w.activity.deliver p n b)) :
    (w.activity.deliver p n b).standing = w.standing ∧ MutesReachMix w (w.activity.deliver p n b) := by
  have hstill := still_activity h
  exact ⟨deliver_still hstill, hstill.reaches⟩

theorem deliver_next (hc : Console w p n) (hrole : (w.map.running.get n).role = .chair) :
    w.activity.deliver p n .next = w.activity.nextPress n :=
  chairPress_chair w.activity p n .next (fun r => r.nextPress n) (console_activity hc).kind
    (by rw [(activity_same w).2.1]; exact hrole)

theorem deliver_clear (hc : Console w p n) (hrole : (w.map.running.get n).role = .chair) :
    w.activity.deliver p n .clear = w.activity.clearFloor :=
  chairPress_chair w.activity p n .clear Room.clearFloor (console_activity hc).kind
    (by rw [(activity_same w).2.1]; exact hrole)

/-! ## NEXT (R103) -/

/-- What NEXT does at the floor in REQUEST mode. -/
def nextAct (u : Room) (n : Seat) : Room :=
  match u.floor.grantable with
  | none => (u.emit (.refusedEv n .noRequest)).refuseLamp n
  | some m => if u.floor.hasRoom then u.admitSeat m .granted else (u.emit (.refusedEv n .noSlot)).refuseLamp n

theorem nextPress_request (u : Room) (n : Seat) (h : u.floor.settings.mode = .request) :
    u.nextPress n = (nextAct u n).floorFill.floorFinish := by
  unfold Room.nextPress Room.floorEvent nextAct
  exact if_neg (by simp [h])

theorem nextPress_other (u : Room) (n : Seat) (h : u.floor.settings.mode ≠ .request) : u.nextPress n = u := by
  unfold Room.nextPress
  rw [if_pos h]

theorem refuseLamp_floor (u : Room) (n : Seat) : (u.refuseLamp n).floor = u.floor := by
  unfold Room.refuseLamp
  split
  · rfl
  · dsimp only
    split
    · simp
    · rfl

theorem floorFinish_lines (u : Room) : u.floorFinish.lines = u.lines := by
  unfold Room.floorFinish
  dsimp only
  split <;> split <;> simp

/-- A refused NEXT tells why and blinks the console's lamp (R37, R103). -/
theorem nextPress_refused (hc : Console u p n) (hmode : u.floor.settings.mode = .request)
    (hfull : u.floor.grantable = none ∨ u.floor.hasRoom = false) (why : RefuseReason)
    (ht : t = ((u.emit (.refusedEv n why)).refuseLamp n).floorFill.floorFinish) :
    Told u t (.refusedEv n why) ∧ t.LampBlinks p := by
  have hfloor : ((u.emit (.refusedEv n why)).refuseLamp n).floor = u.floor := refuseLamp_floor _ n
  rw [fill_full _ (by rw [hfloor]; exact hmode) (by rw [hfloor]; exact hfull)] at ht
  subst ht
  have hemit : Console (u.emit (.refusedEv n why)) p n := hc.then rfl rfl rfl
  refine ⟨(told_emit _ List.prefix_rfl).grow ?_, ?_⟩
  · exact (((Steps.refl (P := floorLeave) (u.emit (.refusedEv n why))).refuseLamp n).then .finish).grows
  · unfold Room.LampBlinks
    rw [podAt_of_lines (floorFinish_lines _)]
    exact hemit.refused

/-- A NEXT that finds a seat and room for it opens the seat (R103). -/
theorem nextPress_granted (m : Seat) (ht : t = (u.admitSeat m .granted).floorFill.floorFinish) :
    (t.fseat m).gate = .granted ∧ ∃ place, Told u t (.openedEv m .granted place) := by
  subst ht
  obtain ⟨hgate, hoff⟩ := admitSeat_own u m .granted
  refine ⟨by rw [(fill_off _ hoff).1, hgate], placeIn (u.admitSeat m .granted).floor.openList m,
    (u.emitAdmitted m (u.fseat m).gate).out, ?_, ?_⟩
  · unfold Room.emitAdmitted Room.emit
    split <;> simp
  · rw [← admitSeat_out]
    exact (fill_steps _).grows

theorem grantable_eq (f : Floor) : f.grantable = f.queue.find? fun m => decide ((f.seats.get m).muted = false) := by
  unfold Floor.grantable
  congr 1
  funext m
  cases (f.seats.get m).muted <;> rfl

theorem nextPress_grants (hc : Console w p n) (hrole : (w.map.running.get n).role = .chair)
    (hout : (w.activity.deliver p n .next).out = w.out ++ es) :
    Press.GrantsNext ⟨w, p, n, es, w.activity.deliver p n .next⟩
      ∧ MutesReachMix w (w.activity.deliver p n .next) := by
  have heq := deliver_next hc hrole
  have hfloor := (activity_same w).2.2.1
  have hsame : w.out <+: w.activity.out := by rw [(activity_same w).2.2.2.2.2.1]
  obtain ⟨hstands, hreach⟩ := chairPress_still (w := w) (p := p) (n := n) (b := .next)
    (by rw [heq]; exact (Steps.refl _).nextPress n)
  refine ⟨⟨hstands, fun hmode => activity_out hout (heq.trans (nextPress_other _ n (by rw [hfloor]; exact hmode))),
    fun hmode => ?_⟩, hreach⟩
  have hmode' : w.activity.floor.settings.mode = .request := by rw [hfloor]; exact hmode
  have hca := console_activity hc
  rw [nextPress_request _ n hmode'] at heq
  unfold nextAct at heq
  dsimp only
  rw [← grantable_eq]
  rw [hfloor] at heq
  refine ⟨fun hnone => ?_, fun m hsome hfull => ?_, fun m hsome hroom => ?_⟩
  · rw [hnone] at heq
    obtain ⟨htold, hlamp⟩ := nextPress_refused hca hmode' (.inl (by rw [hfloor]; exact hnone)) _ heq
    exact ⟨(htold.before hsame).mem hout, hlamp⟩
  · have hno : w.floor.hasRoom = false := by unfold Floor.hasRoom; simpa using hfull
    rw [hsome] at heq
    dsimp only at heq
    rw [if_neg (by simp [hno])] at heq
    obtain ⟨htold, hlamp⟩ := nextPress_refused hca hmode' (.inr (by rw [hfloor]; exact hno)) _ heq
    exact ⟨(htold.before hsame).mem hout, hlamp⟩
  · rw [hsome] at heq
    dsimp only at heq
    rw [if_pos (by unfold Floor.hasRoom; simpa using hroom)] at heq
    obtain ⟨hgate, place, htold⟩ := nextPress_granted m heq
    exact ⟨hgate, place, (htold.before hsame).mem hout⟩

/-! ## Seats closed one by one -/

/-- One turn of a pass that closes the seats that a condition holds for. -/
def sweepSeat (c : Room → Seat → Bool) (why : Reason) (u : Room) (m : Seat) : Room :=
  if c u m then u.closeSeat m why else u

/-- A condition on a seat's own role and gate: the closing of another seat leaves it. -/
def OwnCondition (c : Room → Seat → Bool) : Prop :=
  ∀ u t : Room, ∀ n, t.map = u.map → t.fseat n = u.fseat n → c t n = c u n

variable {c : Room → Seat → Bool} {why : Reason} {l : List Seat}

theorem sweepSeat_steps (c : Room → Seat → Bool) (why : Reason) (u : Room) (m : Seat) :
    Steps floorLeave u (sweepSeat c why u m) :=
  Steps.ite ((Steps.refl u).closeSeat m why trivial) (.refl u)

theorem sweep_steps (c : Room → Seat → Bool) (why : Reason) (l : List Seat) (u : Room) :
    Steps floorLeave u (l.foldl (sweepSeat c why) u) :=
  Steps.foldl l (.refl u) fun m _ _ hv => hv.trans (sweepSeat_steps c why _ m)

/-- What one turn leaves of a seat: closed at its own turn, else as it was. -/
theorem sweepSeat_fseat (c : Room → Seat → Bool) (why : Reason) (u : Room) (m n : Seat) :
    (sweepSeat c why u m).fseat n = u.fseat n ∨ m = n ∧ c u n = true ∧ ((sweepSeat c why u m).fseat n).gate = .closed := by
  unfold sweepSeat
  split
  · rename_i hm
    by_cases hclosed : (u.fseat m).gate = .closed
    · rw [closeSeat_idle u m why hclosed]
      exact .inl rfl
    · rw [closeSeat_fseat u m n why hclosed]
      split
      · rename_i hmn
        subst hmn
        exact .inr ⟨rfl, hm, rfl⟩
      · exact .inl rfl
  · exact .inl rfl

theorem sweepSeat_map (c : Room → Seat → Bool) (why : Reason) (u : Room) (m : Seat) : (sweepSeat c why u m).map = u.map := by
  unfold sweepSeat
  split <;> simp

/-- A seat joins no list as seats close, and another seat leaves none. -/
theorem sweepSeat_lists (c : Room → Seat → Bool) (why : Reason) (u : Room) (m n : Seat) :
    (n ∈ (sweepSeat c why u m).floor.waitList → n ∈ u.floor.waitList)
      ∧ (n ∈ (sweepSeat c why u m).floor.queue → n ∈ u.floor.queue)
      ∧ ((m = n → c u n = false) → n ∈ u.floor.queue → n ∈ (sweepSeat c why u m).floor.queue) := by
  unfold sweepSeat
  split
  · rename_i hm
    by_cases hclosed : (u.fseat m).gate = .closed
    · rw [closeSeat_idle u m why hclosed]
      exact ⟨id, id, fun _ => id⟩
    · obtain ⟨_, hwait, hqueue⟩ := closeSeat_lists u m why hclosed
      rw [hwait, hqueue]
      refine ⟨fun h => (List.mem_filter.1 h).1, fun h => (List.mem_filter.1 h).1, fun hmn hn => ?_⟩
      refine (mem_without (fun h => ?_) _).2 hn
      subst h
      rw [hmn rfl] at hm
      cases hm
  · exact ⟨id, id, fun _ => id⟩

/-- A closed seat stays closed, and a seat on no list stays off them. -/
theorem sweep_shut (l : List Seat) (u : Room) (n : Seat) :
    ((u.fseat n).gate = .closed → ((l.foldl (sweepSeat c why) u).fseat n).gate = .closed)
      ∧ (n ∉ u.floor.waitList → n ∉ (l.foldl (sweepSeat c why) u).floor.waitList)
      ∧ (n ∉ u.floor.queue → n ∉ (l.foldl (sweepSeat c why) u).floor.queue) := by
  induction l generalizing u with
  | nil => exact ⟨id, id, id⟩
  | cons m l ih =>
    obtain ⟨hgate, hwait, hqueue⟩ := ih (sweepSeat c why u m)
    obtain ⟨hw, hq, _⟩ := sweepSeat_lists c why u m n
    refine ⟨fun h => hgate ?_, fun h => hwait (mt hw h), fun h => hqueue (mt hq h)⟩
    rcases sweepSeat_fseat c why u m n with hs | ⟨_, _, hs⟩
    · rw [hs]
      exact h
    · exact hs

/-- No seat is granted as seats close. -/
theorem sweep_notGranted (l : List Seat) (u : Room) (h : (u.fseat n).gate ≠ .granted) :
    ((l.foldl (sweepSeat c why) u).fseat n).gate ≠ .granted := by
  induction l generalizing u with
  | nil => exact h
  | cons m l ih =>
    refine ih (sweepSeat c why u m) ?_
    rcases sweepSeat_fseat c why u m n with hs | ⟨_, _, hs⟩
    · rw [hs]
      exact h
    · rw [hs]
      decide

/-- A seat that the condition fails for stands as it was. -/
theorem sweep_kept (hown : OwnCondition c) (l : List Seat) (u : Room) (hn : c u n = false) :
    (l.foldl (sweepSeat c why) u).fseat n = u.fseat n
      ∧ (n ∈ u.floor.queue → n ∈ (l.foldl (sweepSeat c why) u).floor.queue) := by
  induction l generalizing u with
  | nil => exact ⟨rfl, id⟩
  | cons m l ih =>
    have hseat : (sweepSeat c why u m).fseat n = u.fseat n :=
      (sweepSeat_fseat c why u m n).resolve_right fun h => by
        rw [hn] at h
        cases h.2.1
    obtain ⟨hkept, hqueue⟩ := ih (sweepSeat c why u m) ((hown u _ n (sweepSeat_map c why u m) hseat).trans hn)
    exact ⟨hkept.trans hseat, fun h => hqueue ((sweepSeat_lists c why u m n).2.2 (fun _ => hn) h)⟩

/-- An open or waiting seat that the condition holds for is closed, and told so. -/
theorem sweep_told (hown : OwnCondition c) (l : List Seat) (u : Room) (hmem : n ∈ l) (hn : c u n = true)
    (hopen : (u.fseat n).gate ≠ .closed) : ((l.foldl (sweepSeat c why) u).fseat n).gate = .closed
      ∧ Off n (l.foldl (sweepSeat c why) u) ∧ Told u (l.foldl (sweepSeat c why) u) (closing n (u.fseat n).gate why) := by
  induction l generalizing u with
  | nil => cases hmem
  | cons m l ih =>
    rw [List.foldl_cons]
    by_cases hmn : m = n
    · subst hmn
      have hclose : sweepSeat c why u m = u.closeSeat m why := if_pos hn
      obtain ⟨hclosed, hwait, hqueue⟩ := closeSeat_off u m why hopen
      obtain ⟨hgate, hw, hq⟩ := sweep_shut (c := c) (why := why) l (u.closeSeat m why) m
      rw [hclose]
      refine ⟨hgate hclosed, ⟨hw hwait, hq hqueue⟩, u.out, List.prefix_rfl, ?_⟩
      rw [← closeSeat_out u m why hopen]
      exact (sweep_steps c why l _).grows
    · have hseat : (sweepSeat c why u m).fseat n = u.fseat n :=
        (sweepSeat_fseat c why u m n).resolve_right fun h => hmn h.1
      have hcn : c (sweepSeat c why u m) n = true := (hown u _ n (sweepSeat_map c why u m) hseat).trans hn
      obtain ⟨hgate, hoff, htold⟩ := ih (sweepSeat c why u m) ((List.mem_cons.1 hmem).resolve_left (Ne.symm hmn)) hcn
        (by rw [hseat]; exact hopen)
      rw [hseat] at htold
      exact ⟨hgate, hoff, htold.before (sweepSeat_steps c why u m).grows⟩

/-! ## CLEAR in AUTO mode (R107) -/

/-- A seat of role MEMBER. -/
def isMember (u : Room) (n : Seat) : Bool := !u.isChair n

/-- A GRANTED seat of role MEMBER. -/
def isGrantedMember (u : Room) (n : Seat) : Bool := !u.isChair n && decide ((u.fseat n).gate = .granted)

theorem isMember_own : OwnCondition isMember := by
  intro u t n hmap _
  unfold isMember Room.isChair Room.entry
  rw [hmap]

theorem isGrantedMember_own : OwnCondition isGrantedMember := by
  intro u t n hmap hseat
  unfold isGrantedMember Room.isChair Room.entry
  rw [hmap, hseat]

theorem always_own : OwnCondition fun _ _ => true := fun _ _ _ _ _ => rfl

theorem isMember_iff (w : Room) (n : Seat) : isMember w.activity n = true ↔ (w.map.running.get n).role = .member := by
  unfold isMember Room.isChair Room.entry
  rw [(activity_same w).2.1]
  cases (w.map.running.get n).role <;> simp

theorem clearMember_eq : Room.clearMember = sweepSeat isMember .cleared := by
  funext u m
  unfold Room.clearMember sweepSeat isMember
  cases u.isChair m <;> rfl

theorem clearGranted_eq : Room.clearGranted = sweepSeat isGrantedMember .cleared := rfl

theorem closeAll_eq (u : Room) (l : List Seat) (why : Reason) :
    u.closeAll l why = l.foldl (sweepSeat (fun _ _ => true) why) u := rfl

/-- Outside the Wait List a seat stands as it is as WAITING seats are admitted (R99). -/
theorem fillWaitOne_kept (u : Room) (h : n ∉ u.floor.waitList) :
    u.fillWaitOne.fseat n = u.fseat n ∧ n ∉ u.fillWaitOne.floor.waitList := by
  unfold Room.fillWaitOne
  split
  · exact ⟨rfl, h⟩
  · rename_i m ms hlist
    have hmn : m ≠ n := by
      rintro rfl
      exact h (by simp [hlist])
    split
    · rw [admitSeat_fseat, if_neg hmn, admitSeat_floor]
      exact ⟨rfl, fun hn => h (List.mem_filter.1 hn).1⟩
    · exact ⟨rfl, h⟩

theorem fillWait_kept (l : List Seat) (u : Room) (h : n ∉ u.floor.waitList) :
    (l.foldl (fun r _ => r.fillWaitOne) u).fseat n = u.fseat n := by
  induction l generalizing u with
  | nil => rfl
  | cons _ l ih =>
    obtain ⟨hseat, hlist⟩ := fillWaitOne_kept u h
    exact (ih u.fillWaitOne hlist).trans hseat

theorem fill_auto (u : Room) (hmode : u.floor.settings.mode = .auto) (h : n ∉ u.floor.waitList) :
    u.floorFill.floorFinish.fseat n = u.fseat n := by
  rw [floorFinish_fseat]
  unfold Room.floorFill
  rw [hmode]
  split
  · rfl
  · exact fillWait_kept _ u h

theorem clearFloor_auto (u : Room) (hstandby : u.floor.standby = false) (hmode : u.floor.settings.mode = .auto) :
    u.clearFloor = (allSeats.foldl (sweepSeat isMember .cleared) u).floorFill.floorFinish := by
  unfold Room.clearFloor Room.floorEvent
  rw [if_neg (by simp [hstandby]), hmode, clearMember_eq]

theorem clear_auto (hstandby : u.floor.standby = false) (hmode : u.floor.settings.mode = .auto)
    (hwait : ∀ n ∈ u.floor.waitList, (u.fseat n).gate = .waiting) (hn : isMember u n = true) (ht : t = u.clearFloor) :
    (t.fseat n).gate = .closed
      ∧ ((u.fseat n).gate ≠ .closed → Told u t (closing n (u.fseat n).gate .cleared)) := by
  rw [clearFloor_auto u hstandby hmode] at ht
  have hswept := sweep_steps isMember .cleared allSeats u
  have hmode' : (allSeats.foldl (sweepSeat isMember .cleared) u).floor.settings.mode = .auto := by
    rw [hswept.settings.floor]
    exact hmode
  by_cases hclosed : (u.fseat n).gate = .closed
  · obtain ⟨hgate, hlist, _⟩ := sweep_shut (c := isMember) (why := .cleared) allSeats u n
    refine ⟨?_, fun h => absurd hclosed h⟩
    rw [ht, fill_auto _ hmode' (hlist fun h => by rw [hwait n h] at hclosed; cases hclosed)]
    exact hgate hclosed
  · obtain ⟨hgate, ⟨hlist, _⟩, htold⟩ := sweep_told (why := .cleared) isMember_own allSeats u (mem_allSeats n) hn hclosed
    refine ⟨?_, fun _ => ?_⟩
    · rw [ht, fill_auto _ hmode' hlist]
      exact hgate
    · rw [ht]
      exact htold.grow (fill_steps _).grows

/-! ## CLEAR in REQUEST mode (R107) -/

theorem clearFloor_request (u : Room) (hstandby : u.floor.standby = false) (hmode : u.floor.settings.mode = .request) :
    u.clearFloor = (Room.clearRequests u).floorFill.floorFinish := by
  unfold Room.clearFloor Room.floorEvent
  rw [if_neg (by simp [hstandby]), hmode]

/-- An empty Request Queue fills nothing. -/
theorem fill_empty (u : Room) (hmode : u.floor.settings.mode = .request) (h : u.floor.queue = []) : u.floorFill = u :=
  fill_full u hmode (.inl (by unfold Floor.grantable; rw [h]; rfl))

/-- The floor as CLEAR has closed the GRANTED members. -/
def grantsCleared (u : Room) : Room := allSeats.foldl (sweepSeat isGrantedMember .cleared) u

theorem clearRequests_eq (u : Room) : u.clearRequests
    = (grantsCleared u).floor.queue.foldl (sweepSeat (fun _ _ => true) .cleared) (grantsCleared u) := by
  unfold Room.clearRequests
  rw [clearGranted_eq, ← grantsCleared, closeAll_eq]

theorem grantsCleared_steps (u : Room) : Steps floorLeave u (grantsCleared u) := by
  unfold grantsCleared
  exact sweep_steps _ _ allSeats u

theorem clearRequests_steps (u : Room) : Steps floorLeave (grantsCleared u) u.clearRequests := by
  rw [clearRequests_eq]
  exact sweep_steps _ _ _ _

/-- Every seat that stands in the queue is closed last of all. -/
theorem clearRequests_shut (u : Room) (n : Seat) :
    (((grantsCleared u).fseat n).gate = .closed → (u.clearRequests.fseat n).gate = .closed)
      ∧ (n ∉ (grantsCleared u).floor.queue → n ∉ u.clearRequests.floor.queue) := by
  rw [clearRequests_eq]
  obtain ⟨hgate, _, hqueue⟩ := sweep_shut (c := fun _ _ => true) (why := .cleared) (grantsCleared u).floor.queue
    (grantsCleared u) n
  exact ⟨hgate, hqueue⟩

/-- A QUEUED seat outlasts the closing of the GRANTED members, in the queue where it stands there. -/
theorem grantsCleared_queued (u : Room) (n : Seat) (h : (u.fseat n).gate = .queued) :
    (grantsCleared u).fseat n = u.fseat n ∧ (n ∈ u.floor.queue → n ∈ (grantsCleared u).floor.queue) := by
  have hc : isGrantedMember u n = false := by
    unfold isGrantedMember
    rw [h]
    simp
  unfold grantsCleared
  exact sweep_kept isGrantedMember_own allSeats u hc

theorem grantsCleared_queue (u : Room) (n : Seat) (h : n ∈ (grantsCleared u).floor.queue) : n ∈ u.floor.queue := by
  unfold grantsCleared at h
  exact not_imp_not.1 (sweep_shut (c := isGrantedMember) (why := .cleared) allSeats u n).2.2 h

/-- CLEAR in REQUEST mode leaves no QUEUED seat, with an event for each (R107). -/
theorem clearRequests_queue (u : Room) (hqueue : ∀ n ∈ u.floor.queue, (u.fseat n).gate = .queued) :
    u.clearRequests.floor.queue = []
      ∧ ∀ n ∈ u.floor.queue, Told u u.clearRequests (.dequeuedEv n .request .cleared) := by
  have hclear : ∀ n ∈ (grantsCleared u).floor.queue, n ∉ u.clearRequests.floor.queue
      ∧ Told u u.clearRequests (.dequeuedEv n .request .cleared) := by
    intro n hn
    have hgate := hqueue n (grantsCleared_queue u n hn)
    have hseat := (grantsCleared_queued u n hgate).1
    obtain ⟨_, ⟨_, hoff⟩, htold⟩ := sweep_told (why := .cleared) always_own (grantsCleared u).floor.queue (grantsCleared u) hn
      rfl (by rw [hseat, hgate]; decide)
    rw [hseat, hgate] at htold
    rw [← clearRequests_eq] at hoff htold
    exact ⟨hoff, htold.before (grantsCleared_steps u).grows⟩
  refine ⟨List.eq_nil_iff_forall_not_mem.2 fun n hn => ?_, fun n hn => ?_⟩
  · by_cases h : n ∈ (grantsCleared u).floor.queue
    · exact (hclear n h).1 hn
    · exact (clearRequests_shut u n).2 h hn
  · exact (hclear n ((grantsCleared_queued u n (hqueue n hn)).2 hn)).2

/-- CLEAR in REQUEST mode leaves no GRANTED member, with an event for each (R107). -/
theorem clearRequests_granted (u : Room) (hn : isMember u n = true) :
    (u.clearRequests.fseat n).gate ≠ .granted
      ∧ ((u.fseat n).gate = .granted → Told u u.clearRequests (.closedEv n .granted .cleared)) := by
  by_cases hg : (u.fseat n).gate = .granted
  · have hc : isGrantedMember u n = true := by
      unfold isMember at hn
      unfold isGrantedMember
      rw [hn, hg]
      rfl
    obtain ⟨hgate, _, htold⟩ := sweep_told (why := .cleared) isGrantedMember_own allSeats u (mem_allSeats n) hc
      (by rw [hg]; decide)
    rw [← grantsCleared, hg] at htold
    rw [← grantsCleared] at hgate
    refine ⟨fun h => ?_, fun _ => htold.grow (clearRequests_steps u).grows⟩
    rw [(clearRequests_shut u n).1 hgate] at h
    cases h
  · have hc : isGrantedMember u n = false := by
      unfold isGrantedMember
      simp [hg]
    have hkept : (grantsCleared u).fseat n = u.fseat n := by
      unfold grantsCleared
      exact (sweep_kept isGrantedMember_own allSeats u hc).1
    refine ⟨?_, fun h => absurd h hg⟩
    rw [clearRequests_eq]
    exact sweep_notGranted _ _ (by rw [hkept]; exact hg)

/-! ## CLEAR (R107) -/

/-- A cleared request floor ends the event as it stands: its queue is empty. -/
theorem clear_request (hstandby : u.floor.standby = false) (hmode : u.floor.settings.mode = .request)
    (hqueue : ∀ n ∈ u.floor.queue, (u.fseat n).gate = .queued) (ht : t = u.clearFloor) :
    t.floor.queue = [] ∧ (∀ n ∈ u.floor.queue, Told u t (.dequeuedEv n .request .cleared))
      ∧ ∀ n, isMember u n = true → (t.fseat n).gate ≠ .granted
        ∧ ((u.fseat n).gate = .granted → Told u t (.closedEv n .granted .cleared)) := by
  obtain ⟨hempty, htold⟩ := clearRequests_queue u hqueue
  have hset : u.clearRequests.floor.settings.mode = .request := by
    rw [((grantsCleared_steps u).trans (clearRequests_steps u)).settings.floor]
    exact hmode
  rw [clearFloor_request u hstandby hmode, fill_empty _ hset hempty] at ht
  have hgrow : u.clearRequests.out <+: t.out := by
    rw [ht]
    exact ((Steps.refl (P := floorLeave) u.clearRequests).then .finish).grows
  refine ⟨?_, fun n hn => (htold n hn).grow hgrow, fun n hn => ?_⟩
  · rw [ht, (floorFinish_floor _).2.2.2]
    exact hempty
  · obtain ⟨hgate, hgranted⟩ := clearRequests_granted u hn
    refine ⟨?_, fun hg => (hgranted hg).grow hgrow⟩
    rw [ht, floorFinish_fseat]
    exact hgate

theorem clearFloor_idle (u : Room) (h : u.floor.standby = true ∨ u.floor.settings.mode = .opened) : u.clearFloor = u := by
  unfold Room.clearFloor
  rcases h with h | h
  · rw [if_pos h]
  · rw [h]
    exact ite_self _

theorem clearPress_clears (hc : Console w p n) (hrole : (w.map.running.get n).role = .chair)
    (hout : (w.activity.deliver p n .clear).out = w.out ++ es) :
    Press.ClearsFloor ⟨w, p, n, es, w.activity.deliver p n .clear⟩
      ∧ MutesReachMix w (w.activity.deliver p n .clear) := by
  have heq := deliver_clear hc hrole
  have hfloor := (activity_same w).2.2.1
  have hseat : ∀ m, w.activity.fseat m = w.fseat m := fun m => congrArg (fun f : Floor => f.seats.get m) hfloor
  have hsame : w.out <+: w.activity.out := by rw [(activity_same w).2.2.2.2.2.1]
  obtain ⟨hstands, hreach⟩ := chairPress_still (w := w) (p := p) (n := n) (b := .clear)
    (by rw [heq]; exact (Steps.refl _).clearFloor fun _ => trivial)
  refine ⟨⟨hstands, fun hidle => activity_out hout (heq.trans (clearFloor_idle _ (by rw [hfloor]; exact hidle))),
    fun hstandby hmode hwait m hm => ?_, fun hstandby hmode hqueue => ?_⟩, hreach⟩
  · obtain ⟨hgate, htold⟩ := clear_auto (n := m) (by rw [hfloor]; exact hstandby) (by rw [hfloor]; exact hmode)
      (fun k hk => by rw [hseat]; exact hwait k (by rw [← hfloor]; exact hk)) ((isMember_iff w m).2 hm) heq
    rw [hseat] at htold
    refine ⟨hgate, fun hg => ?_, fun hg => ?_⟩
    · have hg : (w.fseat m).gate = .waiting := hg
      rw [hg] at htold
      exact ((htold (by decide)).before hsame).mem hout
    · have hg' := (isOpen_iff _).1 hg
      have hclosing : closing m (w.fseat m).gate .cleared = .closedEv m (w.fseat m).gate .cleared := by
        unfold closing
        rcases hg' with hg | hg | hg <;> rw [show (w.fseat m).gate = _ from hg]
      rw [hclosing] at htold
      refine ((htold fun h => ?_).before hsame).mem hout
      rw [show (w.floor.seats.get m).gate = .closed from h] at hg
      cases hg
  · obtain ⟨hempty, htold, hmembers⟩ := clear_request (by rw [hfloor]; exact hstandby) (by rw [hfloor]; exact hmode)
      (fun k hk => by rw [hseat]; exact hqueue k (by rw [← hfloor]; exact hk)) heq
    refine ⟨hempty, fun k hk => ((htold k (by rw [hfloor]; exact hk)).before hsame).mem hout, fun m hm => ?_⟩
    obtain ⟨hgate, hgranted⟩ := hmembers m ((isMember_iff w m).2 hm)
    rw [hseat] at hgranted
    exact ⟨hgate, fun hg => ((hgranted hg).before hsame).mem hout⟩

/-! ## Chairs' buttons that no chair presses (R32, R33) -/

/-- A chair's button, and what it does at a chair console of a seat with role CHAIR. -/
theorem deliver_chairs (w : Room) (p : PodPos) (n : Seat) (hb : b = .room ∨ b = .next ∨ b = .clear) :
    ∃ act, w.deliver p n b = w.chairPress p n b act := by
  rcases hb with rfl | rfl | rfl
  · exact ⟨fun r => r.roomPress n, rfl⟩
  · exact ⟨fun r => r.nextPress n, rfl⟩
  · exact ⟨Room.clearFloor, rfl⟩

theorem activity_podAt (w : Room) (p : PodPos) : w.activity.podAt p = w.podAt p :=
  podAt_of_lines (activity_same w).2.2.2.2.1 p

/-- A chair's button at a member console does nothing more than a press (R32). -/
theorem press_member (hb : b = .room ∨ b = .next ∨ b = .clear) (hkind : (w.podAt p).kind ≠ .chair) :
    w.activity.deliver p n b = w.activity := by
  obtain ⟨act, hact⟩ := deliver_chairs w.activity p n hb
  rw [hact]
  exact chairPress_member _ p n b act (by rw [activity_podAt]; exact hkind)

/-- A chair's button at a chair console of a seat with another role (R33). -/
theorem press_mismatch (hb : b = .room ∨ b = .next ∨ b = .clear) (hkind : (w.podAt p).kind = .chair)
    (hrole : (w.map.running.get n).role ≠ .chair) :
    w.activity.deliver p n b = w.activity.emit (.roleMismatch n b p) := by
  obtain ⟨act, hact⟩ := deliver_chairs w.activity p n hb
  rw [hact]
  exact chairPress_mismatch _ p n b act (by rw [activity_podAt]; exact hkind) (by rw [(activity_same w).2.1]; exact hrole)

end Sys2Proof.Machine.PodLines
end

section
/-! What a press does (R32 to R34), where the position serves a seat. -/

namespace Sys2Proof.Machine.PodLines

variable {P : Leave} {r t u v w x y z : Room} {n m : Seat} {p : PodPos} {es : List Event} {b : Button}

/-! ## A press in standby (R34, R155) -/

/-- A leave to wake. -/
def dawnLeave : Leave := { wakeLeave with rest := True, move := fun id => id = .standby }

theorem wakePress_wake (h : w.link.call = .standby) : w.wakePress n = w.wake .idle .press (numberOf n) := if_pos h

theorem wakePress_activity (h : w.link.call ≠ .standby) : w.wakePress n = w.activity := if_neg h

/-- A press in standby moves no mute and no component of one. -/
theorem wakePress_reaches (w : Room) (n : Seat) : MutesReachMix w (w.wakePress n) := by
  have hsteps : Steps dawnLeave w (w.wakePress n) :=
    (Steps.refl w).wakePress n (fun _ => trivial) (.inr ⟨trivial, rfl⟩)
  refine mutesReachMix_of_still (hsteps.mutes_kept id) fun id hid => hsteps.comp_kept id (parked_of_isMute hid) ?_
  rintro rfl
  exact hid

theorem wakePress_wakes (hout : (w.wakePress n).out = w.out ++ es) : Press.Wakes ⟨w, p, n, es, w.wakePress n⟩ := by
  refine ⟨fun hcall => ?_, fun hcall => ?_⟩
  · have hcall : w.link.call = .standby := hcall
    have hwoken := wake_woken w .idle .press (numberOf n)
    have htold := wake_told w .idle .press (numberOf n)
    rw [hcall] at htold
    dsimp only
    rw [wakePress_wake hcall] at hout ⊢
    have hnew : Told w (w.wake .idle .press (numberOf n)) (.callStateEv (numberOf n) .idle .standby .press) :=
      ⟨w.out, List.prefix_rfl, htold⟩
    exact ⟨hnew.mem hout, hwoken.timer rfl, hwoken.mix, hwoken.stands⟩
  · have heq := wakePress_activity (n := n) hcall
    refine ⟨activity_out hout heq, ?_⟩
    dsimp only
    rw [heq, activity_standing]

/-! ## A press outside standby is floor activity (R94, R153) -/

/-- A leave to deliver a press. -/
def pressLeave : Leave := { frameLeave with rest := False }

theorem deliver_timer (hcall : w.link.call = .idle) :
    (w.activity.deliver p n b).link.timer = delayTimer w.link.delay := by
  have hsteps : Steps pressLeave w.activity (w.activity.deliver p n b) :=
    (Steps.refl _).deliver p n b ⟨trivial, fun _ _ => trivial, fun _ => trivial⟩ ⟨trivial, fun _ _ _ _ _ => trivial⟩ trivial
  have hactive : Timed w.activity := fun _ => by
    unfold Room.activity
    rw [if_pos hcall]
  have hnow : (w.activity.deliver p n b).link.call = .idle := by
    rw [(hsteps.rest_kept id).call, (activity_same w).2.2.2.2.2.2.1]
    exact hcall
  rw [hsteps.timed id hactive hnow, hsteps.settings.delay, (activity_same w).2.2.2.2.2.2.2]

/-- What a delivered press leaves of the mutes and their components (R72). -/
theorem deliver_reaches (hconsole : (w.podAt p).kind = .chair → Console w p n)
    (hout : (w.activity.deliver p n b).out = w.out ++ es) : MutesReachMix w (w.activity.deliver p n b) := by
  have hquiet : ∀ t : Room, Steps floorLeave w.activity t → MutesReachMix w t := fun t ht => (still_activity ht).reaches
  by_cases hb : b = .room ∨ b = .next ∨ b = .clear
  · by_cases hkind : (w.podAt p).kind = .chair
    · by_cases hrole : (w.map.running.get n).role = .chair
      · rcases hb with rfl | rfl | rfl
        · exact (roomPress_toggles (hconsole hkind) hrole hout).2
        · exact (nextPress_grants (hconsole hkind) hrole hout).2
        · exact (clearPress_clears (hconsole hkind) hrole hout).2
      · rw [press_mismatch hb hkind hrole]
        exact hquiet _ ((Steps.refl _).emit _)
    · rw [press_member hb hkind]
      exact hquiet _ (.refl _)
  · cases b with
    | mic => exact (micPress_toggles w p n hout).2
    | talk =>
      by_cases hmode : w.floor.settings.mode = .request
      · exact (talkPress_request_asks w p n hmode hout).2
      · exact (talkPress_releases w p n hmode hout).2
    | room => exact absurd (.inl rfl) hb
    | next => exact absurd (.inr (.inl rfl)) hb
    | clear => exact absurd (.inr (.inr rfl)) hb

theorem mismatch_told (hb : b = .room ∨ b = .next ∨ b = .clear) (hkind : (w.podAt p).kind = .chair)
    (hrole : (w.map.running.get n).role ≠ .chair) (hout : (w.activity.deliver p n b).out = w.out ++ es) :
    es = [.roleMismatch n b p] ∧ (w.activity.deliver p n b).standing = w.standing
      ∧ (w.activity.deliver p n b).lines = w.lines := by
  have heq := press_mismatch hb hkind hrole
  rw [heq] at hout ⊢
  have hsame : (w.activity.emit (.roleMismatch n b p)).out = w.out ++ [.roleMismatch n b p] := by
    rw [← (activity_same w).2.2.2.2.2.1]
    rfl
  exact ⟨(List.append_cancel_left (hsame.symm.trans hout)).symm, activity_standing w, (activity_same w).2.2.2.2.1⟩

/-- The room as a press in a good slot leaves it, before it settles. -/
def pressed (w : Room) (p : PodPos) (n : Seat) (b : Button) : Room :=
  if (w.line p.line).dark then w.wakePress n else w.activity.deliver p n b

theorem press_eq (hseat : seatAt w.map.running p = some n) : w.press p b = (pressed w p n b).settle := by
  unfold Room.press
  rw [hseat]
  rfl

/-- What a press does (R32, R33, R34). -/
theorem pressed_taken (hseat : seatAt w.map.running p = some n) (hpresent : (w.podAt p).present = true)
    (hout : (pressed w p n b).out = w.out ++ es) : Press.Taken ⟨w, p, n, es, pressed w p n b⟩ b := by
  cases hdark : (w.line p.line).dark with
  | true =>
    have heq : pressed w p n b = w.wakePress n := by
      unfold pressed
      rw [hdark]
      rfl
    rw [heq] at hout ⊢
    exact ⟨wakePress_reaches w n, fun _ => wakePress_wakes hout, fun h => absurd (hdark.symm.trans h) (by decide)⟩
  | false =>
    have heq : pressed w p n b = w.activity.deliver p n b := by
      unfold pressed
      rw [hdark]
      rfl
    rw [heq] at hout ⊢
    have hconsole : (w.podAt p).kind = .chair → Console w p n := fun hkind => ⟨hpresent, hkind, hdark, hseat⟩
    refine ⟨deliver_reaches hconsole hout, fun h => absurd (hdark.symm.trans h) (by decide),
      fun _ => ⟨fun hcall => deliver_timer hcall, ?_, ?_, ?_, fun hkind hrole => ⟨?_, ?_, ?_⟩, fun hb hkind hrole => ?_,
        fun hb hkind => ?_⟩⟩
    · rintro rfl
      exact (micPress_toggles w p n hout).1
    · rintro rfl hmode
      exact (talkPress_releases w p n hmode hout).1
    · rintro rfl hmode
      exact (talkPress_request_asks w p n hmode hout).1
    · rintro rfl
      exact (roomPress_toggles (hconsole hkind) hrole hout).1
    · rintro rfl
      exact (nextPress_grants (hconsole hkind) hrole hout).1
    · rintro rfl
      exact (clearPress_clears (hconsole hkind) hrole hout).1
    · exact mismatch_told hb hkind hrole hout
    · have hsame := press_member (n := n) hb hkind
      refine ⟨activity_out hout hsame, ?_⟩
      dsimp only
      rw [hsame, activity_standing]

/-! ## Rooms that are alike -/

/-- What a press's effects are said of. -/
structure Alike (u t : Room) : Prop where
  lines : t.lines = u.lines
  mute : t.mute = u.mute
  floor : t.floor = u.floor
  mix : t.mix = u.mix
  link : t.link = u.link
  running : t.map.running = u.map.running
  groups : t.map.groups = u.map.groups
  standing : t.standing = u.standing

theorem Alike.trans (h : Alike u t) (g : Alike t v) : Alike u v :=
  ⟨g.1.trans h.1, g.2.trans h.2, g.3.trans h.3, g.4.trans h.4, g.5.trans h.5, g.6.trans h.6, g.7.trans h.7, g.8.trans h.8⟩

theorem alike_sent (u : Room) : Alike u u.sent := ⟨rfl, rfl, rfl, rfl, rfl, rfl, rfl, rfl⟩

theorem alike_settle (h : u.map.switch = none) : Alike u u.settle := by
  obtain ⟨k1, k2, k3, k4, k5, _, _, _, k9, _, k11, _⟩ := Room.settle_calm_keeps u h
  exact ⟨k1, k2, k3, k4, k5, k9, k11, settle_standing u h⟩

theorem Alike.mseat (h : Alike u t) (n : Seat) : t.mseat n = u.mseat n := congrArg (fun m : Mute => m.seats.get n) h.mute

theorem Alike.eff (h : Alike u t) (n : Seat) : t.eff n = u.eff n := congrArg (fun m : Mute => m.eff.get n) h.mute

theorem Alike.fseat (h : Alike u t) (n : Seat) : t.fseat n = u.fseat n := congrArg (fun f : Floor => f.seats.get n) h.floor

theorem Alike.podAt (h : Alike u t) (p : PodPos) : t.podAt p = u.podAt p := podAt_of_lines h.lines p

theorem Alike.line (h : Alike u t) (l : LineNo) : t.line l = u.line l := congrArg (fun x => Tab.get x l) h.lines

theorem Alike.same (h : Alike u t) : u.SameClaims t := by
  refine ⟨h.running, h.groups, ?_, ?_⟩ <;> rw [h.mute]

theorem Alike.derived (h : Alike u t) : t.Derived ↔ u.Derived := by
  have hsame : t.SameClaims u := ⟨h.running.symm, h.groups.symm, by rw [h.mute], by rw [h.mute]⟩
  exact ⟨fun hd => hd.of_same hsame (by rw [h.mute]) (by rw [h.mute]),
    fun hd => hd.of_same h.same (by rw [h.mute]) (by rw [h.mute])⟩

theorem Alike.selfCleared (h : Alike u t) (n : Seat) : (u.selfCleared n).SameClaims (t.selfCleared n) := by
  have hmute : (t.selfCleared n).mute = (u.selfCleared n).mute :=
    congrArg (fun m : Mute => { m with seats := m.seats.modify n fun y => { y with self := false } }) h.mute
  refine ⟨h.running, h.groups, ?_, ?_⟩ <;> rw [hmute]

theorem Alike.flags (h : Alike u t) (n : Seat) :
    (t.selfCleared n).standing.flags = (u.selfCleared n).standing.flags := (h.selfCleared n).flags

theorem Alike.effOf (h : Alike u t) (n m : Seat) : (t.selfCleared n).effOf m = (u.selfCleared n).effOf m :=
  (h.selfCleared n).effOf m

theorem Alike.asks (h : Alike u t) (n : Seat) : t.asksDirectly n ↔ u.asksDirectly n := by
  unfold Room.asksDirectly Room.chairFree Room.isChair Room.entry
  simp only [h.running, h.floor, h.fseat]

theorem Alike.lamp (h : Alike u t) (p : PodPos) : t.LampBlinks p ↔ u.LampBlinks p := by
  unfold Room.LampBlinks
  rw [h.podAt]

theorem alike_mutes (hw : Alike w y) (ht : Alike t z) : MutesReachMix y z ↔ MutesReachMix w t := by
  simp only [mutesReachMix_iff, seatComps, seatTold, linkComps, linkTold, Room.muteRamp, hw.mix, ht.mix, hw.eff, ht.eff,
    hw.mute, ht.mute]

theorem alike_standby (hw : Alike w y) (ht : Alike t z) (up : Bool) :
    StandbyReachesMix y z up ↔ StandbyReachesMix w t up := by
  unfold StandbyReachesMix
  rw [hw.mix, ht.mix]

/-- The effects of a press are said of rooms up to what they are alike in. -/
theorem taken_congr (hw : Alike w y) (ht : Alike t z) :
    Press.Taken ⟨y, p, n, es, z⟩ b ↔ Press.Taken ⟨w, p, n, es, t⟩ b := by
  unfold Press.Taken Press.Wakes Press.TogglesSelf Press.Releases Press.Asks Press.TogglesRoomClaim Press.GrantsNext
    Press.ClearsFloor
  simp only [alike_mutes hw ht, alike_standby hw ht, hw.standing, ht.standing, hw.mseat, ht.eff, hw.fseat, ht.fseat,
    hw.podAt, ht.podAt, hw.line, ht.derived, hw.flags, hw.effOf, hw.asks, ht.lamp, hw.mute, hw.floor, ht.floor, hw.link,
    ht.link, hw.running, ht.lines, hw.lines]

end Sys2Proof.Machine.PodLines
end

section
/-! The frame with one press in a good slot, beside the frame without it (R32 to R34). -/

namespace Sys2Proof.Machine.PodLines

variable {r t u v w : Room} {n : Seat} {l : LineNo} {p q : Pos} {f : UpFrame} {ks : List Pos} {b : Button}
  {st : StatusRecord}

/-! ## A frame with another status record in one slot -/

/-- A frame with another status record in the slot of a position. -/
def withStatus (f : UpFrame) (p : Pos) (st : StatusRecord) : UpFrame :=
  { f with slots := f.slots.set p { f.slots.get p with status := st } }

theorem withStatus_slot (f : UpFrame) (p q : Pos) (st : StatusRecord) :
    (withStatus f p st).slots.get q = if p = q then { f.slots.get q with status := st } else f.slots.get q := by
  unfold withStatus
  rw [Tab.get_set]
  split
  · rename_i h
    rw [h]
  · rfl

theorem withStatus_status (f : UpFrame) (p q : Pos) (st : StatusRecord) :
    ((withStatus f p st).slots.get q).status = if p = q then st else (f.slots.get q).status := by
  rw [withStatus_slot]
  split <;> rfl

/-- The checks of a frame read of a status record its kind alone (R24). -/
theorem withStatus_good (hkind : st.kind = (f.slots.get p).status.kind) (x : Line) (q : Pos) :
    x.goodSlot (withStatus f p st) q = x.goodSlot f q := by
  unfold Line.goodSlot
  dsimp only
  rw [withStatus_slot]
  split
  · rename_i h
    subst h
    dsimp only
    rw [hkind]
  · rfl

theorem withStatus_goodSlots (hkind : st.kind = (f.slots.get p).status.kind) (x : Line) :
    x.goodSlots (withStatus f p st) = x.goodSlots f := by
  unfold Line.goodSlots
  simp only [withStatus_good hkind]

theorem withStatus_checkFrame (hkind : st.kind = (f.slots.get p).status.kind) (r : Room) (l : LineNo) :
    r.checkFrame l (withStatus f p st) = r.checkFrame l f := by
  have hterm : (withStatus f p st).term = f.term := rfl
  unfold Room.checkFrame
  simp only [withStatus_goodSlots hkind, hterm]

theorem withStatus_keptSlots (hkind : st.kind = (f.slots.get p).status.kind) (r : Room) (l : LineNo) :
    r.keptSlots l (withStatus f p st) = r.keptSlots l f := by
  unfold Room.keptSlots
  rw [withStatus_goodSlots hkind, withStatus_checkFrame hkind]

theorem withStatus_hearAudio (f : UpFrame) (p : Pos) (st : StatusRecord) (x : Line) (ks : List Pos) :
    x.hearAudio (withStatus f p st) ks = x.hearAudio f ks := by
  have hsamples : ∀ q, ((withStatus f p st).slots.get q).samples = (f.slots.get q).samples := fun q => by
    rw [withStatus_slot]
    split <;> rfl
  unfold Line.hearAudio
  simp only [hsamples]

theorem withStatus_hearFrame (hkind : st.kind = (f.slots.get p).status.kind) (r : Room) (l : LineNo) :
    r.hearFrame l (withStatus f p st) = r.hearFrame l f := by
  have hprogram : (withStatus f p st).program = f.program := rfl
  unfold Room.hearFrame
  rw [withStatus_checkFrame hkind, withStatus_keptSlots hkind, hprogram]
  simp only [withStatus_hearAudio]

/-! ## Status records that say nothing new -/

theorem hearStatus_idle (u : Room) (p : PodPos) (st : StatusRecord) (hpress : pressesOf st = [])
    (hsame : (u.podAt p).privacy = st.privacy) : u.hearStatus p st = u := by
  unfold Room.hearStatus Room.hearPrivacy
  rw [hpress, if_pos hsame, List.foldl_nil, ite_self]

/-- A press in a status record goes after its privacy switch (R31, R32; log 55). -/
theorem hearStatus_pressed (u : Room) (p : PodPos) {st st' : StatusRecord} (hpresent : (u.podAt p).present = true)
    (hprivacy : st'.privacy = st.privacy) (hnone : pressesOf st = []) (hpress : pressesOf st' = [b]) :
    u.hearStatus p st' = (u.hearStatus p st).press p b := by
  unfold Room.hearStatus
  rw [hpresent, hnone, hpress, hprivacy]
  rfl

/-- A status record that neither presses a button nor reports a switch as changed. -/
def Idle (u : Room) (l : LineNo) (f : UpFrame) (q : Pos) : Prop :=
  pressesOf (f.slots.get q).status = [] ∧ (u.podAt ⟨l, q⟩).privacy = (f.slots.get q).status.privacy

theorem statuses_idle (u : Room) (hidle : ∀ q ∈ ks, Idle u l f q) :
    ks.foldl (fun r q => r.hearStatus ⟨l, q⟩ (f.slots.get q).status) u = u := by
  induction ks with
  | nil => rfl
  | cons q ks ih =>
    obtain ⟨hpress, hsame⟩ := hidle q (List.mem_cons_self ..)
    rw [List.foldl_cons, hearStatus_idle u ⟨l, q⟩ _ hpress hsame]
    exact ih fun q hq => hidle q (List.mem_cons_of_mem _ hq)

/-- Where every other status record is idle, one status record is all that a frame brings. -/
theorem statuses_one (u : Room) (hnodup : ks.Nodup) (hp : p ∈ ks) (hidle : ∀ q ∈ ks, q ≠ p → Idle u l f q) :
    ks.foldl (fun r q => r.hearStatus ⟨l, q⟩ (f.slots.get q).status) u
      = u.hearStatus ⟨l, p⟩ (f.slots.get p).status := by
  obtain ⟨as, bs, rfl, has, hbs, _⟩ := split_at hnodup hp
  rw [List.foldl_append, List.foldl_cons, statuses_idle u fun q hq => ?_]
  · refine statuses_idle _ fun q hq => ?_
    have hqp : q ≠ p := fun h => hbs (h ▸ hq)
    obtain ⟨hpress, hsame⟩ := hidle q (by simp [hq]) hqp
    have hpod := hearStatus_pods u ⟨l, p⟩ (f.slots.get p).status ⟨l, q⟩
    rw [if_neg (by simp [Ne.symm hqp])] at hpod
    exact ⟨hpress, (congrArg PodFacts.privacy hpod).trans hsame⟩
  · exact hidle q (by simp [hq]) fun h => has (h ▸ hq)

/-! ## The frame with the press -/

/-- The frame without an answer as it stands before it settles. -/
def frameHeard (r : Room) (l : LineNo) (f : UpFrame) : Room :=
  lateFrame (r.hearFrame l f) l f ((r.hearFrame l f).foundSince (r.hearFrame l f)) (r.keptSlots l f)

theorem frameDone_eq (r : Room) (l : LineNo) (f : UpFrame) : frameDone r l f = (frameHeard r l f).settle := rfl

/-- The seats of the line brought up to date: their records stand as the checks left them. -/
theorem taken_pod (v : Room) (l : LineNo) (found : PodPos → Bool) (p : PodPos) :
    (((v.seatsOn l).foldl (fun r n => r.audioOf found n) v).podAt p).facts = (v.podAt p).facts :=
  pod_facts (foldl_keeps (π := fun w : Room => w.lines.map Line.facts) _
    (fun w n => audioOf_lineFacts w found n) (v.seatsOn l) v) p

theorem hearFrame_privacy (r : Room) (l : LineNo) (f : UpFrame) (hq : q ∈ r.keptSlots l f) :
    ((r.hearFrame l f).podAt ⟨l, q⟩).privacy = ((r.line l).pods.get q).privacy
      ∧ ((r.hearFrame l f).podAt ⟨l, q⟩).present = true := by
  have hpod := (hearFrame_lines r l f).2.1 q
  have hkept := ((mem_keptSlots r l f q).1 hq).2
  have hwas : ((r.line l).pods.get q).present = true := keptSlots_present r l f hq
  unfold framedPod at hpod
  dsimp only at hpod
  rw [if_pos hwas, if_pos hkept] at hpod
  exact ⟨congrArg PodFacts.privacy hpod, congrArg PodFacts.present hpod⟩

/-- A frame with a press does what the frame without it does, and then what the press does (R32). -/
theorem late_pressed (v : Room) (l : LineNo) (f : UpFrame) (found : PodPos → Bool) (hnodup : ks.Nodup)
    (hprivacy : st.privacy = (f.slots.get p).status.privacy) (hpress : pressesOf st = [b])
    (hcalm : ∀ q, pressesOf (f.slots.get q).status = [])
    (hpresent : ∀ q ∈ ks, (v.podAt ⟨l, q⟩).present = true)
    (hothers : ∀ q ∈ ks, q ≠ p → (v.podAt ⟨l, q⟩).privacy = (f.slots.get q).status.privacy) :
    lateFrame v l (withStatus f p st) found ks
      = if p ∈ ks then (lateFrame v l f found ks).press ⟨l, p⟩ b else lateFrame v l f found ks := by
  have hpod := fun q => taken_pod v l found ⟨l, q⟩
  unfold lateFrame
  generalize (v.seatsOn l).foldl (fun r n => r.audioOf found n) v = u at *
  have hold : ∀ q ∈ ks, q ≠ p → Idle u l f q := fun q hq hqp =>
    ⟨hcalm q, (congrArg PodFacts.privacy (hpod q)).trans (hothers q hq hqp)⟩
  have hnew : ∀ q ∈ ks, q ≠ p → Idle u l (withStatus f p st) q := by
    intro q hq hqp
    unfold Idle
    rw [withStatus_status, if_neg (Ne.symm hqp)]
    exact hold q hq hqp
  split
  · rename_i hp
    rw [statuses_one u hnodup hp hold, statuses_one u hnodup hp hnew, withStatus_status, if_pos rfl]
    exact hearStatus_pressed u ⟨l, p⟩ ((congrArg PodFacts.present (hpod p)).trans (hpresent p hp)) hprivacy (hcalm p) hpress
  · rename_i hp
    rw [statuses_idle u fun q hq => hold q hq fun h => hp (h ▸ hq),
      statuses_idle u fun q hq => hnew q hq fun h => hp (h ▸ hq)]

theorem frameHeard_pressed (r : Room) (l : LineNo) (f : UpFrame) (hkind : st.kind = (f.slots.get p).status.kind)
    (hprivacy : st.privacy = (f.slots.get p).status.privacy) (hpress : pressesOf st = [b])
    (hcalm : ∀ q, pressesOf (f.slots.get q).status = [])
    (hothers : ∀ q, q ≠ p → (f.slots.get q).status.privacy = ((r.line l).pods.get q).privacy) :
    frameHeard r l (withStatus f p st)
      = if p ∈ r.keptSlots l f then (frameHeard r l f).press ⟨l, p⟩ b else frameHeard r l f := by
  unfold frameHeard
  rw [withStatus_hearFrame hkind, withStatus_keptSlots hkind]
  exact late_pressed _ l f _ (keptSlots_nodup r l f) hprivacy hpress hcalm (fun q hq => (hearFrame_privacy r l f hq).2)
    fun q hq hqp => (hearFrame_privacy r l f hq).1.trans (hothers q hqp).symm

/-- What is said of a frame with a press: the events it adds, and what the press does where a seat is served. -/
def PressFollows (r z z' : Room) (p : PodPos) (b : Button) : Prop :=
  ∃ es, z'.out = z.out ++ es
    ∧ ((z.podAt p).present = false ∨ seatAt r.map.running p = none → es = [] ∧ z'.sent = z.sent)
    ∧ ∀ n, (z.podAt p).present = true → seatAt r.map.running p = some n → Press.Taken ⟨z.sent, p, n, es, z'.sent⟩ b

theorem pressFollows_same {z : Room} {p : PodPos} (h : (z.podAt p).present = true → seatAt r.map.running p = none) :
    PressFollows r z z p b :=
  ⟨[], (List.append_nil _).symm, fun _ => ⟨rfl, rfl⟩, fun n hp hn => by rw [h hp] at hn; cases hn⟩

/-- A press taken in a room, both before and after it settled and its events sent. -/
theorem pressFollows_press {p : PodPos} (hcalm : w.map.switch = none) (hrun : w.map.running = r.map.running)
    (hpresent : (w.podAt p).present = true) : PressFollows r w.settle (w.press p b).settle p b := by
  have hwalike := alike_settle hcalm
  have hpod : (w.settle.podAt p).present = true := by rw [hwalike.podAt]; exact hpresent
  cases hseat : seatAt w.map.running p with
  | none =>
    have heq : w.press p b = w := by
      unfold Room.press
      rw [hseat]
    rw [heq]
    exact pressFollows_same fun _ => by rw [← hrun]; exact hseat
  | some n =>
    have hsteps : Steps frameLeave w (pressed w p n b) :=
      Steps.ite ((Steps.refl w).wakePress n (fun _ => trivial) (.inr ⟨trivial, trivial⟩))
        (((Steps.refl w).then .activity).deliver p n b frameLeave_wide ⟨trivial, fun _ _ _ _ _ => trivial⟩ trivial)
    obtain ⟨es, hes⟩ := hsteps.grows
    have htaken := pressed_taken hseat hpresent hes.symm
    have hcalm1 : (pressed w p n b).map.switch = none := (hsteps.map_kept id).switch.trans hcalm
    rw [press_eq hseat]
    generalize pressed w p n b = t at *
    have hcalm2 : t.settle.map.switch = none := (Room.settle_calm_keeps t hcalm1).2.2.2.2.2.2.2.2.2.2.2.1.trans hcalm1
    have hout : t.settle.settle.out = w.settle.out ++ es := by
      rw [(Room.settle_calm_keeps _ hcalm2).2.2.2.2.2.2.2.1, (Room.settle_calm_keeps t hcalm1).2.2.2.2.2.2.2.1,
        (Room.settle_calm_keeps w hcalm).2.2.2.2.2.2.2.1, hes]
    refine ⟨es, hout, fun h => ?_, fun m _ hm => ?_⟩
    · rw [hpod, ← hrun, hseat] at h
      simp at h
    · rw [← hrun, hseat] at hm
      cases hm
      exact (taken_congr (hwalike.trans (alike_sent _))
        (((alike_settle hcalm1).trans (alike_settle hcalm2)).trans (alike_sent _))).2 htaken

/-- The frame with one press in a good slot, beside the frame without it (R32 to R34). -/
theorem frame_pressed (r : Room) (l : LineNo) (f : UpFrame) (hswitch : r.map.switch = none)
    (hkind : st.kind = (f.slots.get p).status.kind) (hprivacy : st.privacy = (f.slots.get p).status.privacy)
    (hpress : pressesOf st = [b]) (hcalm : ∀ q, pressesOf (f.slots.get q).status = [])
    (hothers : ∀ q, q ≠ p → (f.slots.get q).status.privacy = ((r.line l).pods.get q).privacy)
    (hgood : (r.line l).goodSlot f p = true) :
    PressFollows r (frameDone r l f) (frameDone r l (withStatus f p st)) ⟨l, p⟩ b := by
  have hpod := (frameDone_pod r l f p).1
  have hkept := (mem_keptSlots r l f p).trans (and_iff_right hgood)
  have hheld : Held r (frameHeard r l f) := by
    have hsteps : Held (r.hearFrame l f) (frameHeard r l f) :=
      late_held (r.hearFrame l f) l f _ _ ((hearFrame_held r l f hswitch).map.switch.trans hswitch)
    exact (hearFrame_held r l f hswitch).trans hsteps
  have hcalm' : (frameHeard r l f).map.switch = none := hheld.map.switch.trans hswitch
  rw [frameDone_eq, frameDone_eq, frameHeard_pressed r l f hkind hprivacy hpress hcalm hothers]
  rw [frameDone_eq] at hpod
  generalize frameHeard r l f = w at *
  split
  · rename_i hp
    refine pressFollows_press hcalm' hheld.map.running ?_
    rw [← (alike_settle hcalm').podAt, hpod]
    exact hkept.1 hp
  · rename_i hp
    refine pressFollows_same fun h => ?_
    rw [hpod] at h
    exact absurd (hkept.2 h) hp

end Sys2Proof.Machine.PodLines
end

section
/-! UPSTREAM_FRAME with no answer (R22 to R26, R31 to R34): the statement. -/

namespace Sys2Proof.Machine.PodLines

/-- A status record with one press. -/
def pressedStatus (b : Button) (st : StatusRecord) : StatusRecord :=
  match b with
  | .mic => { st with mic := true }
  | .talk => { st with talk := true }
  | .room => { st with room := true }
  | .next => { st with next := true }
  | .clear => { st with clear := true }

theorem pressedStatus_kind (b : Button) (st : StatusRecord) : (pressedStatus b st).kind = st.kind := by cases b <;> rfl

theorem pressedStatus_privacy (b : Button) (st : StatusRecord) : (pressedStatus b st).privacy = st.privacy := by
  cases b <;> rfl

theorem pressedStatus_presses (b : Button) {st : StatusRecord} (h : st.mic = false ∧ st.talk = false ∧ st.room = false
    ∧ st.next = false ∧ st.clear = false) : pressesOf (pressedStatus b st) = [b] := by
  obtain ⟨h1, h2, h3, h4, h5⟩ := h
  cases b <;> simp [pressesOf, pressedStatus, h1, h2, h3, h4, h5]

/-- Settles O29: the frame without a press by the lemmas about `frameDone`, each on one part of the room; the frame with
one by `frame_pressed`, the press taken in the room that the frame without it leaves. -/
theorem upstreamFrameChecksSlots : Obligations.UpstreamFrameChecksSlots := by
  unfold Obligations.UpstreamFrameChecksSlots
  dsimp only
  refine ⟨fun s l f ⟨hheld, hsettled⟩ hans => ?_, ?_⟩
  · have hact := State.act_awake s hheld fun r => r.upstream l f
    rw [upstream_none s.room l f hans] at hact
    have hpod := frameDone_pod s.room l f
    have haudio := frameDone_audio s.room l f
    have hprogram := frameDone_program s.room l f
    have hlossless := frameDone_lossless s.room l f
    have hlossy := fun p => frameDone_lossy s.room l f (p := p)
    have hcount := frameDone_count s.room l f
    have htold := (frameDone_course s.room l f).told
    have hlines := frameDone_lineFacts s.room l f
    have hrest := frameDone_rest s.room l f
    have hgrows := frameDone_grows s.room l f
    have hevents : s.room.map.switch = none → ∀ p, LostBy (s.room.line l) f p → _ ∈ (frameDone s.room l f).out :=
      fun hcalm p hlost => hgrows.subset (checkFrame_told s.room l f hcalm hlost)
    have hstands := fun hcalm => (frameDone_held (r := s.room) (l := l) (f := f) hcalm).stands
    have hseat := fun hcalm n p hlost hn => frameDone_seatLost (r := s.room) (l := l) (f := f) (n := n) hcalm (p := p) hlost hn
    have hkept := fun hcalm n hn => frameDone_kept (r := s.room) (l := l) (f := f) (n := n) hcalm hn
    have hprivate := fun hcalm n hn hks => frameDone_private (r := s.room) (l := l) (f := f) (n := n) hcalm hn hks
    have hswitch := fun hcalm n hn p hkept hp => frameDone_told (r := s.room) (l := l) (f := f) (n := n) hcalm hn (p := p) hkept hp
    have hself := fun hcalm hpress => frameDone_self (r := s.room) (l := l) (f := f) hcalm hpress
    have hcalms := fun hcalm hpress => frameDone_stands (r := s.room) (l := l) (f := f) hcalm hpress
    have hmem := mem_keptSlots s.room l f
    generalize frameDone s.room l f = z at *
    rw [hcount] at hlossy
    refine ⟨z.out, z.sent, congrArg _ hact, hpod, haudio, hprogram, hlossless, fun ⟨p, hp⟩ => hlossy p hp, htold, hlines,
      fun hcall => ?_, fun hcalm => ⟨hevents hcalm, hstands hcalm, fun n => ⟨fun p hlost hn => hseat hcalm n p hlost hn,
        fun hn => ?_⟩, fun hpress => ?_⟩⟩
    · obtain ⟨hdark, hfloor, hmix, hcall'⟩ := hrest hcall
      exact ⟨hdark, hcall', hfloor, hmix⟩
    · obtain ⟨htrips, hfeedback, hpresence⟩ := hkept hcalm n hn
      exact ⟨htrips, hfeedback, hpresence, fun hks => hprivate hcalm n hn fun q hq => hks q ((hmem q).1 hq).2,
        fun p hk hp => hswitch hcalm n hn p hk hp⟩
    · have hpress := fun p => pressesOf_calm (hpress p)
      exact ⟨hself hcalm hpress, hcalms hcalm hpress⟩
  · intro s l f p button ⟨⟨hheld, _⟩, hswitch⟩ hans hcalm hothers hpresent hpasses hkind hdropped
    have hcalms := fun q => pressesOf_calm (hcalm q)
    have hgood : (s.room.line l).goodSlot f p = true := by simp [Line.goodSlot, hpasses, hkind, hdropped]
    have hact := State.act_awake s hheld fun r => r.upstream l f
    rw [upstream_none s.room l f hans] at hact
    have hact' := fun st => State.act_awake s hheld fun r => r.upstream l (withStatus f p st)
    simp only [fun st => upstream_none s.room l (withStatus f p st) hans] at hact'
    obtain ⟨st, hst, es, hes, hnone, htaken⟩ : ∃ st, st = pressedStatus button (f.slots.get p).status
        ∧ PressFollows s.room (frameDone s.room l f) (frameDone s.room l (withStatus f p st)) ⟨l, p⟩ button :=
      ⟨_, rfl, frame_pressed s.room l f hswitch (pressedStatus_kind ..) (pressedStatus_privacy ..)
        (pressedStatus_presses button (hcalm p)) hcalms hothers hgood⟩
    specialize hact' st
    rw [hes] at hact'
    generalize frameDone s.room l f = z at *
    generalize frameDone s.room l (withStatus f p st) = z' at *
    refine ⟨z.out, es, z.sent, z'.sent, congrArg _ hact, ?_, hnone, htaken⟩
    rw [hst] at hact'
    cases button <;> exact congrArg _ hact'

end Sys2Proof.Machine.PodLines
end
